-- ==== Sys2Proof/Word.lean ====
section
/-! DEFINITION. The byte of the Plant Link and of the permit digest, and the plain constants of time. Figures that the
spec counts (volumes, masses, currents, times) are natural numbers; only what the spec treats as bits is a bit vector. -/

namespace Sys2Proof

/-- One character's eight data bits (R173). -/
abbrev Byte := BitVec 8

/-- A span or a moment of time in microseconds. -/
abbrev Micros := Nat

/-- One millisecond. -/
abbrev ms : Micros := 1000

/-- One second. -/
abbrev sec : Micros := 1000000

end Sys2Proof
end

