-- ==== Sys2Proof/Syntax.lean ====
section
/-! DEFINITION. The commands of the block: one constructor of `Instr` for each row of spec/opcode_table.json, with the
row's operands. A host request carries the tag and the fields of its frame; an event carries what the plant or the
supply does. Every command begins with `dt`, the microseconds that have passed since the command before it
(assumption 1). -/

namespace Sys2Proof

/-- The twelve switch inputs, in the groups of R17. -/
inductive Switch where
  | tankLow (t : Fin 3)
  | tankHigh (t : Fin 3)
  | sumpLow
  | sumpHigh
  | cellFlow (c : Fin 4)
  deriving DecidableEq, Repr

/-- The fields of SET LINE, as the frame carries them (R64). -/
structure LineFields where
  line : Nat
  enabled : Nat
  filmType : Nat
  fixerVolume : Nat
  washRatio : Nat
  ratedFlow : Nat
  trickle : Nat
  stopTimeout : Nat
  washCycle : Nat
  deriving DecidableEq, Repr

/-- The fields of SET CELL (R37). -/
structure CellFields where
  cell : Nat
  line : Nat
  iMax : Nat
  iFs : Nat
  kc : Nat
  klim : Nat
  cSet : Nat
  eff : Nat
  standby : Nat
  pwmPeriod : Nat
  interval : Nat
  autostart : Nat
  deriving DecidableEq, Repr

/-- The fields of SET CHANNEL (R8). -/
structure ChannelFields where
  channel : Nat
  role : Nat
  edge : Nat
  scale : Nat
  blockSize : Nat
  stale : Nat
  deriving DecidableEq, Repr

/-- The fields of SET ANALYZER (R16). -/
structure AnalyzerFields where
  input : Nat
  span : Nat
  hold : Nat
  deriving DecidableEq, Repr

/-- The fields of SET TANK (R84). -/
structure TankFields where
  tank : Nat
  capacity : Nat
  settle : Nat
  maxFill : Nat
  drainLimit : Nat
  deriving DecidableEq, Repr

/-- The nine fields of SET PLANT (R103). They are also the plant-wide settings as the part keeps them. -/
structure PlantSettings where
  /-- Debounce time, ms. -/
  debounce : Nat
  /-- Sump backup delay, s. -/
  backupDelay : Nat
  /-- Sample flush time, s. -/
  flush : Nat
  /-- Sample window time, s. -/
  window : Nat
  /-- Closing interval, s. -/
  closing : Nat
  /-- Polish turnovers. -/
  turnovers : Nat
  maxPasses : Nat
  exhaustPercent : Nat
  /-- Supply threshold code: 0 4.20 V, 1 4.35 V, 2 4.50 V, 3 4.65 V. -/
  threshold : Nat
  deriving DecidableEq, Repr

/-- One window of a SET PERMIT request. -/
structure WindowFields where
  enabled : Nat
  start : Nat
  stop : Nat
  deriving DecidableEq, Repr

/-- The fields of SET PERMIT, in the order of the permit record (R107). -/
structure PermitFields where
  limit : Nat
  cap : Nat
  reserve : Nat
  minDischarge : Nat
  dayStart : Nat
  window1 : WindowFields
  window2 : WindowFields
  window3 : WindowFields
  window4 : WindowFields
  deriving DecidableEq, Repr

/-- One window of a permit record: a span of the day in minutes. -/
structure Window where
  enabled : Bool
  start : Nat
  stop : Nat
  deriving DecidableEq, Repr

/-- A permit record (the table before R106). -/
structure Permit where
  /-- Concentration limit, µg/L. -/
  limit : Nat
  /-- Day cap, mg. -/
  cap : Nat
  /-- Overrun reserve, mg. -/
  reserve : Nat
  /-- Minimum discharge, mL. -/
  minDischarge : Nat
  /-- Day start minute. -/
  dayStart : Nat
  window1 : Window
  window2 : Window
  window3 : Window
  window4 : Window
  deriving DecidableEq, Repr

/-- A host request of the kind table, as read from its frame: its kind with its fields. The last two are the frames
that steps 2 and 3 of R179 answer. -/
inductive Request where
  | setLine (f : LineFields)
  | setFilmType (entry load : Nat)
  | setCell (f : CellFields)
  | setChannel (f : ChannelFields)
  | setAnalyzer (f : AnalyzerFields)
  | setTank (f : TankFields)
  | setPlant (f : PlantSettings)
  | setPermit (f : PermitFields)
  | setClock (dayCount second : Nat)
  | setAlertMask (enables : Vector Nat 16)
  | setNoticeMask (enables : Vector Nat 33)
  | startCell (cell : Nat)
  | stopCell (cell : Nat)
  | clearCellFault (cell : Nat)
  | closeLot
  | holdLot (lot : Nat)
  | returnLot (lot : Nat)
  | polishLot (lot : Nat)
  | declareHauled (lot : Nat)
  | returnTank (tank : Nat)
  | installCartridge (serial capacity : Nat)
  | removeCartridge (serial : Nat)
  | setDischargeEnable (enable : Nat)
  | clearAlert (kind inst : Nat)
  | resumeLink
  | factoryReset
  | echo (payload : List Byte)
  | readStatus
  | readInputs
  | readLine (line : Nat)
  | readCell (cell : Nat)
  | readLots
  | readLotHistory
  | readDayHistory
  | readPermit
  | readBalance
  | readCartridges
  | readSettings
  /-- A frame whose kind is not in the kind table. -/
  | unknownKind (kind : Byte)
  /-- A frame of a known kind whose payload has not the kind's length. -/
  | badLength (kind : Byte)
  deriving DecidableEq, Repr

/-- The commands the block takes: one for each row of spec/opcode_table.json. -/
inductive Instr where
  -- settings
  | setLine (dt : Micros) (tag : Byte) (f : LineFields)
  | setFilmType (dt : Micros) (tag : Byte) (entry load : Nat)
  | setCell (dt : Micros) (tag : Byte) (f : CellFields)
  | setChannel (dt : Micros) (tag : Byte) (f : ChannelFields)
  | setAnalyzer (dt : Micros) (tag : Byte) (f : AnalyzerFields)
  | setTank (dt : Micros) (tag : Byte) (f : TankFields)
  | setPlant (dt : Micros) (tag : Byte) (f : PlantSettings)
  | setPermit (dt : Micros) (tag : Byte) (f : PermitFields)
  | setClock (dt : Micros) (tag : Byte) (dayCount second : Nat)
  | setAlertMask (dt : Micros) (tag : Byte) (enables : Vector Nat 16)
  | setNoticeMask (dt : Micros) (tag : Byte) (enables : Vector Nat 33)
  -- commands
  | startCell (dt : Micros) (tag : Byte) (cell : Nat)
  | stopCell (dt : Micros) (tag : Byte) (cell : Nat)
  | clearCellFault (dt : Micros) (tag : Byte) (cell : Nat)
  | closeLot (dt : Micros) (tag : Byte)
  | holdLot (dt : Micros) (tag : Byte) (lot : Nat)
  | returnLot (dt : Micros) (tag : Byte) (lot : Nat)
  | polishLot (dt : Micros) (tag : Byte) (lot : Nat)
  | declareHauled (dt : Micros) (tag : Byte) (lot : Nat)
  | returnTank (dt : Micros) (tag : Byte) (tank : Nat)
  | installCartridge (dt : Micros) (tag : Byte) (serial capacity : Nat)
  | removeCartridge (dt : Micros) (tag : Byte) (serial : Nat)
  | setDischargeEnable (dt : Micros) (tag : Byte) (enable : Nat)
  | clearAlert (dt : Micros) (tag : Byte) (kind inst : Nat)
  | resumeLink (dt : Micros) (tag : Byte)
  | factoryReset (dt : Micros) (tag : Byte)
  | echo (dt : Micros) (tag : Byte) (payload : List Byte)
  -- reads
  | readStatus (dt : Micros) (tag : Byte)
  | readInputs (dt : Micros) (tag : Byte)
  | readLine (dt : Micros) (tag : Byte) (line : Nat)
  | readCell (dt : Micros) (tag : Byte) (cell : Nat)
  | readLots (dt : Micros) (tag : Byte)
  | readLotHistory (dt : Micros) (tag : Byte)
  | readDayHistory (dt : Micros) (tag : Byte)
  | readPermit (dt : Micros) (tag : Byte)
  | readBalance (dt : Micros) (tag : Byte)
  | readCartridges (dt : Micros) (tag : Byte)
  | readSettings (dt : Micros) (tag : Byte)
  | unknownKindRequest (dt : Micros) (kind tag : Byte) (payload : List Byte)
  -- measurement inputs
  /-- An edge on a pulse pin; `rising` is its polarity. -/
  | pulseEdge (dt : Micros) (channel : Fin 16) (rising : Bool)
  | blockTimeLimit (dt : Micros) (channel : Fin 16)
  | channelStale (dt : Micros) (channel : Fin 16)
  | analyzerFallingEdge (dt : Micros) (input : Fin 5)
  | analyzerRisingEdge (dt : Micros) (input : Fin 5)
  | analyzerSilence (dt : Micros) (input : Fin 5)
  | analyzerHoldExpired (dt : Micros) (input : Fin 5)
  /-- A switch pin taking a level; `covered` is high level (R17). -/
  | switchPinChange (dt : Micros) (switch : Switch) (covered : Bool)
  | debounceExpired (dt : Micros) (switch : Switch)
  | switchStartingLevels (dt : Micros)
  -- timers of the blocks
  | cellPrimingTimeout (dt : Micros) (cell : Fin 4)
  | cellControlTick (dt : Micros) (cell : Fin 4)
  | cellPwmPeriodStart (dt : Micros) (cell : Fin 4)
  | washCycleStart (dt : Micros) (line : Fin 4)
  | washStopTimeout (dt : Micros) (line : Fin 4)
  | maxFillTimeout (dt : Micros) (tank : Fin 3)
  | sumpBackupDelay (dt : Micros)
  | settleTimerExpired (dt : Micros) (tank : Fin 3)
  | sampleFlushEnd (dt : Micros)
  | sampleWindowEnd (dt : Micros)
  | permitCheckTimer (dt : Micros)
  | clockSecond (dt : Micros)
  | drainTimerExpired (dt : Micros)
  | closingTimerExpired (dt : Micros)
  -- the line
  /-- A received character: its data bits, and whether its stop bit was low. -/
  | linkCharacter (dt : Micros) (byte : Byte) (framingError : Bool)
  | linkGapTimeout (dt : Micros)
  | outboundFrameSent (dt : Micros)
  -- supply, reset and start-up
  /-- The supply falls to `level`, in hundredths of a volt. -/
  | supplyFall (dt : Micros) (level : Nat)
  /-- The supply rises (or, in HOLD, falls back) to `level`, in hundredths of a volt. -/
  | supplyRise (dt : Micros) (level : Nat)
  | supplyRecovery (dt : Micros)
  | supplyBelowReset (dt : Micros) (level : Nat)
  /-- Release of the RESET pin; the levels of the rate straps are those of this start-up. -/
  | resetPin (dt : Micros) (rateSel1 rateSel0 : Bool)
  | powerOn (dt : Micros) (level : Nat) (rateSel1 rateSel0 : Bool)
  /-- The self-test ends: working memory good, retained store readable; and, for the restore that follows, whether the
  image read back matches the CRC it carries (assumption 6). -/
  | selfTestEnd (dt : Micros) (memoryGood storeReadable imageMatches : Bool)
  | imageWriteComplete (dt : Micros)
  | resetPinLow (dt : Micros)
  /-- The memory of the active permit comes to hold these fields and this stored digest. -/
  | permitMemoryFault (dt : Micros) (permit : Permit) (digest : BitVec 32)
  | restoreEnd (dt : Micros)
  deriving DecidableEq, Repr

end Sys2Proof
end

