-- ==== Sys2Proof/Machine/Types.lean ====
section
/-! DEFINITION. The records that State is made of, block by block, as the spec's state tables name them. A record whose
name ends in `Settings`, and every record of `Kept`, is content of the retained image (R188); the others are running
figures, lost at every start-up. -/

namespace Sys2Proof.Machine

open Sys2Proof

/-! ### Shared -/

/-- A running timer: when it started and how long it runs. A stopped timer is `none`. -/
structure Timer where
  start : Micros
  len : Micros
  deriving DecidableEq, Repr

/-- A time as a record carries it (R87): the permit day number, 0 when none is established, and the second of the
day, absent when the clock is UNSET. -/
structure Stamp where
  day : Nat
  second : Option Nat
  deriving DecidableEq, Repr

/-! ### Pulse channels (R2 to R8) -/

/-- The purpose a pulse channel is bound to. -/
inductive Role where
  | noRole
  | footage (l : Fin 4)
  | wash (l : Fin 4)
  | celli (c : Fin 4)
  | transfer
  | outlet
  deriving DecidableEq, Repr

structure ChannelSettings where
  role : Role
  /-- The selected edge is FALLING. -/
  falling : Bool
  scale : Nat
  blockSize : Nat
  /-- Stale time, s. -/
  stale : Nat
  deriving DecidableEq, Repr

/-- An open block: its opening time, the pulses counted, and the last pulse counted (R4, R5). -/
structure OpenBlock where
  t0 : Micros
  count : Nat
  last : Micros
  deriving DecidableEq, Repr

structure Channel where
  count : Nat
  rejected : Nat
  moving : Bool
  rate : Nat
  pulseRate : Nat
  block : Option OpenBlock
  lastEdge : Option Micros
  stale : Option Timer
  deriving DecidableEq, Repr

/-! ### Analyzer inputs (R9 to R16) -/

structure AnalyzerSettings where
  /-- Span, µg/L. -/
  span : Nat
  /-- Hold time, s. -/
  hold : Nat
  deriving DecidableEq, Repr

inductive AnalyzerState where
  | waiting
  | valid
  | faultLow
  | faultHigh
  | lost
  deriving DecidableEq, Repr

/-- A period result (R10). -/
inductive PeriodResult where
  | reading (value : Nat)
  | low
  | high
  deriving DecidableEq, Repr

/-- The period in progress: its rising edge and its falling edge if seen. -/
structure Period where
  rise : Micros
  fall : Option Micros
  deriving DecidableEq, Repr

structure Analyzer where
  state : AnalyzerState
  /-- The last 0 to 4 period results, oldest first. -/
  record : List PeriodResult
  published : Option Nat
  held : Option Nat
  hold : Option Timer
  silence : Option Timer
  period : Option Period
  deriving DecidableEq, Repr

/-- The mark of a reading a consumer is given (R14). -/
inductive ReadingMark where
  | valid
  | held
  | unavailable
  deriving DecidableEq, Repr

/-! ### Switch inputs (R17, R18) -/

structure SwitchInput where
  /-- The pin's level: covered is high. -/
  pin : Bool
  /-- The accepted level, covered or uncovered; absent until the starting levels. -/
  accepted : Option Bool
  debounce : Option Timer
  deriving DecidableEq, Repr

/-! ### Lines and wash loops (R62 to R75) -/

structure LineSettings where
  enabled : Bool
  /-- 0 none, 1 to 16. -/
  filmType : Nat
  fixerVolume : Nat
  washRatio : Nat
  ratedFlow : Nat
  trickle : Nat
  stopTimeout : Nat
  washCycle : Nat
  deriving DecidableEq, Repr

structure LineUnit where
  filmRate : Nat
  filmMoving : Bool
  deriving DecidableEq, Repr

inductive WashState where
  | off
  | running
  | trickle
  | idle
  deriving DecidableEq, Repr

structure WashLoop where
  state : WashState
  target : Option Nat
  backup : Bool
  staged : Option Nat
  applied : Nat
  /-- The cycle in progress: its start and its length. -/
  cycle : Timer
  watched : Bool
  cycleVolume : Nat
  stop : Option Timer
  lowFlow : Nat
  measuredFlow : Nat
  washVolume : Nat
  hold : Bool
  deriving DecidableEq, Repr

/-! ### Recovery cells (R36 to R61) -/

structure CellSettings where
  /-- The bound line; none is bound line 0. -/
  line : Option (Fin 4)
  iMax : Nat
  iFs : Nat
  kc : Nat
  klim : Nat
  cSet : Nat
  eff : Nat
  standby : Nat
  /-- PWM period, ms. -/
  pwmPeriod : Nat
  /-- Control interval, s. -/
  interval : Nat
  autostart : Bool
  deriving DecidableEq, Repr

inductive CellState where
  | off
  | priming
  | regulating
  | holding
  | standby
  | fault
  deriving DecidableEq, Repr

inductive CellFault where
  | noFlow
  | noAnalyzer
  | overcurrent
  | driveMismatch
  deriving DecidableEq, Repr

/-- Limit reason (R51); `noLimit` is the spec's NONE. -/
inductive LimitReason where
  | noLimit
  | zero
  | guarded
  | rated
  deriving DecidableEq, Repr

/-- A duty held with the target it was computed for. -/
structure StagedDuty where
  duty : Nat
  target : Nat
  deriving DecidableEq, Repr

/-- A cell's view of its bound analyzer input (R38). -/
structure AnalyzerView where
  state : AnalyzerState
  heldPresent : Bool
  deriving DecidableEq, Repr

/-- The figures of the target computation (R51). -/
structure TargetFigures where
  c : Nat
  demand : Nat
  iFf : Nat
  iCorr : Int
  iRaw : Int
  iGuard : Nat
  iCeil : Nat
  deriving DecidableEq, Repr

/-- What steps 1 and 2 of a tick found (R56, R57). -/
inductive TickCheck where
  | overcurrent
  | mismatch
  | pass
  | skipped
  deriving DecidableEq, Repr

/-- What steps 3 to 6 of a tick computed. -/
structure TickOutcome where
  state : CellState
  /-- The reading used and its mark; absent in STANDBY. -/
  reading : Option (Nat × ReadingMark)
  figures : Option TargetFigures
  target : Nat
  limit : LimitReason
  duty : Nat
  deriving DecidableEq, Repr

/-- The last tick record (R50). `outcome` is absent for a tick that ended in FAULT. -/
structure TickRecord where
  time : Micros
  measured : Nat
  /-- The applied target that the tick found (DEDUCED: assumption 43). -/
  applied : Nat
  check : TickCheck
  outcome : Option TickOutcome
  deriving DecidableEq, Repr

structure Cell where
  state : CellState
  fault : Option CellFault
  target : Nat
  limit : LimitReason
  staged : Option StagedDuty
  appliedDuty : Nat
  appliedTarget : Nat
  appliedSince : Micros
  /-- The PWM period in progress: its start and its length. -/
  pwm : Timer
  control : Option Timer
  priming : Option Timer
  mismatch : Nat
  flowCovered : Bool
  view : AnalyzerView
  lastTick : Option TickRecord
  hold : Bool
  deriving DecidableEq, Repr

/-! ### Silver Accounts (R22) -/

/-- A FILM_IN account: whole mg and a µg residue. -/
structure FilmAccount where
  mg : Nat
  residue : Nat
  deriving DecidableEq, Repr

/-- A PLATED account: whole mg, the µg sub-account, and the plating residue in hundredths of a picogram. -/
structure PlatedAccount where
  mg : Nat
  micro : Nat
  residue : Nat
  deriving DecidableEq, Repr

/-- A mass in whole mg with an ng residue. -/
structure NanoAccount where
  mg : Nat
  residue : Nat
  deriving DecidableEq, Repr

structure Accounts where
  filmIn : Vector FilmAccount 4
  plated : Vector PlatedAccount 4
  cartridgeLoaded : Nat
  cartridgeRemoved : Nat
  discharged : NanoAccount
  hauled : NanoAccount
  deriving DecidableEq, Repr

/-! ### Sump, tanks and lots (R76 to R105) -/

structure TankSettings where
  capacity : Nat
  /-- Settle time, s. -/
  settle : Nat
  /-- Max fill time, h; 0 means none. -/
  maxFill : Nat
  /-- Drain limit, s. -/
  drainLimit : Nat
  deriving DecidableEq, Repr

inductive TankState where
  | empty
  | filling
  | closed
  | draining
  | outOfService
  deriving DecidableEq, Repr

inductive LotState where
  | filling
  | settling
  | sampleWait
  | sampling
  | queued
  | discharging
  | polishWait
  | polishing
  | held
  deriving DecidableEq, Repr

inductive HoldReason where
  | sampleFailed
  | polishExhausted
  | drainTimeout
  | levelLost
  | switchFault
  | unknownContent
  | byRequest
  deriving DecidableEq, Repr

/-- A live lot's record. Its tank is the tank whose `Tank.lot` it is (R79). -/
structure Lot where
  number : Nat
  state : LotState
  opened : Stamp
  closed : Option Stamp
  filled : Nat
  current : Nat
  concentration : Option Nat
  previous : Option Nat
  removalPending : Bool
  passes : Nat
  hostPass : Bool
  attempts : Nat
  holdReason : Option HoldReason
  dischargedVolume : Nat
  dischargedMass : NanoAccount
  shortfall : Nat
  excess : Nat
  volumeSuspect : Bool
  removalNegative : Bool
  /-- The tank settings in force for this lot, those its tank had when it was opened (R84, R192; assumption 14). -/
  settings : TankSettings
  deriving DecidableEq, Repr

/-- A tank as the retained image holds it: its state, and the lot in it or none. -/
structure Tank where
  state : TankState
  lot : Option Lot
  deriving DecidableEq, Repr

inductive Disposition where
  | discharged
  | hauled
  deriving DecidableEq, Repr

/-- A record of Lot History (R99). -/
structure LotRecord where
  number : Nat
  tank : Fin 3
  disposition : Disposition
  opened : Stamp
  closed : Option Stamp
  ended : Stamp
  filled : Nat
  concentration : Option Nat
  previous : Option Nat
  passes : Nat
  dischargedVolume : Nat
  dischargedMass : NanoAccount
  hauledMass : Nat
  shortfall : Nat
  excess : Nat
  volumeSuspect : Bool
  removalNegative : Bool
  massUnknown : Bool
  deriving DecidableEq, Repr

/-- Tank Control's sump state (the table before R76). -/
structure Sump where
  pump : Bool
  callMark : Bool
  backupTimer : Option Timer
  backup : Bool
  strayTransfer : Nat
  hold : Bool
  /-- Tank Control has taken the starting levels (R102). -/
  levelsTaken : Bool
  deriving DecidableEq, Repr

/-- The two timers of a tank: its max fill timer and the settle timer of the lot in it. -/
structure TankTimers where
  maxFill : Option Timer
  settle : Option Timer
  deriving DecidableEq, Repr

inductive SamplerState where
  | idle
  | flushing
  | window
  deriving DecidableEq, Repr

structure Sampler where
  state : SamplerState
  lot : Option Nat
  flush : Option Timer
  window : Option Timer
  count : Nat
  sum : Nat
  hold : Bool
  deriving DecidableEq, Repr

/-! ### Permit, clock and permit day (R106 to R125) -/

structure PermitKept where
  active : Option Permit
  digest : Option (BitVec 32)
  corrupt : Bool
  next : Option Permit
  deriving DecidableEq, Repr

structure PermitRun where
  check : Option Timer
  enable : Bool
  windowOpen : Bool
  deriving DecidableEq, Repr

structure Clock where
  running : Bool
  second : Nat
  dayCount : Nat
  deriving DecidableEq, Repr

structure DayFlags where
  dayUnknown : Bool
  capReached : Bool
  permitCorrupt : Bool
  deriving DecidableEq, Repr

/-- The permit day and its figures (R114, R118 to R120). -/
structure Day where
  number : Nat
  established : Bool
  dayStart : Nat
  /-- The day discharge total with its ng residue. -/
  total : NanoAccount
  volume : Nat
  lots : Nat
  wash : Nat
  plated : Nat
  flags : DayFlags
  /-- DAY_UNKNOWN. -/
  unknown : Bool
  deriving DecidableEq, Repr

/-- A Day Record (R121). -/
structure DayRecord where
  number : Nat
  cap : Option Nat
  mass : Nat
  volume : Nat
  lots : Nat
  wash : Nat
  plated : Nat
  flags : DayFlags
  deriving DecidableEq, Repr

/-! ### The Outlet Path (R126 to R150) -/

inductive PathState where
  | idle
  | discharge
  | polish
  | stopping
  deriving DecidableEq, Repr

inductive PathUse where
  | discharge
  | polish
  deriving DecidableEq, Repr

inductive Grant where
  | volume (mL : Nat)
  | unbounded
  deriving DecidableEq, Repr

inductive StopCause where
  | grantMet
  | drained
  | windowClosed
  | disabled
  | permitCorrupt
  | rollover
  | byRequest
  | switchFault
  | drainTimeout
  | passComplete
  | levelLost
  | supplyHold
  deriving DecidableEq, Repr

structure Path where
  state : PathState
  lot : Option Nat
  use : Option PathUse
  tank : Option (Fin 3)
  grant : Option Grant
  metered : Nat
  passTarget : Option Nat
  polishVolume : Nat
  drain : Option Timer
  closing : Option Timer
  stopCause : Option StopCause
  overrun : Nat
  stray : Nat
  hold : Bool
  /-- The history record of the stopped lot, once Lot History has dropped it (R141; assumption 21). -/
  dropped : Option LotRecord
  /-- The decision at the end of start-up has been made (R128, R149). -/
  started : Bool
  deriving DecidableEq, Repr

/-! ### The Cartridge Train (R151 to R160) -/

structure Cartridge where
  serial : Nat
  capacity : Nat
  loaded : Nat
  installed : Stamp
  exhausted : Bool
  deriving DecidableEq, Repr

/-! ### Alerts and notices (R161 to R172) -/

/-- The 28 alert flags: 16 kinds with their instances (R161). -/
inductive Flag where
  | sumpBackup
  | washLow (l : Fin 4)
  | cellFault (c : Fin 4)
  | analyzerFault (a : Fin 5)
  | tankSwitchFault (t : Fin 3)
  | drainTimeout
  | lotHeld
  | cartridgeExhausted
  | permitCorrupt
  | capReached
  | clockUnset
  | outletLeak
  | linkFault
  | restoreFailed
  | selfTestFailed
  | supplyLow
  deriving DecidableEq, Repr

structure FlagRecord where
  latched : Bool
  time : Option Stamp
  deriving DecidableEq, Repr

inductive LotEventKind where
  | closed
  | queued
  | held
  | left
  deriving DecidableEq, Repr

/-- The content of a notice (R167). -/
inductive NoticeContent where
  /-- An alert flag LATCHED (`latched`) or CLEARED: kind, instance, latch time, and whether the condition is present. -/
  | alert (kind inst : Nat) (latched : Bool) (time : Option Stamp) (condition : Bool)
  /-- A lot event (R100). -/
  | lot (event : LotEventKind) (number : Nat) (state : LotState) (current : Nat) (concentration : Option Nat)
      (reason : Option HoldReason) (disposition : Option Disposition)
  /-- "started" of a discharge: lot, tank, grant, remaining allowance, permit day number (R148). -/
  | startedDischarge (lot : Nat) (tank : Fin 3) (grant : Grant) (remaining : Int) (day : Nat)
  /-- "started" of a polish: lot, tank, pass target, permit day number. -/
  | startedPolish (lot : Nat) (tank : Fin 3) (passTarget day : Nat)
  /-- "ended" of a discharge: lot, tank, stop cause, metered volume, the lot's current volume, excess, shortfall and
  discharged mass, and the overrun volume. -/
  | endedDischarge (lot : Nat) (tank : Fin 3) (cause : StopCause) (metered : Nat) (current : Option Nat)
      (excess shortfall mass overrun : Nat)
  /-- "ended" of a polish: lot, tank, stop cause, polish volume, the lot's passes, and the overrun volume. -/
  | endedPolish (lot : Nat) (tank : Fin 3) (cause : StopCause) (polishVolume passes overrun : Nat)
  | rollover (record : DayRecord)
  deriving DecidableEq, Repr

structure Notice where
  /-- The notice key, counted from 0: key n of the spec is `n - 1`. -/
  key : Fin 33
  content : NoticeContent
  merged : Nat
  deriving DecidableEq, Repr

/-! ### The retained image (R188) -/

/-- Everything the retained image holds. The part's working copy is `State.kept`, and the content of a stored image is
another value of this type. -/
structure Kept where
  channels : Vector ChannelSettings 16
  analyzers : Vector AnalyzerSettings 5
  films : Vector Nat 16
  lines : Vector LineSettings 4
  cells : Vector CellSettings 4
  tankSettings : Vector TankSettings 3
  plant : PlantSettings
  alertMask : Vector Bool 16
  noticeMask : Vector Bool 33
  accounts : Accounts
  permit : PermitKept
  day : Day
  dayHistory : List DayRecord
  tanks : Vector Tank 3
  dischargeQueue : List Nat
  polishWait : List Nat
  sampleWait : List Nat
  nextLot : Nat
  history : List LotRecord
  train : List Cartridge
  deriving DecidableEq, Repr

inductive WriteKind where
  | supplyLow
  | checkpoint
  deriving DecidableEq, Repr

/-- A write in flight: its kind and the image content it captured when it started. -/
structure ImageWrite where
  kind : WriteKind
  content : Kept
  deriving DecidableEq, Repr

/-- The image as the store holds it: its content, and the CRC-32 written with it. -/
structure StoredImage where
  content : Kept
  crc : BitVec 32
  deriving DecidableEq, Repr

/-- The Retained Store: the stored image (none while it is invalid), the write in flight and the pending write. -/
structure Store where
  image : Option StoredImage
  inFlight : Option ImageWrite
  waiting : Option WriteKind
  deriving DecidableEq, Repr

/-! ### Replies (R180, R181, and the entries of the requests) -/

/-- The reply statuses of R180. -/
inductive Status where
  | ok
  | unknownKind
  | badLength
  | outOfRange
  | wrongState
  | held
  | overrun
  | supplyLow
  deriving DecidableEq, Repr

/-- The result of CLEAR ALERT for one named flag (R164). -/
inductive ClearResult where
  | notLatched
  | cleared
  | kept
  deriving DecidableEq, Repr

inductive DamageCause where
  | badLengthField
  | framing
  | gap
  | badCheck
  deriving DecidableEq, Repr

/-- The link fault record (R176). -/
structure FaultRecord where
  cause : DamageCause
  bytes : Nat
  tag : Option Byte
  damaged : Nat
  deriving DecidableEq, Repr

/-- One flag as READ STATUS reports it (R172). -/
structure FlagFigures where
  latched : Bool
  time : Option Stamp
  condition : Bool
  deriving DecidableEq, Repr

/-- The Outlet Path's figures (R150). -/
structure PathFigures where
  state : PathState
  hold : Bool
  lot : Option Nat
  tank : Option (Fin 3)
  use : Option PathUse
  grant : Option Grant
  metered : Nat
  passTarget : Option Nat
  polishVolume : Nat
  drainLeft : Nat
  closingLeft : Nat
  stopCause : Option StopCause
  overrun : Nat
  stray : Nat
  deriving DecidableEq, Repr

/-- The body of READ STATUS (R172). -/
structure StatusFigures where
  flags : List FlagFigures
  alertMask : Vector Bool 16
  alertActive : Bool
  noticeMask : Vector Bool 33
  /-- The pending keys in order, each with its merged count. -/
  pendingKeys : List (Fin 33 × Nat)
  supplyHold : Bool
  selfTestPassed : Bool
  restored : Bool
  clockRunning : Bool
  dayNumber : Nat
  dayEstablished : Bool
  dayUnknown : Bool
  permitUsable : Bool
  enable : Bool
  cells : List CellState
  loops : List WashState
  tanks : List (TankState × Option Nat)
  linkFaulted : Bool
  path : PathFigures
  deriving DecidableEq, Repr

structure ChannelFigures where
  settings : ChannelSettings
  count : Nat
  rejected : Nat
  moving : Bool
  rate : Nat
  pulseRate : Nat
  blockCount : Nat
  deriving DecidableEq, Repr

structure AnalyzerFigures where
  settings : AnalyzerSettings
  state : AnalyzerState
  published : Option Nat
  held : Option Nat
  holdLeft : Nat
  record : List PeriodResult
  deriving DecidableEq, Repr

/-- The body of READ INPUTS (R19). -/
structure InputFigures where
  channels : List ChannelFigures
  analyzers : List AnalyzerFigures
  /-- For each switch: its accepted level, and whether a debounce timer is running. -/
  switches : List (Option Bool × Bool)
  strayTransfer : Nat
  strayOutlet : Nat
  deriving DecidableEq, Repr

/-- The body of READ LINE (R75). -/
structure LineFigures where
  settings : LineSettings
  filmRate : Nat
  filmMoving : Bool
  footageChannel : Option (Fin 16)
  filmIn : FilmAccount
  cell : Option (Fin 4)
  state : WashState
  target : Option Nat
  backup : Bool
  hold : Bool
  staged : Option Nat
  applied : Nat
  cycleElapsed : Nat
  cycleLength : Nat
  watched : Bool
  cycleVolume : Nat
  commanded : Nat
  stopLeft : Nat
  lowFlow : Nat
  measuredFlow : Nat
  washChannel : Option (Fin 16)
  washVolume : Nat
  deriving DecidableEq, Repr

/-- The body of READ CELL (R61). -/
structure CellFigures where
  settings : CellSettings
  state : CellState
  fault : Option CellFault
  hold : Bool
  target : Nat
  limit : LimitReason
  staged : Option StagedDuty
  appliedDuty : Nat
  appliedTarget : Nat
  /-- Time since the applied duty took effect, µs. -/
  appliedFor : Micros
  measured : Nat
  mismatch : Nat
  controlLeft : Nat
  primingLeft : Nat
  flowCovered : Bool
  view : AnalyzerView
  reading : Option Nat
  mark : ReadingMark
  lastTick : Option TickRecord
  plated : PlatedAccount
  deriving DecidableEq, Repr

structure TankFigures where
  settings : TankSettings
  state : TankState
  lot : Option Nat
  maxFillLeft : Nat
  deriving DecidableEq, Repr

/-- A live lot as READ LOTS returns it: its tank, its record, and the seconds left on its settle timer. -/
structure LotFigures where
  tank : Fin 3
  record : Lot
  settleLeft : Nat
  deriving DecidableEq, Repr

/-- The body of READ LOTS (R104). -/
structure LotsFigures where
  tanks : List TankFigures
  lots : List LotFigures
  dischargeQueue : List Nat
  polishWait : List Nat
  sampleWait : List Nat
  samplerState : SamplerState
  samplerLot : Option Nat
  samplerLeft : Nat
  readingsTaken : Nat
  pump : Bool
  callMark : Bool
  backupLeft : Nat
  backup : Bool
  nextLot : Nat
  deriving DecidableEq, Repr

/-- The body of READ DAY HISTORY (R122). -/
structure DayFigures where
  history : List DayRecord
  day : Day
  remaining : Option Int
  deriving DecidableEq, Repr

/-- The body of READ PERMIT (R124). -/
structure PermitFigures where
  active : Option Permit
  digest : Option (BitVec 32)
  corrupt : Bool
  checkLeft : Nat
  next : Option Permit
  windowOpen : Bool
  /-- Whether each of the four windows is open at the present minute. -/
  windows : List Bool
  enable : Bool
  clock : Clock
  deriving DecidableEq, Repr

/-- One line's part of READ BALANCE (R34). -/
structure LineTerm where
  reading : Nat
  mark : ReadingMark
  fixerVolume : Nat
  term : Nat
  deriving DecidableEq, Repr

/-- One live lot's part of READ BALANCE. -/
structure LotTerm where
  number : Nat
  concentration : Option Nat
  current : Nat
  term : Nat
  deriving DecidableEq, Repr

/-- The body of READ BALANCE (R34). -/
structure BalanceFigures where
  filmIn : List Nat
  plated : List Nat
  cartridgeLoaded : Nat
  cartridgeRemoved : Nat
  discharged : Nat
  hauled : Nat
  lines : List LineTerm
  fixerInventory : Nat
  lots : List LotTerm
  lotContents : Nat
  unaccounted : Int
  deriving DecidableEq, Repr

structure CartridgeFigures where
  cartridge : Cartridge
  threshold : Nat
  room : Nat
  deriving DecidableEq, Repr

/-- The body of READ CARTRIDGES (R159); the number of cartridges is the length of `cartridges`. -/
structure TrainFigures where
  cartridges : List CartridgeFigures
  hasActive : Bool
  exhaustPercent : Nat
  loaded : Nat
  removed : Nat
  /-- The live lots whose removal pending mark is set, in tank order. -/
  awaited : List Nat
  deriving DecidableEq, Repr

/-- The body of READ SETTINGS (R185). -/
structure SettingsFigures where
  channels : Vector ChannelSettings 16
  analyzers : Vector AnalyzerSettings 5
  films : Vector Nat 16
  lines : Vector LineSettings 4
  cells : Vector CellSettings 4
  tanks : Vector TankSettings 3
  plant : PlantSettings
  alertMask : Vector Bool 16
  noticeMask : Vector Bool 33
  bitRate : Nat
  deriving DecidableEq, Repr

/-- The body of an OK reply, as the request's entry gives it. -/
inductive ReplyBody where
  /-- No body: every refusal, and an OK whose entry gives none. -/
  | empty
  | staged
  | activated (digest : BitVec 32)
  | clockSet (dayNumber : Nat) (rolledOver : Bool)
  | noticesDiscarded (number : Nat)
  | lotClosed (lot : Nat) (tank : Fin 3)
  | lotHeld (before : LotState)
  | hauled (mass : Nat)
  | cartridgeInstalled (place : Nat) (exhausted : Bool) (threshold : Nat)
  | cartridgeRemoved (cartridge : Cartridge) (left : Nat)
  | alertsCleared (results : List ClearResult) (marks : List Bool)
  | linkResumed (wasFaulted : Bool) (record : Option FaultRecord) (huntDiscards damagedFrames overrunReplies
      silentDiscards behind : Nat)
  | echoed (payload : List Byte)
  | status (f : StatusFigures)
  | inputs (f : InputFigures)
  | line (f : LineFigures)
  | cell (f : CellFigures)
  | lots (f : LotsFigures)
  | lotHistory (records : List LotRecord)
  | dayHistory (f : DayFigures)
  | permit (f : PermitFigures)
  | balance (f : BalanceFigures)
  | cartridges (f : TrainFigures)
  | settings (f : SettingsFigures)
  deriving DecidableEq, Repr

/-- What serving a request answers: the status, and the body of an OK. -/
structure Reply where
  status : Status
  body : ReplyBody
  deriving DecidableEq, Repr

/-! ### The Plant Link (R173 to R186) -/

inductive ReceiverState where
  | hunt
  | length
  | body
  | check
  deriving DecidableEq, Repr

/-- The receiver: its state, the bytes since the start byte (that byte included), and the gap timer. -/
structure Receiver where
  state : ReceiverState
  bytes : List Byte
  gap : Option Timer
  deriving DecidableEq, Repr

/-- A good request frame in the Inbound Queue: its kind, tag and request, and its FAULTED mark. -/
structure InFrame where
  kind : Byte
  tag : Byte
  request : Request
  faulted : Bool
  deriving DecidableEq, Repr

/-- A frame of the Outbound Queue: one segment of a reply, or a notice. A reply frame holds the whole reply's body,
of which it carries the bytes of its segment (R181). -/
inductive OutFrame where
  | reply (kind tag : Byte) (reply : Reply) (segment count : Nat)
  | notice (notice : Notice)
  deriving DecidableEq, Repr

structure Link where
  bitRate : Nat
  receiver : Receiver
  inbound : List InFrame
  reserved : Nat
  outbound : List OutFrame
  faulted : Bool
  fault : Option FaultRecord
  huntDiscards : Nat
  damagedFrames : Nat
  overrunReplies : Nat
  silentDiscards : Nat
  notices : List Notice
  deriving DecidableEq, Repr

/-! ### Supply and start-up (R187 to R192) -/

/-- Where the part stands between power and running: held in reset, in the self-test, restoring, or running. -/
inductive Phase where
  | held
  | selfTest
  | restoring
  | running
  deriving DecidableEq, Repr

structure Supply where
  /-- The supply, in hundredths of a volt. -/
  level : Nat
  /-- HOLD (as against NORMAL). -/
  hold : Bool
  recovery : Option Timer
  deriving DecidableEq, Repr

/-- The results of the last start-up. -/
structure StartUp where
  selfTestPassed : Bool
  /-- The restore succeeded. -/
  restored : Bool
  /-- The condition of RESTORE_FAILED: no write has completed since the restore failed (R161, R188). -/
  restoreStands : Bool
  /-- The wait of one debounce time from the end of the restore to the starting levels (R18). -/
  levels : Option Timer
  deriving DecidableEq, Repr

end Sys2Proof.Machine
end

