-- ==== Sys2Proof/Config.lean ====
section
/-! DEFINITION. What the spec leaves open, as free values: constants with no body, so that a claim holds whatever they
are. Nothing in the model chooses them. -/

namespace Sys2Proof.Config

open Sys2Proof Sys2Proof.Machine

/-- Which of two claims or orders is taken first where a rule says that either may be (R111, R169, R178, R188). The argument
counts the choices made so far (`State.choices`). DESIGN CHOICE, safe: assumption 7. -/
opaque freeChoice : Nat → Bool

/-- The bytes of a reply body whose layout the spec does not give; the spec gives what the body carries, not how the
figures are laid out. Only its length bears on the machine, through the number of segments (R181).
DESIGN CHOICE, safe: assumption 8. -/
opaque figureBytes : ReplyBody → List Byte

/-- The bytes of a reply body before the part whose layout the spec does give: the lot records of READ LOTS, the Day
Records of READ DAY HISTORY, the digest of READ PERMIT and the unaccounted figure of READ BALANCE.
DESIGN CHOICE, safe: assumption 8. -/
opaque bytesBefore : ReplyBody → List Byte

/-- The bytes of those bodies after that part. DESIGN CHOICE, safe: assumption 8. -/
opaque bytesAfter : ReplyBody → List Byte

/-- The bytes of a notice's content after the notice header, for the keys whose content has no layout in the spec. A
notice is one frame, so only as many as its payload has room for count (R174).
DESIGN CHOICE, safe: assumption 8. -/
opaque noticeBytes : NoticeContent → List Byte

/-- The bytes of the bit rate at the end of a READ SETTINGS reply, whose encoding the spec does not give (R185).
DESIGN CHOICE, safe: assumption 8. -/
opaque rateBytes : Nat → List Byte

/-- The bytes over which the CRC-32 of a retained image is taken: the spec gives the image's content and not its layout
(R188). DESIGN CHOICE, safe: assumption 8. -/
opaque imageBytes : Kept → List Byte

/-- The current volume that "ended" carries for a lot hauled within the closing interval, from its history record and the
moment: a history record holds no current volume (R99, R148). DESIGN CHOICE, safe: assumption 27. -/
opaque hauledVolume : LotRecord → Micros → Option Nat

end Sys2Proof.Config
end

