-- ==== Sys2Proof/Machine/Bytes.lean ====
section
/-! DEFINITION. Byte order and the two checks: numbers most significant byte first (R174), the CRC-16 of a frame
(R174) and the CRC-32 of a permit and of the retained image (R109, R188). -/

namespace Sys2Proof.Machine

open Sys2Proof

/-- The number `n` in `k` bytes, most significant byte first. -/
def beBytes : Nat → Nat → List Byte
  | 0, _ => []
  | k + 1, n => BitVec.ofNat 8 (n / 256 ^ k) :: beBytes k n

/-- The signed number `n` in `k` bytes, in two's complement, most significant byte first (R33). -/
def signedBytes (k : Nat) (n : Int) : List Byte :=
  beBytes k (BitVec.ofInt (8 * k) n).toNat

/-- The number that some bytes carry, most significant byte first. -/
def beNat (bytes : List Byte) : Nat :=
  bytes.foldl (fun a b => a * 256 + b.toNat) 0

/-- One bit of the CRC-16: polynomial 0x1021, most significant bit first. -/
def crc16Bit (c : BitVec 16) : BitVec 16 :=
  if c.msb then (c <<< 1) ^^^ 0x1021#16 else c <<< 1

/-- One byte of the CRC-16. -/
def crc16Byte (c : BitVec 16) (b : Byte) : BitVec 16 :=
  (List.range 8).foldl (fun c _ => crc16Bit c) (c ^^^ (b.setWidth 16 <<< 8))

/-- The check of a frame: initial value 0xFFFF, no reflection, no final inversion (R174). -/
def crc16 (bytes : List Byte) : BitVec 16 :=
  bytes.foldl crc16Byte 0xFFFF#16

/-- The two bytes of a check, high byte first. -/
def checkBytes (c : BitVec 16) : List Byte :=
  beBytes 2 c.toNat

/-- One bit of the CRC-32: polynomial 0x04C11DB7 in reflected form. -/
def crc32Bit (c : BitVec 32) : BitVec 32 :=
  if c.getLsbD 0 then (c >>> 1) ^^^ 0xEDB88320#32 else c >>> 1

/-- One byte of the CRC-32, least significant bit first. -/
def crc32Byte (c : BitVec 32) (b : Byte) : BitVec 32 :=
  (List.range 8).foldl (fun c _ => crc32Bit c) (c ^^^ b.setWidth 32)

/-- The CRC-32 of R109: initial value all ones, the final remainder inverted. -/
def crc32 (bytes : List Byte) : BitVec 32 :=
  ~~~ (bytes.foldl crc32Byte 0xFFFFFFFF#32)

def bit (b : Bool) : Nat :=
  if b then 1 else 0

def windowBytes (w : Window) : List Byte :=
  beBytes 1 (bit w.enabled) ++ beBytes 2 w.start ++ beBytes 2 w.stop

/-- The 38 bytes of a permit (R109). -/
def permitBytes (p : Permit) : List Byte :=
  beBytes 4 p.limit ++ beBytes 4 p.cap ++ beBytes 4 p.reserve ++ beBytes 4 p.minDischarge ++ beBytes 2 p.dayStart
    ++ windowBytes p.window1 ++ windowBytes p.window2 ++ windowBytes p.window3 ++ windowBytes p.window4

/-- The digest of a permit (R109). -/
def digestOf (p : Permit) : BitVec 32 :=
  crc32 (permitBytes p)

end Sys2Proof.Machine
end

