-- ==== Sys2Proof/Machine/Operands.lean ====
section
/-! DEFINITION. The kind table and the layouts of Chapter 10: the payload of every request, both ways, the ranges of
the fields, the settings that fields write, and the bytes of replies and notices that the spec lays out. -/

namespace Sys2Proof

open Machine

/-! ### Fields of a payload (R174) -/

/-- Fields of the given widths laid one after another. -/
def pack : List Nat → List Nat → List Byte
  | w :: ws, v :: vs => beBytes w v ++ pack ws vs
  | _, _ => []

/-- The fields of the given widths that some bytes carry. -/
def unpack : List Nat → List Byte → List Nat
  | [], _ => []
  | w :: ws, bytes => beNat (bytes.take w) :: unpack ws (bytes.drop w)

/-- Field `i` of a payload, from 0. -/
def nth (fs : List Nat) (i : Nat) : Nat :=
  fs.getD i 0

/-- A row of the kind table, with the width of each field in bytes. -/
structure KindRow where
  code : Nat
  widths : List Nat
  places : Nat
  /-- The request that the fields make. -/
  make : List Nat → Request

/-- One window of SET PERMIT, whose three fields begin at field `i`. -/
def windowFields (fs : List Nat) (i : Nat) : WindowFields :=
  { enabled := nth fs i, start := nth fs (i + 1), stop := nth fs (i + 2) }

/-- The rows of the settings requests. -/
def settingRows : List KindRow :=
  [ { code := 0x10, widths := [1, 1, 1, 4, 2, 4, 4, 2, 1], places := 1, make := fun f => .setLine
        { line := nth f 0, enabled := nth f 1, filmType := nth f 2, fixerVolume := nth f 3, washRatio := nth f 4,
          ratedFlow := nth f 5, trickle := nth f 6, stopTimeout := nth f 7, washCycle := nth f 8 } },
    { code := 0x11, widths := [1, 2], places := 1, make := fun f => .setFilmType (nth f 0) (nth f 1) },
    { code := 0x12, widths := [1, 1, 4, 4, 2, 2, 2, 1, 4, 1, 1, 1], places := 1, make := fun f => .setCell
        { cell := nth f 0, line := nth f 1, iMax := nth f 2, iFs := nth f 3, kc := nth f 4, klim := nth f 5,
          cSet := nth f 6, eff := nth f 7, standby := nth f 8, pwmPeriod := nth f 9, interval := nth f 10,
          autostart := nth f 11 } },
    { code := 0x13, widths := [1, 1, 1, 2, 2, 1], places := 1, make := fun f => .setChannel
        { channel := nth f 0, role := nth f 1, edge := nth f 2, scale := nth f 3, blockSize := nth f 4,
          stale := nth f 5 } },
    { code := 0x14, widths := [1, 4, 2], places := 1, make := fun f => .setAnalyzer
        { input := nth f 0, span := nth f 1, hold := nth f 2 } },
    { code := 0x15, widths := [1, 4, 2, 1, 2], places := 1, make := fun f => .setTank
        { tank := nth f 0, capacity := nth f 1, settle := nth f 2, maxFill := nth f 3, drainLimit := nth f 4 } },
    { code := 0x16, widths := [2, 2, 2, 2, 1, 1, 1, 1, 1], places := 1, make := fun f => .setPlant
        { debounce := nth f 0, backupDelay := nth f 1, flush := nth f 2, window := nth f 3, closing := nth f 4,
          turnovers := nth f 5, maxPasses := nth f 6, exhaustPercent := nth f 7, threshold := nth f 8 } },
    { code := 0x17, widths := [4, 4, 4, 4, 2, 1, 2, 2, 1, 2, 2, 1, 2, 2, 1, 2, 2], places := 1,
      make := fun f => .setPermit
        { limit := nth f 0, cap := nth f 1, reserve := nth f 2, minDischarge := nth f 3, dayStart := nth f 4,
          window1 := windowFields f 5, window2 := windowFields f 8, window3 := windowFields f 11,
          window4 := windowFields f 14 } },
    { code := 0x18, widths := [2, 4], places := 1, make := fun f => .setClock (nth f 0) (nth f 1) },
    { code := 0x19, widths := List.replicate 16 1, places := 1,
      make := fun f => .setAlertMask (Vector.ofFn fun i => nth f i.val) },
    { code := 0x1A, widths := List.replicate 33 1, places := 1,
      make := fun f => .setNoticeMask (Vector.ofFn fun i => nth f i.val) } ]

/-- The rows of the commands, ECHO apart. -/
def commandRows : List KindRow :=
  [ { code := 0x20, widths := [1], places := 1, make := fun f => .startCell (nth f 0) },
    { code := 0x21, widths := [1], places := 1, make := fun f => .stopCell (nth f 0) },
    { code := 0x22, widths := [1], places := 1, make := fun f => .clearCellFault (nth f 0) },
    { code := 0x23, widths := [], places := 1, make := fun _ => .closeLot },
    { code := 0x24, widths := [2], places := 1, make := fun f => .holdLot (nth f 0) },
    { code := 0x25, widths := [2], places := 1, make := fun f => .returnLot (nth f 0) },
    { code := 0x26, widths := [2], places := 1, make := fun f => .polishLot (nth f 0) },
    { code := 0x27, widths := [2], places := 1, make := fun f => .declareHauled (nth f 0) },
    { code := 0x28, widths := [1], places := 1, make := fun f => .returnTank (nth f 0) },
    { code := 0x29, widths := [2, 4], places := 1, make := fun f => .installCartridge (nth f 0) (nth f 1) },
    { code := 0x2A, widths := [2], places := 1, make := fun f => .removeCartridge (nth f 0) },
    { code := 0x2B, widths := [1], places := 1, make := fun f => .setDischargeEnable (nth f 0) },
    { code := 0x2C, widths := [1, 1], places := 1, make := fun f => .clearAlert (nth f 0) (nth f 1) },
    { code := 0x2D, widths := [], places := 1, make := fun _ => .resumeLink },
    { code := 0x2E, widths := [], places := 1, make := fun _ => .factoryReset } ]

/-- The rows of the reads. -/
def readRows : List KindRow :=
  [ { code := 0x40, widths := [], places := 2, make := fun _ => .readStatus },
    { code := 0x41, widths := [], places := 3, make := fun _ => .readInputs },
    { code := 0x42, widths := [1], places := 1, make := fun f => .readLine (nth f 0) },
    { code := 0x43, widths := [1], places := 1, make := fun f => .readCell (nth f 0) },
    { code := 0x44, widths := [], places := 2, make := fun _ => .readLots },
    { code := 0x45, widths := [], places := 5, make := fun _ => .readLotHistory },
    { code := 0x46, widths := [], places := 2, make := fun _ => .readDayHistory },
    { code := 0x47, widths := [], places := 1, make := fun _ => .readPermit },
    { code := 0x48, widths := [], places := 2, make := fun _ => .readBalance },
    { code := 0x49, widths := [], places := 1, make := fun _ => .readCartridges },
    { code := 0x4A, widths := [], places := 2, make := fun _ => .readSettings } ]

/-- The kind table, ECHO apart. Its last row, 0x60, is a notice's, which the part sends: a host frame of that kind finds
no row here (DEDUCED: assumption 35). -/
def kindRows : List KindRow :=
  settingRows ++ commandRows ++ readRows

/-- The row of a kind code. -/
def kindRow (code : Nat) : Option KindRow :=
  kindRows.find? (·.code = code)

/-- The kind code of ECHO, whose payload is 0 to 248 bytes. -/
def echoCode : Nat := 0x2F

/-- The reply places of ECHO. -/
def echoPlaces : Nat := 2

/-- The largest payload of a frame (R174). -/
def payloadMost : Nat := 248

/-- The request that a good frame of a kind and payload carries (steps 2 and 3 of R179). -/
def decodeRequest (kind : Byte) (payload : List Byte) : Request :=
  if kind.toNat = echoCode then .echo payload
  else
    match kindRow kind.toNat with
    | none => .unknownKind kind
    | some row =>
      if payload.length = row.widths.sum then row.make (unpack row.widths payload) else .badLength kind

/-- The reply places of a kind (the kind table); a kind that is not in it wants one (R178). -/
def placesOf (kind : Byte) : Nat :=
  if kind.toNat = echoCode then echoPlaces else ((kindRow kind.toNat).map (·.places)).getD 1

/-- The kind code of a request. -/
def Request.code : Request → Nat
  | .setLine _ => 0x10
  | .setFilmType _ _ => 0x11
  | .setCell _ => 0x12
  | .setChannel _ => 0x13
  | .setAnalyzer _ => 0x14
  | .setTank _ => 0x15
  | .setPlant _ => 0x16
  | .setPermit _ => 0x17
  | .setClock _ _ => 0x18
  | .setAlertMask _ => 0x19
  | .setNoticeMask _ => 0x1A
  | .startCell _ => 0x20
  | .stopCell _ => 0x21
  | .clearCellFault _ => 0x22
  | .closeLot => 0x23
  | .holdLot _ => 0x24
  | .returnLot _ => 0x25
  | .polishLot _ => 0x26
  | .declareHauled _ => 0x27
  | .returnTank _ => 0x28
  | .installCartridge _ _ => 0x29
  | .removeCartridge _ => 0x2A
  | .setDischargeEnable _ => 0x2B
  | .clearAlert _ _ => 0x2C
  | .resumeLink => 0x2D
  | .factoryReset => 0x2E
  | .echo _ => 0x2F
  | .readStatus => 0x40
  | .readInputs => 0x41
  | .readLine _ => 0x42
  | .readCell _ => 0x43
  | .readLots => 0x44
  | .readLotHistory => 0x45
  | .readDayHistory => 0x46
  | .readPermit => 0x47
  | .readBalance => 0x48
  | .readCartridges => 0x49
  | .readSettings => 0x4A
  | .unknownKind k => k.toNat
  | .badLength k => k.toNat

/-- The kind of a request, as its frame carries it. -/
def Request.kind (r : Request) : Byte :=
  BitVec.ofNat 8 r.code

def WindowFields.values (w : WindowFields) : List Nat :=
  [w.enabled, w.start, w.stop]

/-- The fields of a request in the order of its entry. -/
def Request.values : Request → List Nat
  | .setLine f =>
    [f.line, f.enabled, f.filmType, f.fixerVolume, f.washRatio, f.ratedFlow, f.trickle, f.stopTimeout, f.washCycle]
  | .setFilmType entry load => [entry, load]
  | .setCell f =>
    [f.cell, f.line, f.iMax, f.iFs, f.kc, f.klim, f.cSet, f.eff, f.standby, f.pwmPeriod, f.interval, f.autostart]
  | .setChannel f => [f.channel, f.role, f.edge, f.scale, f.blockSize, f.stale]
  | .setAnalyzer f => [f.input, f.span, f.hold]
  | .setTank f => [f.tank, f.capacity, f.settle, f.maxFill, f.drainLimit]
  | .setPlant f =>
    [f.debounce, f.backupDelay, f.flush, f.window, f.closing, f.turnovers, f.maxPasses, f.exhaustPercent, f.threshold]
  | .setPermit f =>
    [f.limit, f.cap, f.reserve, f.minDischarge, f.dayStart, f.window1.enabled, f.window1.start, f.window1.stop,
      f.window2.enabled, f.window2.start, f.window2.stop, f.window3.enabled, f.window3.start, f.window3.stop,
      f.window4.enabled, f.window4.start, f.window4.stop]
  | .setClock dayCount second => [dayCount, second]
  | .setAlertMask enables => enables.toList
  | .setNoticeMask enables => enables.toList
  | .startCell cell => [cell]
  | .stopCell cell => [cell]
  | .clearCellFault cell => [cell]
  | .closeLot => []
  | .holdLot lot => [lot]
  | .returnLot lot => [lot]
  | .polishLot lot => [lot]
  | .declareHauled lot => [lot]
  | .returnTank tank => [tank]
  | .installCartridge serial capacity => [serial, capacity]
  | .removeCartridge serial => [serial]
  | .setDischargeEnable enable => [enable]
  | .clearAlert kind inst => [kind, inst]
  | .resumeLink => []
  | .factoryReset => []
  | .echo payload => payload.map BitVec.toNat
  | .readStatus => []
  | .readInputs => []
  | .readLine line => [line]
  | .readCell cell => [cell]
  | .readLots => []
  | .readLotHistory => []
  | .readDayHistory => []
  | .readPermit => []
  | .readBalance => []
  | .readCartridges => []
  | .readSettings => []
  | .unknownKind _ => []
  | .badLength _ => []

/-- The widths of a request's fields. -/
def Request.widths (r : Request) : List Nat :=
  match r with
  | .echo payload => List.replicate payload.length 1
  | r => ((kindRow r.code).map (·.widths)).getD []

/-- The payload of a request (R174). The two refused forms have no payload of their own. -/
def Request.payload (r : Request) : List Byte :=
  pack r.widths r.values

/-- The start byte of a frame (R174). -/
def startByte : Byte := 0xA5

/-- The bytes of a frame on the line (R174). -/
def frameBytes (kind tag : Byte) (payload : List Byte) : List Byte :=
  let body := BitVec.ofNat 8 (payload.length + 2) :: kind :: tag :: payload
  startByte :: body ++ checkBytes (crc16 body)

/-! ### Ranges (the entries of the requests) -/

/-- A field lies in its range. -/
def within (low high n : Nat) : Bool :=
  low ≤ n && n ≤ high

def LineFields.inRange (f : LineFields) : Bool :=
  within 1 4 f.line && within 0 1 f.enabled && within 0 16 f.filmType && within 0 10000000 f.fixerVolume
    && within 0 20000 f.washRatio && within 1000 500000 f.ratedFlow && within 0 f.ratedFlow f.trickle
    && within 0 3600 f.stopTimeout && within 2 60 f.washCycle

def CellFields.inRange (f : CellFields) : Bool :=
  within 1 4 f.cell && within 0 4 f.line && within 1000 200000 f.iMax && within f.iMax 250000 f.iFs
    && within 0 10000 f.kc && within 1 10000 f.klim && within 0 20000 f.cSet && within 50 100 f.eff
    && within 0 f.iMax f.standby && within 1 100 f.pwmPeriod && within 1 60 f.interval && within 0 1 f.autostart

def ChannelFields.inRange (f : ChannelFields) : Bool :=
  within 1 16 f.channel && within 0 14 f.role && within 0 1 f.edge && within 1 65535 f.scale
    && within 1 1023 f.blockSize && within 1 60 f.stale

def AnalyzerFields.inRange (f : AnalyzerFields) : Bool :=
  within 1 5 f.input && within 1000 20000000 f.span && within 0 600 f.hold

def TankFields.inRange (f : TankFields) : Bool :=
  within 1 3 f.tank && within 100000 100000000 f.capacity && within 0 7200 f.settle && within 0 48 f.maxFill
    && within 60 14400 f.drainLimit

def PlantSettings.inRange (f : PlantSettings) : Bool :=
  within 10 2000 f.debounce && within 5 600 f.backupDelay && within 10 600 f.flush && within 10 600 f.window
    && within 1 30 f.closing && within 1 5 f.turnovers && within 1 5 f.maxPasses && within 50 100 f.exhaustPercent
    && within 0 3 f.threshold

def WindowFields.inRange (w : WindowFields) : Bool :=
  within 0 1 w.enabled && within 0 1439 w.start && within 0 1439 w.stop

def PermitFields.inRange (f : PermitFields) : Bool :=
  within 1 100000 f.limit && within 0 100000000 f.cap && within 0 f.cap f.reserve
    && within 0 100000000 f.minDischarge && within 0 1439 f.dayStart && f.window1.inRange && f.window2.inRange
    && f.window3.inRange && f.window4.inRange

/-! ### The settings that fields write -/

/-- The role of a code (SET CHANNEL). -/
def roleOf (code : Nat) : Role :=
  if h : 1 ≤ code ∧ code ≤ 4 then .footage ⟨code - 1, by omega⟩
  else if h : 5 ≤ code ∧ code ≤ 8 then .wash ⟨code - 5, by omega⟩
  else if h : 9 ≤ code ∧ code ≤ 12 then .celli ⟨code - 9, by omega⟩
  else if code = 13 then .transfer
  else if code = 14 then .outlet
  else .noRole

/-- The code of a role. -/
def Machine.Role.code : Role → Nat
  | .noRole => 0
  | .footage l => l.val + 1
  | .wash l => l.val + 5
  | .celli c => c.val + 9
  | .transfer => 13
  | .outlet => 14

def LineFields.settings (f : LineFields) : LineSettings :=
  { enabled := f.enabled = 1, filmType := f.filmType, fixerVolume := f.fixerVolume, washRatio := f.washRatio,
    ratedFlow := f.ratedFlow, trickle := f.trickle, stopTimeout := f.stopTimeout, washCycle := f.washCycle }

def CellFields.settings (f : CellFields) : CellSettings :=
  { line := if h : 1 ≤ f.line ∧ f.line ≤ 4 then some ⟨f.line - 1, by omega⟩ else none
    iMax := f.iMax, iFs := f.iFs, kc := f.kc, klim := f.klim, cSet := f.cSet, eff := f.eff, standby := f.standby,
    pwmPeriod := f.pwmPeriod, interval := f.interval, autostart := f.autostart = 1 }

def ChannelFields.settings (f : ChannelFields) : ChannelSettings :=
  { role := roleOf f.role, falling := f.edge = 1, scale := f.scale, blockSize := f.blockSize, stale := f.stale }

def AnalyzerFields.settings (f : AnalyzerFields) : AnalyzerSettings :=
  { span := f.span, hold := f.hold }

def TankFields.settings (f : TankFields) : TankSettings :=
  { capacity := f.capacity, settle := f.settle, maxFill := f.maxFill, drainLimit := f.drainLimit }

def WindowFields.window (w : WindowFields) : Window :=
  { enabled := w.enabled = 1, start := w.start, stop := w.stop }

def PermitFields.permit (f : PermitFields) : Permit :=
  { limit := f.limit, cap := f.cap, reserve := f.reserve, minDischarge := f.minDischarge, dayStart := f.dayStart,
    window1 := f.window1.window, window2 := f.window2.window, window3 := f.window3.window,
    window4 := f.window4.window }

end Sys2Proof

namespace Sys2Proof.Machine

open Sys2Proof

/-! ### Codes and records in replies and notices (Chapter 10) -/

def Status.code : Status → Nat
  | .ok => 0
  | .unknownKind => 1
  | .badLength => 2
  | .outOfRange => 3
  | .wrongState => 4
  | .held => 5
  | .overrun => 6
  | .supplyLow => 7

def LotState.code : LotState → Nat
  | .filling => 1
  | .settling => 2
  | .sampleWait => 3
  | .sampling => 4
  | .queued => 5
  | .discharging => 6
  | .polishWait => 7
  | .polishing => 8
  | .held => 9

def HoldReason.code : HoldReason → Nat
  | .sampleFailed => 1
  | .polishExhausted => 2
  | .drainTimeout => 3
  | .levelLost => 4
  | .switchFault => 5
  | .unknownContent => 6
  | .byRequest => 7

/-- The figure that stands for an absent four-byte field. -/
def absentWord : Nat := 0xFFFFFFFF

/-- A time of a lot record: its day, and its second or the unset figure. -/
def Stamp.bytes (t : Stamp) : List Byte :=
  beBytes 2 t.day ++ beBytes 4 (t.second.getD absentWord)

/-- The marks of a lot record. -/
def Lot.marks (l : Lot) : Nat :=
  bit l.closed.isSome + 2 * bit l.removalPending + 4 * bit l.hostPass + 8 * bit l.volumeSuspect
    + 16 * bit l.removalNegative

/-- The 62 bytes of a lot record as READ LOTS returns it. -/
def LotFigures.bytes (f : LotFigures) : List Byte :=
  let l := f.record
  beBytes 2 l.number ++ beBytes 1 (f.tank.val + 1) ++ beBytes 1 l.state.code ++ l.opened.bytes
    ++ (match l.closed with
      | none => beBytes 6 0
      | some t => t.bytes)
    ++ beBytes 4 l.filled ++ beBytes 4 l.current ++ beBytes 4 (l.concentration.getD absentWord)
    ++ beBytes 4 (l.previous.getD absentWord) ++ beBytes 1 l.passes ++ beBytes 1 l.attempts
    ++ beBytes 1 ((l.holdReason.map HoldReason.code).getD 0) ++ beBytes 1 l.marks ++ beBytes 2 f.settleLeft
    ++ beBytes 4 l.dischargedVolume ++ beBytes 8 l.dischargedMass.mg ++ beBytes 4 l.dischargedMass.residue
    ++ beBytes 4 l.shortfall ++ beBytes 4 (min l.excess (2 ^ 32 - 1))

/-- The flags byte of a Day Record. -/
def DayFlags.byte (f : DayFlags) : Nat :=
  bit f.dayUnknown + 2 * bit f.capReached + 4 * bit f.permitCorrupt

/-- The 41 bytes of a Day Record. -/
def DayRecord.bytes (r : DayRecord) : List Byte :=
  beBytes 2 r.number ++ beBytes 4 (r.cap.getD absentWord) ++ beBytes 8 r.mass ++ beBytes 8 r.volume
    ++ beBytes 2 r.lots ++ beBytes 8 r.wash ++ beBytes 8 r.plated ++ beBytes 1 r.flags.byte

/-- The settings of an instance as the request that writes them (R185). -/
def channelRequest (c : Fin 16) (k : ChannelSettings) : Request :=
  .setChannel
    { channel := c.val + 1, role := k.role.code, edge := bit k.falling, scale := k.scale, blockSize := k.blockSize,
      stale := k.stale }

def analyzerRequest (a : Fin 5) (k : AnalyzerSettings) : Request :=
  .setAnalyzer { input := a.val + 1, span := k.span, hold := k.hold }

def lineRequest (l : Fin 4) (k : LineSettings) : Request :=
  .setLine
    { line := l.val + 1, enabled := bit k.enabled, filmType := k.filmType, fixerVolume := k.fixerVolume,
      washRatio := k.washRatio, ratedFlow := k.ratedFlow, trickle := k.trickle, stopTimeout := k.stopTimeout,
      washCycle := k.washCycle }

def cellRequest (c : Fin 4) (k : CellSettings) : Request :=
  .setCell
    { cell := c.val + 1, line := (k.line.map fun l => l.val + 1).getD 0, iMax := k.iMax, iFs := k.iFs, kc := k.kc,
      klim := k.klim, cSet := k.cSet, eff := k.eff, standby := k.standby, pwmPeriod := k.pwmPeriod,
      interval := k.interval, autostart := bit k.autostart }

def tankRequest (t : Fin 3) (k : TankSettings) : Request :=
  .setTank
    { tank := t.val + 1, capacity := k.capacity, settle := k.settle, maxFill := k.maxFill,
      drainLimit := k.drainLimit }

/-- The payloads of `n` instances one after another. -/
def eachPayload {α : Type} {n : Nat} (f : Fin n → α → Request) (v : Vector α n) : List Byte :=
  (List.finRange n).flatMap fun i => (f i v[i]).payload

/-- The bytes of a READ SETTINGS body: each group as the requests that write it, then the bit rate (R185). -/
def SettingsFigures.bytes (f : SettingsFigures) : List Byte :=
  eachPayload channelRequest f.channels ++ eachPayload analyzerRequest f.analyzers
    ++ eachPayload (fun i load => .setFilmType (i.val + 1) load) f.films ++ eachPayload lineRequest f.lines
    ++ eachPayload cellRequest f.cells ++ eachPayload tankRequest f.tanks ++ (Request.setPlant f.plant).payload
    ++ f.alertMask.toList.flatMap (fun b => beBytes 1 (bit b)) ++ f.noticeMask.toList.flatMap (fun b => beBytes 1 (bit b))
    ++ Config.rateBytes f.bitRate

/-- The bytes of a reply's body: the lot records and Day Records that READ LOTS and READ DAY HISTORY return have their
layouts of Chapter 10, the digest of READ PERMIT stands most significant byte first (R109) and the unaccounted figure of
READ BALANCE as a signed 64-bit number (R33); the layout is free where the spec gives none (assumption 8). -/
def ReplyBody.bytes : ReplyBody → List Byte
  | .empty => []
  | .echoed payload => payload
  | .settings f => f.bytes
  | .lots f => Config.bytesBefore (.lots f) ++ f.lots.flatMap LotFigures.bytes ++ Config.bytesAfter (.lots f)
  | .dayHistory f =>
    Config.bytesBefore (.dayHistory f) ++ f.history.flatMap DayRecord.bytes ++ Config.bytesAfter (.dayHistory f)
  | .permit f =>
    Config.bytesBefore (.permit f) ++ (f.digest.map fun d => beBytes 4 d.toNat).getD []
      ++ Config.bytesAfter (.permit f)
  | .balance f =>
    Config.bytesBefore (.balance f) ++ signedBytes 8 f.unaccounted ++ Config.bytesAfter (.balance f)
  | body => Config.figureBytes body

/-- The bytes of body that one segment carries (R181). -/
def segmentBytes : Nat := 245

/-- The number of segments of a reply whose kind has `places` reply places (R181): never more than its places. -/
def Reply.segments (r : Reply) (places : Nat) : Nat :=
  if places ≤ 1 || r.status ≠ .ok then 1
  else max 1 (min places ((r.body.bytes.length + (segmentBytes - 1)) / segmentBytes))

/-- The kind of a reply (R180). -/
def replyKind (kind : Byte) : Byte :=
  if kind.toNat < 0x80 then kind + 0x80 else 0xFF

/-- The event code of a notice header. -/
def NoticeContent.event : NoticeContent → Nat
  | .alert _ _ latched _ _ => if latched then 1 else 2
  | .lot .closed _ _ _ _ _ _ => 1
  | .lot .queued _ _ _ _ _ _ => 2
  | .lot .held _ _ _ _ _ _ => 3
  | .lot .left _ _ _ _ _ _ => 4
  | .startedDischarge _ _ _ _ _ => 1
  | .startedPolish _ _ _ _ => 1
  | .endedDischarge _ _ _ _ _ _ _ _ _ => 2
  | .endedPolish _ _ _ _ _ _ => 2
  | .rollover _ => 1

/-- The bytes of a notice's content, which one frame carries after the notice header (assumption 8). -/
def NoticeContent.bytes : NoticeContent → List Byte
  | .rollover r => r.bytes
  | content => (Config.noticeBytes content).take segmentBytes

/-- The kind of a notice frame. -/
def noticeKind : Byte := 0x60

/-- The kind of an outbound frame. -/
def OutFrame.kind : OutFrame → Byte
  | .reply kind _ _ _ _ => kind
  | .notice _ => noticeKind

/-- The tag of an outbound frame: a notice's is 0. -/
def OutFrame.tag : OutFrame → Byte
  | .reply _ tag _ _ _ => tag
  | .notice _ => 0

/-- The payload of an outbound frame: the reply header and the bytes of the segment, or the notice header and the
content (the headers of Chapter 10). -/
def OutFrame.payload : OutFrame → List Byte
  | .reply _ _ r segment count =>
    beBytes 1 r.status.code ++ beBytes 1 segment ++ beBytes 1 count
      ++ (r.body.bytes.drop ((segment - 1) * segmentBytes)).take segmentBytes
  | .notice n => beBytes 1 (n.key.val + 1) ++ beBytes 1 n.merged ++ beBytes 1 n.content.event ++ n.content.bytes

/-- The bytes of an outbound frame as LINK_TX sends them (R174). -/
def OutFrame.bytes (f : OutFrame) : List Byte :=
  frameBytes f.kind f.tag f.payload

end Sys2Proof.Machine
end

