-- ==== Sys2Proof/Machine/Defaults.lean ====
section
/-! DEFINITION. The defaults of every setting, the lasting state after a failed restore (R191), and the start-up
columns of the spec's state tables. A start-up value that names a moment takes it as `now`. -/

namespace Sys2Proof.Machine

open Sys2Proof

/-! ### Settings -/

def ChannelSettings.default : ChannelSettings :=
  { role := .noRole, falling := false, scale := 1, blockSize := 16, stale := 5 }

def AnalyzerSettings.default (a : Fin 5) : AnalyzerSettings :=
  { span := if a.val = 4 then 100000 else 20000000, hold := 120 }

def LineSettings.default : LineSettings :=
  { enabled := false, filmType := 0, fixerVolume := 0, washRatio := 0, ratedFlow := 100000, trickle := 0,
    stopTimeout := 300, washCycle := 10 }

/-- The defaults of SET CELL: cell Cn bound to line Ln, autostart off. -/
def CellSettings.default (c : Fin 4) : CellSettings :=
  { line := some c, iMax := 1000, iFs := 1000, kc := 0, klim := 1, cSet := 0, eff := 100, standby := 0,
    pwmPeriod := 10, interval := 5, autostart := false }

def TankSettings.default : TankSettings :=
  { capacity := 10000000, settle := 1800, maxFill := 0, drainLimit := 3600 }

def PlantSettings.default : PlantSettings :=
  { debounce := 100, backupDelay := 30, flush := 60, window := 30, closing := 5, turnovers := 2, maxPasses := 3,
    exhaustPercent := 90, threshold := 2 }

def NanoAccount.zero : NanoAccount :=
  { mg := 0, residue := 0 }

def Accounts.zero : Accounts :=
  { filmIn := Vector.replicate 4 { mg := 0, residue := 0 }
    plated := Vector.replicate 4 { mg := 0, micro := 0, residue := 0 }
    cartridgeLoaded := 0, cartridgeRemoved := 0, discharged := NanoAccount.zero, hauled := NanoAccount.zero }

def DayFlags.clear : DayFlags :=
  { dayUnknown := false, capReached := false, permitCorrupt := false }

/-- The permit day after a failed restore (R125): unestablished, figures 0, DAY_UNKNOWN set with its day flag. The number
that an unestablished day reads as is 0 (DESIGN CHOICE: assumption 33). -/
def Day.unknownDay : Day :=
  { number := 0, established := false, dayStart := 0, total := NanoAccount.zero, volume := 0, lots := 0, wash := 0,
    plated := 0, flags := { DayFlags.clear with dayUnknown := true }, unknown := true }

/-- The lasting state after a failed restore (R191). -/
def Kept.fresh : Kept :=
  { channels := Vector.replicate 16 ChannelSettings.default
    analyzers := Vector.ofFn AnalyzerSettings.default
    films := Vector.replicate 16 0
    lines := Vector.replicate 4 LineSettings.default
    cells := Vector.ofFn CellSettings.default
    tankSettings := Vector.replicate 3 TankSettings.default
    plant := PlantSettings.default
    alertMask := Vector.replicate 16 true
    noticeMask := Vector.replicate 33 true
    accounts := Accounts.zero
    permit := { active := none, digest := none, corrupt := false, next := none }
    day := Day.unknownDay
    dayHistory := []
    tanks := Vector.replicate 3 { state := .empty, lot := none }
    dischargeQueue := [], polishWait := [], sampleWait := []
    nextLot := 1
    history := []
    train := [] }

/-! ### Start-up columns -/

def Channel.atStart : Channel :=
  { count := 0, rejected := 0, moving := false, rate := 0, pulseRate := 0, block := none, lastEdge := none,
    stale := none }

/-- The silence watch's span (R13). -/
def silenceSpan : Micros := 3 * sec

def Analyzer.atStart (now : Micros) : Analyzer :=
  { state := .waiting, record := [], published := none, held := none, hold := none,
    silence := some { start := now, len := silenceSpan }, period := none }

/-- A switch input at start-up keeps its pin, which is the plant's. -/
def SwitchInput.atStart (s : SwitchInput) : SwitchInput :=
  { pin := s.pin, accepted := none, debounce := none }

def LineUnit.atStart : LineUnit :=
  { filmRate := 0, filmMoving := false }

/-- A wash loop at start-up: OFF for a disabled line, IDLE for an enabled one, a cycle starting (R65, R70). -/
def WashLoop.atStart (line : LineSettings) (now : Micros) : WashLoop :=
  { state := if line.enabled then .idle else .off
    target := none, backup := false, staged := none, applied := 0
    cycle := { start := now, len := line.washCycle * sec }
    watched := false, cycleVolume := 0, stop := none, lowFlow := 0, measuredFlow := 0, washVolume := 0,
    hold := false }

/-- A cell at start-up, before autostart (the table before R36). -/
def Cell.atStart (settings : CellSettings) (now : Micros) : Cell :=
  { state := .off, fault := none, target := 0, limit := .noLimit, staged := none, appliedDuty := 0,
    appliedTarget := 0, appliedSince := now, pwm := { start := now, len := settings.pwmPeriod * ms }
    control := none, priming := none, mismatch := 0, flowCovered := false,
    view := { state := .waiting, heldPresent := false }, lastTick := none, hold := false }

def Sump.atStart : Sump :=
  { pump := false, callMark := false, backupTimer := none, backup := false, strayTransfer := 0, hold := false,
    levelsTaken := false }

def Sampler.atStart : Sampler :=
  { state := .idle, lot := none, flush := none, window := none, count := 0, sum := 0, hold := false }

def Clock.atStart : Clock :=
  { running := false, second := 0, dayCount := 1 }

def Path.atStart : Path :=
  { state := .idle, lot := none, use := none, tank := none, grant := none, metered := 0, passTarget := none,
    polishVolume := 0, drain := none, closing := none, stopCause := none, overrun := 0, stray := 0, hold := false,
    dropped := none, started := false }

def FlagRecord.clear : FlagRecord :=
  { latched := false, time := none }

/-- The bit rate that the two straps select (R173). -/
def bitRateOf (sel1 sel0 : Bool) : Nat :=
  match sel1, sel0 with
  | false, false => 9600
  | false, true => 19200
  | true, false => 57600
  | true, true => 115200

def Receiver.hunting : Receiver :=
  { state := .hunt, bytes := [], gap := none }

def Link.atStart (bitRate : Nat) : Link :=
  { bitRate := bitRate, receiver := Receiver.hunting, inbound := [], reserved := 0, outbound := [],
    faulted := false, fault := none, huntDiscards := 0, damagedFrames := 0, overrunReplies := 0, silentDiscards := 0,
    notices := [] }

end Sys2Proof.Machine
end

