-- ==== Sys2Proof/Machine/State.lean ====
section
/-! DEFINITION. The state of the part, its faults and refusals, and the state after reset. -/

namespace Sys2Proof.Machine

open Sys2Proof

/-- No command of the part ends in a fault: every row of the table has an effect on every operand, be it none
(assumption 1), so this type has no constructor. Safe: nothing is stopped that the part would do. -/
inductive Fault where
  deriving DecidableEq, Repr

/-- Why a command is refused. -/
inductive Refusal where
  /-- Raised by `exec` for a row that has no meaning yet; no arm raises it now. Safe: the model stops. -/
  | notModelled (mnemonic : String)
  deriving DecidableEq, Repr

structure State where
  /-- The model's µs clock: the time since the present start-up began (assumption 1). -/
  now : Micros
  /-- The number of free choices made (assumption 7). -/
  choices : Nat
  phase : Phase
  /-- The RESET pin is low. -/
  resetLow : Bool
  supply : Supply
  startUp : StartUp
  store : Store
  /-- The working copy of everything the retained image holds. -/
  kept : Kept
  channels : Vector Channel 16
  analyzers : Vector Analyzer 5
  switches : Vector SwitchInput 12
  lines : Vector LineUnit 4
  loops : Vector WashLoop 4
  cells : Vector Cell 4
  sump : Sump
  timers : Vector TankTimers 3
  sampler : Sampler
  permit : PermitRun
  clock : Clock
  path : Path
  flags : Vector FlagRecord 28
  /-- The ALERT output is active (low). -/
  alertActive : Bool
  link : Link
  /-- The commands that wait, first in first out. -/
  pending : List Instr
  deriving DecidableEq, Repr

/-- The part right after reset: the RESET pin released at the nominal supply of 5.00 V, the self-test begun, every
running figure at its start-up value, every setting at its default, and no valid image in the retained store
(assumptions 4 and 12). -/
def State.reset : State :=
  { now := 0
    choices := 0
    phase := .selfTest
    resetLow := false
    supply := { level := 500, hold := false, recovery := none }
    startUp := { selfTestPassed := false, restored := false, restoreStands := false, levels := none }
    store := { image := none, inFlight := none, waiting := none }
    kept := Kept.fresh
    channels := Vector.replicate 16 Channel.atStart
    analyzers := Vector.replicate 5 (Analyzer.atStart 0)
    switches := Vector.replicate 12 { pin := false, accepted := none, debounce := none }
    lines := Vector.replicate 4 LineUnit.atStart
    loops := Vector.replicate 4 (WashLoop.atStart LineSettings.default 0)
    cells := Vector.replicate 4 (Cell.atStart (CellSettings.default 0) 0)
    sump := Sump.atStart
    timers := Vector.replicate 3 { maxFill := none, settle := none }
    sampler := Sampler.atStart
    permit := { check := none, enable := false, windowOpen := false }
    clock := Clock.atStart
    path := Path.atStart
    flags := Vector.replicate 28 FlagRecord.clear
    alertActive := false
    link := Link.atStart 9600
    pending := [] }

end Sys2Proof.Machine
end

