-- ==== Sys2Proof/Machine/Ops.lean ====
section
/-! DEFINITION. The named operations that every block shares: time and timers, the numbered things of State, switch
levels, lot times, bookings of silver, and writes of the retained image. -/

namespace Sys2Proof.Machine

open Sys2Proof

/-- What a command answers. -/
abbrev Out := Host.Outcome State Fault Refusal

/-! ### Numbered things -/

/-- A vector with its entry `i` changed by `f`. -/
def modAt {α : Type} {n : Nat} (v : Vector α n) (i : Fin n) (f : α → α) : Vector α n :=
  v.set i.val (f v[i]) i.isLt

/-- The number `n` of a request as one of `k` things numbered from 1; none when it is outside 1 to `k`. -/
def numbered (k n : Nat) : Option (Fin k) :=
  if h : 1 ≤ n ∧ n ≤ k then some ⟨n - 1, by omega⟩ else none

def State.modChannel (s : State) (i : Fin 16) (f : Channel → Channel) : State :=
  { s with channels := modAt s.channels i f }

def State.modAnalyzer (s : State) (i : Fin 5) (f : Analyzer → Analyzer) : State :=
  { s with analyzers := modAt s.analyzers i f }

def State.modSwitch (s : State) (i : Fin 12) (f : SwitchInput → SwitchInput) : State :=
  { s with switches := modAt s.switches i f }

def State.modLine (s : State) (i : Fin 4) (f : LineUnit → LineUnit) : State :=
  { s with lines := modAt s.lines i f }

def State.modLoop (s : State) (i : Fin 4) (f : WashLoop → WashLoop) : State :=
  { s with loops := modAt s.loops i f }

def State.modCell (s : State) (i : Fin 4) (f : Cell → Cell) : State :=
  { s with cells := modAt s.cells i f }

def State.modTimers (s : State) (t : Fin 3) (f : TankTimers → TankTimers) : State :=
  { s with timers := modAt s.timers t f }

def State.modFlag (s : State) (i : Fin 28) (f : FlagRecord → FlagRecord) : State :=
  { s with flags := modAt s.flags i f }

def State.modKept (s : State) (f : Kept → Kept) : State :=
  { s with kept := f s.kept }

def State.modAccounts (s : State) (f : Accounts → Accounts) : State :=
  s.modKept fun k => { k with accounts := f k.accounts }

def State.modDay (s : State) (f : Day → Day) : State :=
  s.modKept fun k => { k with day := f k.day }

def State.modTank (s : State) (t : Fin 3) (f : Tank → Tank) : State :=
  s.modKept fun k => { k with tanks := modAt k.tanks t f }

/-- Changes the lot in tank `t`, if there is one. -/
def State.modLot (s : State) (t : Fin 3) (f : Lot → Lot) : State :=
  s.modTank t fun k => { k with lot := k.lot.map f }

def State.modPath (s : State) (f : Path → Path) : State :=
  { s with path := f s.path }

def State.modLink (s : State) (f : Link → Link) : State :=
  { s with link := f s.link }

/-! ### Time -/

/-- `dt` microseconds pass (assumption 1). -/
def State.after (s : State) (dt : Micros) : State :=
  { s with now := s.now + dt }

/-- A timer started now. -/
def State.timer (s : State) (len : Micros) : Timer :=
  { start := s.now, len := len }

/-- The moment has come at which the timer reaches its length. -/
def Timer.due (t : Timer) (now : Micros) : Bool :=
  t.start + t.len ≤ now

/-- A running timer that is due. -/
def timerDue (t : Option Timer) (now : Micros) : Bool :=
  t.any (·.due now)

/-- The whole seconds left on a timer, 0 when stopped (assumption 26). -/
def secondsLeft (t : Option Timer) (now : Micros) : Nat :=
  match t with
  | none => 0
  | some t => (t.start + t.len - now) / sec

/-- The plant's inputs and timers reach the blocks: the part has restored its state and is not held in reset. -/
def State.awake (s : State) : Bool :=
  s.phase = .restoring || s.phase = .running

/-- `f`, when the blocks run. -/
def whenAwake (s : State) (f : State → State) : State :=
  if s.awake then f s else s

/-- `f`, when the blocks run and the timer is due: an expiry before its time is no event (assumption 1). -/
def whenDue (t : Option Timer) (s : State) (f : State → State) : State :=
  if s.awake && timerDue t s.now then f s else s

/-- One free choice: its answer, and the state in which it has been made. -/
def State.choose (s : State) : Bool × State :=
  (Config.freeChoice s.choices, { s with choices := s.choices + 1 })

/-! ### Switches -/

/-- The place of a switch in the order of R17. -/
def switchIndex : Switch → Fin 12
  | .tankLow t => ⟨2 * t.val, by omega⟩
  | .tankHigh t => ⟨2 * t.val + 1, by omega⟩
  | .sumpLow => 6
  | .sumpHigh => 7
  | .cellFlow c => ⟨8 + c.val, by omega⟩

/-- The owner's view of a switch: its accepted level, uncovered until the starting levels (R102). -/
def State.covered (s : State) (w : Switch) : Bool :=
  s.switches[switchIndex w].accepted.getD false

/-- HIGH covered while LOW is uncovered (R82). -/
def State.switchesDisagree (s : State) (t : Fin 3) : Bool :=
  s.covered (.tankHigh t) && !s.covered (.tankLow t)

/-! ### Bindings and lots -/

/-- The pulse channel bound to a role (R2). -/
def State.channelOf (s : State) (r : Role) : Option (Fin 16) :=
  (List.finRange 16).find? fun c => s.kept.channels[c].role = r

/-- The cell bound to a line (R36). -/
def State.cellOfLine (s : State) (l : Fin 4) : Option (Fin 4) :=
  (List.finRange 4).find? fun c => s.kept.cells[c].line = some l

/-- The silver load of a line's film type, mg/m (R23); film type 0 names no entry and carries none. -/
def State.lineLoad (s : State) (l : Fin 4) : Nat :=
  match numbered 16 s.kept.lines[l].filmType with
  | none => 0
  | some e => s.kept.films[e]

/-- The lot in a tank. -/
def State.lotIn (s : State) (t : Fin 3) : Option Lot :=
  s.kept.tanks[t].lot

/-- The tank of the live lot of a number. -/
def State.tankOfLot (s : State) (n : Nat) : Option (Fin 3) :=
  (List.finRange 3).find? fun t => (s.lotIn t).any (·.number = n)

/-- The tank that is FILLING. -/
def State.fillingTank (s : State) : Option (Fin 3) :=
  (List.finRange 3).find? fun t => s.kept.tanks[t].state = .filling

/-- The live lots in tank order. -/
def State.liveLots (s : State) : List Lot :=
  (List.finRange 3).filterMap s.lotIn

/-- This moment as a record carries it (R87). -/
def State.stamp (s : State) : Stamp :=
  { day := if s.kept.day.established then s.kept.day.number else 0
    second := if s.clock.running then some s.clock.second else none }

/-! ### Bookings -/

/-- Where every account and a loop's wash volume hold (R22, R73). The figures of the permit day have this top as their
range (R118, R119); that they hold at it is the model's choice (DESIGN CHOICE: assumption 45). -/
def accountTop : Nat := 10 ^ 15 - 1

/-- Where every lot volume holds (R77, R134). -/
def volumeTop : Nat := 2 ^ 32 - 1

def addTo (top a b : Nat) : Nat :=
  min (a + b) top

/-- Adds nanograms, carrying whole milligrams (R22, R27). The discharged mass of a lot, and of its history record, takes
the top of the accounts (DESIGN CHOICE: assumption 15). -/
def NanoAccount.add (a : NanoAccount) (ng : Nat) : NanoAccount :=
  { mg := addTo accountTop a.mg ((a.residue + ng) / 1000000), residue := (a.residue + ng) % 1000000 }

/-- Adds micrograms to a FILM_IN account (R25). -/
def FilmAccount.add (a : FilmAccount) (micro : Nat) : FilmAccount :=
  { mg := addTo accountTop a.mg ((a.residue + micro) / 1000), residue := (a.residue + micro) % 1000 }

/-- The whole µg that the plating residue carries when `units` hundredths of a picogram are added (R26, step 1). -/
def PlatedAccount.carriedMicro (a : PlatedAccount) (units : Nat) : Nat :=
  (a.residue + units) / 100000000

/-- The whole mg carried into PLATED (R26, step 2). -/
def PlatedAccount.carriedMg (a : PlatedAccount) (units : Nat) : Nat :=
  (a.micro + a.carriedMicro units) / 1000

/-- Adds hundredths of a picogram to a PLATED account (R26). -/
def PlatedAccount.add (a : PlatedAccount) (units : Nat) : PlatedAccount :=
  { mg := addTo accountTop a.mg (a.carriedMg units)
    micro := (a.micro + a.carriedMicro units) % 1000
    residue := (a.residue + units) % 100000000 }

/-- A count of 32 bits that wraps (R3, R77, R143). -/
def wrap32 (n : Nat) : Nat :=
  n % 2 ^ 32

/-! ### Writes of the retained image (R188) -/

/-- The CRC-32 of a retained image, computed as the permit digest is (R188). -/
def Kept.crc (k : Kept) : BitVec 32 :=
  crc32 (Config.imageBytes k)

/-- The image that a write of some content leaves in the store: the content with its CRC. -/
def Kept.stored (k : Kept) : StoredImage :=
  { content := k, crc := k.crc }

/-- The content that a restore reads: that of a valid image of a readable store whose CRC matches. `matched` says that the
bytes of the image read back as they were written (assumption 6). -/
def Store.readBack (st : Store) (readable matched : Bool) : Option Kept :=
  if readable && matched then (st.image.filter fun i => i.crc = i.content.crc).map (·.content) else none

/-- A write starts: the stored image is invalid from now on, and the write captures the whole content. -/
def startWrite (kind : WriteKind) (s : State) : State :=
  { s with store := { s.store with image := none, inFlight := some { kind := kind, content := s.kept } } }

/-- An order for a write is handled by what the store holds (the table of R188). A merged order leaves the pending
write the kind it had (assumption 13). -/
def orderWrite (kind : WriteKind) (s : State) : State :=
  match s.store.inFlight with
  | none => startWrite kind s
  | some w =>
    if kind = .supplyLow ∧ w.kind = .checkpoint then startWrite .supplyLow s
    else { s with store := { s.store with waiting := some (s.store.waiting.getD kind) } }

/-- The write in flight completes: the store holds the captured image with its CRC, the condition of RESTORE_FAILED ends, and a
pending write starts at once. -/
def completeWrite (s : State) : State :=
  match s.store.inFlight with
  | none => s
  | some w =>
    let done := { s with
      store := { image := some w.content.stored, inFlight := none, waiting := none }
      startUp := { s.startUp with restoreStands := false } }
    match s.store.waiting with
    | none => done
    | some kind => startWrite kind done

end Sys2Proof.Machine
end

