-- ==== Sys2Proof/Machine/Flags.lean ====
section
/-! DEFINITION. The Alert Unit and the Pending Notice set: numbering of the flags, their conditions, latching and
clearing, the ALERT output, and how an event of a notice key comes to the Outbound Queue (R161 to R170). -/

namespace Sys2Proof.Machine

open Sys2Proof

/-! ### Numbering (R161) -/

/-- The place of a flag in the order of R161, from 0. -/
def Flag.index : Flag → Fin 28
  | .sumpBackup => 0
  | .washLow l => ⟨1 + l.val, by omega⟩
  | .cellFault c => ⟨5 + c.val, by omega⟩
  | .analyzerFault a => ⟨9 + a.val, by omega⟩
  | .tankSwitchFault t => ⟨14 + t.val, by omega⟩
  | .drainTimeout => 17
  | .lotHeld => 18
  | .cartridgeExhausted => 19
  | .permitCorrupt => 20
  | .capReached => 21
  | .clockUnset => 22
  | .outletLeak => 23
  | .linkFault => 24
  | .restoreFailed => 25
  | .selfTestFailed => 26
  | .supplyLow => 27

/-- The flag's kind, counted from 0: kind n of the spec is `n - 1`. -/
def Flag.kind : Flag → Fin 16
  | .sumpBackup => 0
  | .washLow _ => 1
  | .cellFault _ => 2
  | .analyzerFault _ => 3
  | .tankSwitchFault _ => 4
  | .drainTimeout => 5
  | .lotHeld => 6
  | .cartridgeExhausted => 7
  | .permitCorrupt => 8
  | .capReached => 9
  | .clockUnset => 10
  | .outletLeak => 11
  | .linkFault => 12
  | .restoreFailed => 13
  | .selfTestFailed => 14
  | .supplyLow => 15

/-- The flag's number among the instances of its kind, from 1. -/
def Flag.number : Flag → Nat
  | .washLow l => l.val + 1
  | .cellFault c => c.val + 1
  | .analyzerFault a => a.val + 1
  | .tankSwitchFault t => t.val + 1
  | _ => 1

/-- The flags in the order of R161. -/
def allFlags : List Flag :=
  [.sumpBackup, .washLow 0, .washLow 1, .washLow 2, .washLow 3, .cellFault 0, .cellFault 1, .cellFault 2,
    .cellFault 3, .analyzerFault 0, .analyzerFault 1, .analyzerFault 2, .analyzerFault 3, .analyzerFault 4,
    .tankSwitchFault 0, .tankSwitchFault 1, .tankSwitchFault 2, .drainTimeout, .lotHeld, .cartridgeExhausted,
    .permitCorrupt, .capReached, .clockUnset, .outletLeak, .linkFault, .restoreFailed, .selfTestFailed, .supplyLow]

/-- How many instances a kind has, for a kind numbered from 1 (R161). -/
def kindCount (kind : Nat) : Nat :=
  match kind with
  | 2 => 4
  | 3 => 4
  | 4 => 5
  | 5 => 3
  | _ => 1

def State.latched (s : State) (f : Flag) : Bool :=
  s.flags[f.index].latched

/-! ### Figures that the conditions read -/

/-- The usable active permit: present, its corrupt mark clear (R106). -/
def State.usablePermit (s : State) : Option Permit :=
  if s.kept.permit.corrupt then none else s.kept.permit.active

/-- The remaining allowance of a permit: signed, whole milligrams (R118). -/
def State.remaining (s : State) (p : Permit) : Int :=
  (p.cap : Int) - (s.kept.day.total.mg : Int)

/-- The condition of CAP_REACHED (R118). -/
def State.capShort (s : State) : Bool :=
  s.usablePermit.any fun p => s.remaining p ≤ (p.reserve : Int)

/-- The OUTLET channel is MOVING. -/
def State.outletMoving (s : State) : Bool :=
  (s.channelOf .outlet).any fun c => s.channels[c].moving

/-- The condition of a flag, as its owning block states it (the table of R161). -/
def State.condition (s : State) : Flag → Bool
  | .sumpBackup => s.sump.backup
  | .washLow l => s.loops[l].lowFlow = 3
  | .cellFault c => s.cells[c].state = .fault
  | .analyzerFault a =>
    s.analyzers[a].state = .faultLow || s.analyzers[a].state = .faultHigh || s.analyzers[a].state = .lost
  | .tankSwitchFault t => s.switchesDisagree t
  | .drainTimeout => s.liveLots.any fun l => l.state = .held && l.holdReason = some .drainTimeout
  | .lotHeld => s.liveLots.any fun l => l.state = .held
  | .cartridgeExhausted => s.kept.train.any (·.exhausted)
  | .permitCorrupt => s.kept.permit.active.isSome && s.kept.permit.corrupt
  | .capReached => s.capShort
  | .clockUnset => !s.clock.running
  | .outletLeak => s.path.state = .idle && s.outletMoving
  | .linkFault => s.link.faulted
  | .restoreFailed => s.startUp.restoreStands
  | .selfTestFailed => !s.startUp.selfTestPassed
  | .supplyLow => s.supply.hold

/-! ### Notices (R167 to R169) -/

/-- The Outbound Queue's places (R182). -/
def outboundPlaces : Nat := 8

/-- The places of the Outbound Queue that are free and not reserved. -/
def Link.free (k : Link) : Nat :=
  outboundPlaces - (k.outbound.length + k.reserved)

/-- The head pending notice moves to the tail of the Outbound Queue, its content fixed by the move (R169). -/
def moveNotice (s : State) : State :=
  match s.link.notices with
  | [] => s
  | n :: rest => s.modLink fun k => { k with notices := rest, outbound := k.outbound ++ [.notice n] }

/-- The set with an event handed to a key: its pending notice takes the new content and counts one more, or a notice
joins at the tail (R168). -/
def mergeNotice (key : Fin 33) (content : NoticeContent) (set : List Notice) : List Notice :=
  if set.any (·.key = key) then
    set.map fun n => if n.key = key then { n with content := content, merged := addTo 255 n.merged 1 } else n
  else set ++ [{ key := key, content := content, merged := 1 }]

/-- An event is handed to a key (R167): dropped when the key is disabled; otherwise it enters the Pending Notice set,
and a notice that enters an empty set while the Outbound Queue has room moves at once (R169). -/
def handNotice (key : Fin 33) (content : NoticeContent) (s : State) : State :=
  if s.kept.noticeMask[key] then
    let entered := s.modLink fun k => { k with notices := mergeNotice key content k.notices }
    if s.link.notices.isEmpty && 0 < s.link.free then moveNotice entered else entered
  else s

/-! ### Latching and clearing (R162 to R165) -/

/-- The ALERT output is judged: active while a latched flag belongs to an enabled kind (R165). -/
def judgeAlert (s : State) : State :=
  { s with alertActive := allFlags.any fun f => s.latched f && s.kept.alertMask[f.kind] }

/-- The notice key of a flag. -/
def Flag.key (f : Flag) : Fin 33 :=
  ⟨f.index.val, by have := f.index.isLt; omega⟩

/-- The event LATCHED or CLEARED of a flag, handed to its key. -/
def handAlert (f : Flag) (latched : Bool) (s : State) : State :=
  handNotice f.key (.alert (f.kind.val + 1) f.number latched s.flags[f.index].time (s.condition f)) s

/-- A latching event reaches a flag (R162). -/
def latch (f : Flag) (s : State) : State :=
  if s.latched f then s
  else handAlert f true (judgeAlert (s.modFlag f.index fun _ => { latched := true, time := some s.stamp }))

/-- The part itself clears a flag at the end of its condition (R163). -/
def clearByPart (f : Flag) (s : State) : State :=
  if s.latched f then handAlert f false (judgeAlert (s.modFlag f.index fun r => { r with latched := false }))
  else s

/-- `latch`, when a condition holds. -/
def latchIf (b : Bool) (f : Flag) (s : State) : State :=
  if b then latch f s else s

end Sys2Proof.Machine
end

