-- ==== Sys2Proof/Machine/Cells.lean ====
section
/-! DEFINITION. The Cell Drives: transitions, the control tick, duty and its staging, and their part of a supply hold
(R36 to R60). -/

namespace Sys2Proof.Machine

open Sys2Proof

/-! ### Readings (R14) and measured current (R55) -/

/-- What an analyzer input answers a consumer that asks for its reading (R14). -/
def State.reading (s : State) (a : Fin 5) : Option Nat × ReadingMark :=
  match s.analyzers[a].state, s.analyzers[a].held with
  | .valid, _ => (s.analyzers[a].published, .valid)
  | _, some v => (some v, .held)
  | _, none => (none, .unavailable)

/-- The analyzer input of a line (R36). -/
def lineAnalyzer (l : Fin 4) : Fin 5 :=
  ⟨l.val, by omega⟩

/-- The analyzer input a cell is the consumer of. -/
def State.cellInput (s : State) (c : Fin 4) : Option (Fin 5) :=
  s.kept.cells[c].line.map lineAnalyzer

/-- The measured current of a cell, mA: 0 when its CELLI role is unbound or the channel is STILL (R55). -/
def State.measuredCurrent (s : State) (c : Fin 4) : Nat :=
  match s.channelOf (.celli c) with
  | none => 0
  | some k => s.channels[k].pulseRate * s.kept.channels[k].scale / 60000

/-- A CELLI pulse of `q` µC books plated silver: q × 1,118 × eff hundredths of a picogram (R26). -/
def platedUnits (q eff : Nat) : Nat :=
  q * 1118 * eff

/-- A CELLI pulse reaches its Cell Drive (R26). The whole milligrams it carries go to the day's plated figure too, also
those that an account standing at its top discards (DEDUCED: assumption 30). -/
def celliPulse (c : Fin 4) (q : Nat) (s : State) : State :=
  let units := platedUnits q s.kept.cells[c].eff
  (s.modAccounts fun a => { a with plated := modAt a.plated c (·.add units) }).modDay fun d =>
    { d with plated := addTo accountTop d.plated (s.kept.accounts.plated[c].carriedMg units) }

/-! ### Duty (R52 to R54) -/

/-- The duty for a target (R52). -/
def dutyFor (target iFs : Nat) : Nat :=
  min (target * 1024 / iFs) 1023

/-- A duty is staged with the target it was computed for (R53). -/
def stageDuty (c : Fin 4) (target : Nat) (s : State) : State :=
  s.modCell c fun k => { k with staged := some { duty := dutyFor target s.kept.cells[c].iFs, target := target } }

/-- A forced zero (R54). -/
def Cell.forcedZero (k : Cell) (now : Micros) : Cell :=
  { k with staged := none, appliedDuty := 0, appliedTarget := 0, appliedSince := now }

/-- What entry to OFF and entry to FAULT share (R46, R47). -/
def Cell.stopped (k : Cell) (now : Micros) : Cell :=
  { k.forcedZero now with priming := none, control := none, mismatch := 0, target := 0, limit := .noLimit }

/-- A PWM period starts (R53): a staged duty becomes the applied duty. -/
def Cell.periodStart (k : Cell) (pwm : Timer) : Cell :=
  match k.staged with
  | none => { k with pwm := pwm }
  | some d =>
    { k with
      pwm := pwm, staged := none, appliedDuty := d.duty, appliedTarget := d.target
      appliedSince := if d.duty = k.appliedDuty then k.appliedSince else pwm.start }

/-- The on-time of a cell's drive in its period, µs: duty × period / 1,024, rounded down (R1, R53). -/
def Cell.onTime (k : Cell) : Micros :=
  k.appliedDuty * k.pwm.len / 1024

/-- CELL_DRIVEn is high: for the on-time of its period, from the period's start (R53). -/
def State.driveHigh (s : State) (c : Fin 4) : Bool :=
  s.now - s.cells[c].pwm.start < s.cells[c].onTime

/-! ### The target (R51) -/

/-- Demand of a line, µg/min: 0 when it is disabled, has film type 0, or its film is STILL. -/
def State.demand (s : State) (l : Option (Fin 4)) : Nat :=
  match l with
  | none => 0
  | some l =>
    if s.kept.lines[l].enabled && s.lines[l].filmMoving then s.lines[l].filmRate * s.lineLoad l else 0

/-- The target computation's figures for a demand and a concentration in whole mg/L. -/
def targetFigures (k : CellSettings) (demand c : Nat) : TargetFigures :=
  let iFf := demand * 10000 / (6708 * k.eff)
  let iCorr := (k.kc : Int) * ((c : Int) - (k.cSet : Int))
  { c := c, demand := demand, iFf := iFf, iCorr := iCorr, iRaw := (iFf : Int) + iCorr, iGuard := k.klim * c,
    iCeil := min k.iMax (k.klim * c) }

/-- The target and its limit reason (the table of R51). -/
def targetOf (k : CellSettings) (f : TargetFigures) : Nat × LimitReason :=
  if f.iRaw ≤ 0 then (0, .zero)
  else if f.iRaw ≤ (f.iCeil : Int) then (f.iRaw.toNat, .noLimit)
  else if f.iGuard < k.iMax then (f.iGuard, .guarded)
  else (k.iMax, .rated)

/-- The standby target: the standby current clamped to I_max (R43). -/
def standbyTarget (k : CellSettings) : Nat :=
  min k.standby k.iMax

/-! ### Faults and the checks (R47, R56, R57) -/

/-- A cell enters FAULT (R47). -/
def cellFaulted (c : Fin 4) (reason : CellFault) (s : State) : State :=
  latch (.cellFault c) (s.modCell c fun k => { k.stopped s.now with state := .fault, fault := some reason })

/-- The measured current above which a tick finds overcurrent (R56). -/
def overcurrentLimit (k : CellSettings) : Nat :=
  k.iMax * 110 / 100

/-- The absolute difference of two currents. -/
def currentGap (a b : Nat) : Nat :=
  (a - b) + (b - a)

/-- What steps 1 and 2 of a tick find (R56, R57). The mismatch check is made when the applied duty has been in force
for at least one full PWM period, counted by the setting (DESIGN CHOICE: assumption 40). -/
def tickCheck (s : State) (c : Fin 4) : TickCheck :=
  let k := s.kept.cells[c]
  let cell := s.cells[c]
  if overcurrentLimit k < s.measuredCurrent c then .overcurrent
  else if s.now < cell.appliedSince + k.pwmPeriod * ms then .skipped
  else if k.iFs / 10 < currentGap (s.measuredCurrent c) cell.appliedTarget then .mismatch
  else .pass

/-! ### The control tick (R49, R50) -/

/-- Steps 3 to 6 of a tick: what it computes. A HOLDING cell always finds a held value (R43, R44; assumption 31), so
the concentration 0 of an absent reading is that of states which no run reaches (assumption 27). -/
def tickOutcome (s : State) (c : Fin 4) : TickOutcome :=
  let k := s.kept.cells[c]
  let cell := s.cells[c]
  let state :=
    if (cell.state = .holding || cell.state = .standby) && cell.view.state = .valid then .regulating else cell.state
  if state = .standby then
    { state := .standby, reading := none, figures := none, target := standbyTarget k, limit := .noLimit,
      duty := dutyFor (standbyTarget k) k.iFs }
  else
    let answer := match s.cellInput c with
      | none => (none, ReadingMark.unavailable)
      | some a => s.reading a
    let f := targetFigures k (s.demand k.line) (answer.1.getD 0 / 1000)
    let t := targetOf k f
    { state := state, reading := answer.1.map fun v => (v, answer.2), figures := some f, target := t.1, limit := t.2,
      duty := dutyFor t.1 k.iFs }

/-- What every tick record holds: the figures of steps 1 and 2 (R50), the applied target they found (DEDUCED:
assumption 43), and the time of the µs clock (DESIGN CHOICE: assumption 39). -/
def tickRecord (s : State) (c : Fin 4) (outcome : Option TickOutcome) : TickRecord :=
  { time := s.now, measured := s.measuredCurrent c, applied := s.cells[c].appliedTarget, check := tickCheck s c
    outcome := outcome }

/-- The record of a tick that ends in FAULT, its computed figures absent (R50). -/
def faultTick (s : State) (c : Fin 4) : TickRecord :=
  tickRecord s c none

/-- Steps 3 to 7 of a tick (R50), with the mismatch count that step 2 left. -/
def finishTick (c : Fin 4) (mismatch : Nat) (s : State) : State :=
  let o := tickOutcome s c
  s.modCell c fun k =>
    { k with
      state := o.state, target := o.target, limit := o.limit, mismatch := mismatch
      staged := some { duty := o.duty, target := o.target }
      lastTick := some (tickRecord s c (some o)) }

/-- A control tick, taken whole (R50). -/
def cellTick (c : Fin 4) (s : State) : State :=
  match tickCheck s c with
  | .overcurrent => cellFaulted c .overcurrent (s.modCell c fun k => { k with lastTick := some (faultTick s c) })
  | .mismatch =>
    if 3 ≤ s.cells[c].mismatch + 1 then
      cellFaulted c .driveMismatch (s.modCell c fun k => { k with lastTick := some (faultTick s c) })
    else finishTick c (s.cells[c].mismatch + 1) s
  | .pass => finishTick c 0 s
  | .skipped => finishTick c s.cells[c].mismatch s

/-- The control timer starts toward the next tick, and a tick is taken (R40, R49). -/
def tickAndRestart (c : Fin 4) (s : State) : State :=
  cellTick c (s.modCell c fun k => { k with control := some (s.timer (s.kept.cells[c].interval * sec)) })

/-! ### Priming, holding and standby (R40 to R45) -/

/-- A PRIMING cell with its flow covered and its analyzer VALID goes to REGULATING with a first tick (R40); under the
hold mark no state moves (R38). -/
def testPrimed (c : Fin 4) (s : State) : State :=
  let k := s.cells[c]
  if k.state = .priming && !k.hold && k.flowCovered && k.view.state = .valid then
    tickAndRestart c (s.modCell c fun k => { k with state := .regulating, priming := none })
  else s

/-- The priming timer's span (R40). -/
def primingSpan : Micros := 60 * sec

/-- A cell enters PRIMING (R40). Under the hold mark its priming timer is stopped (R60). -/
def enterPriming (c : Fin 4) (s : State) : State :=
  testPrimed c (s.modCell c fun k =>
    { k with
      state := .priming, mismatch := 0, staged := none, appliedDuty := 0, target := 0, limit := .noLimit,
      control := none, priming := if k.hold then none else some (s.timer primingSpan) })

/-- A cell enters STANDBY (R43): the standby duty is staged at once. -/
def enterStandby (c : Fin 4) (s : State) : State :=
  stageDuty c (standbyTarget s.kept.cells[c]) (s.modCell c fun k =>
    { k with state := .standby, target := standbyTarget s.kept.cells[c], limit := .noLimit })

/-- "Entered VALID" from the bound input (R38, R40). -/
def cellEnteredValid (c : Fin 4) (s : State) : State :=
  testPrimed c (s.modCell c fun k => { k with view := { state := .valid, heldPresent := true } })

/-- "Left VALID" (R38, R42). -/
def cellLeftValid (c : Fin 4) (state : AnalyzerState) (held : Bool) (s : State) : State :=
  let viewed := s.modCell c fun k => { k with view := { state := state, heldPresent := held } }
  if s.cells[c].state = .regulating && !s.cells[c].hold then
    if held then viewed.modCell c fun k => { k with state := .holding } else enterStandby c viewed
  else viewed

/-- "Hold expired" (R38, R43). -/
def cellHoldExpired (c : Fin 4) (s : State) : State :=
  let viewed := s.modCell c fun k => { k with view := { k.view with heldPresent := false } }
  if s.cells[c].state = .holding && !s.cells[c].hold then enterStandby c viewed else viewed

/-- The states in which a cell is driven. -/
def CellState.driven : CellState → Bool
  | .regulating => true
  | .holding => true
  | .standby => true
  | .off => false
  | .priming => false
  | .fault => false

/-- A change event of CELLn_FLOW (R38, R40, R45). -/
def cellFlowChange (c : Fin 4) (covered : Bool) (s : State) : State :=
  let viewed := s.modCell c fun k => { k with flowCovered := covered }
  if !covered && s.cells[c].state.driven && !s.cells[c].hold then cellFaulted c .noFlow viewed
  else testPrimed c viewed

/-! ### Supply hold (R58, R59) -/

/-- A cell sets its hold mark (R58). -/
def Cell.setHold (k : Cell) (now : Micros) : Cell :=
  if k.state.driven || k.state = .priming then
    { k.forcedZero now with control := none, priming := none, hold := true }
  else { k with hold := true }

def holdCells (s : State) : State :=
  { s with cells := s.cells.map (·.setHold s.now) }

/-- A cell clears its hold mark (R59). -/
def recoverCell (c : Fin 4) (s : State) : State :=
  let cleared := s.modCell c fun k => { k with hold := false }
  if s.cells[c].state.driven then enterPriming c cleared
  else if s.cells[c].state = .priming then
    testPrimed c (cleared.modCell c fun k => { k with priming := some (s.timer primingSpan) })
  else cleared

/-- Supply recovery reaches the cells, C1 first (R59; DESIGN CHOICE: assumption 42). -/
def recoverCells (s : State) : State :=
  (List.finRange 4).foldl (fun s c => recoverCell c s) s

end Sys2Proof.Machine
end

