-- ==== Sys2Proof/Machine/Wash.lean ====
section
/-! DEFINITION. The Line Units and Wash Control: film rate, wash states, target flow and open fraction, wash cycles,
the low-flow watch, and the loops' part of a supply hold (R62 to R74). -/

namespace Sys2Proof.Machine

open Sys2Proof

/-- The flow the film asks for, mL/min (R68). -/
def State.filmFlow (s : State) (l : Fin 4) : Nat :=
  s.lines[l].filmRate * s.kept.lines[l].washRatio / 1000

/-- The target flow of a loop in its present state (R68). -/
def State.washTarget (s : State) (l : Fin 4) : Option Nat :=
  match s.loops[l].state with
  | .running =>
    some (if s.loops[l].backup then min (s.filmFlow l) s.kept.lines[l].trickle else s.filmFlow l)
  | .trickle => some s.kept.lines[l].trickle
  | .off => none
  | .idle => none

/-- The open fraction for a target, in thousandths, capped at 1,000 (R69). -/
def openFraction (target rated : Nat) : Nat :=
  min (target * 1000 / rated) 1000

/-- The loop computes its target and stages the fraction; under the hold mark no fraction is staged (R69). -/
def retarget (l : Fin 4) (s : State) : State :=
  s.modLoop l fun k =>
    { k with
      target := s.washTarget l
      staged := if k.hold then none else (s.washTarget l).map (openFraction · s.kept.lines[l].ratedFlow) }

/-- `retarget` in the states that compute a target (R69). -/
def retargetIfActive (l : Fin 4) (s : State) : State :=
  if s.loops[l].state = .running || s.loops[l].state = .trickle then retarget l s else s

/-- The valve closes at once for the rest of the cycle, and a staged fraction is discarded (R65, R67, R74). -/
def WashLoop.forceClosed (k : WashLoop) : WashLoop :=
  { k with staged := none, applied := 0 }

/-- What leaving RUNNING, entering OFF and setting the hold mark each do to the low-flow watch (R71). -/
def WashLoop.unwatched (k : WashLoop) : WashLoop :=
  { k with lowFlow := 0, watched := false }

/-- The loop enters OFF (R65). -/
def washOff (l : Fin 4) (s : State) : State :=
  s.modLoop l fun k => { k.forceClosed.unwatched with state := .off, stop := none, target := none }

/-- The loop enters IDLE (R67). -/
def washIdle (l : Fin 4) (s : State) : State :=
  s.modLoop l fun k => { k.forceClosed with state := .idle, stop := none, target := none }

/-- The loop enters RUNNING (R66): the stop timer stops, the low-flow count is 0, and the target is computed. -/
def washRun (l : Fin 4) (s : State) : State :=
  retarget l (s.modLoop l fun k => { k with state := .running, stop := none, lowFlow := 0 })

/-- "Film started" (R66). -/
def filmStarted (l : Fin 4) (s : State) : State :=
  match s.loops[l].state with
  | .idle => washRun l s
  | .trickle => washRun l s
  | .off => s
  | .running => s

/-- "Rate changed" (R66). -/
def filmRateChanged (l : Fin 4) (s : State) : State :=
  match s.loops[l].state with
  | .running => retarget l s
  | .off => s
  | .trickle => s
  | .idle => s

/-- "Film stopped" (R67): TRICKLE with its stop timer, or IDLE at once with a stop timeout of 0. -/
def filmStopped (l : Fin 4) (s : State) : State :=
  match s.loops[l].state with
  | .running =>
    let left := s.modLoop l WashLoop.unwatched
    if s.kept.lines[l].stopTimeout = 0 then washIdle l left
    else retarget l (left.modLoop l fun k =>
      { k with state := .trickle, stop := some (s.timer (s.kept.lines[l].stopTimeout * sec)) })
  | .off => s
  | .trickle => s
  | .idle => s

/-- A rate update reaches the Line Unit, which hands its loop one event (R63). -/
def lineRateUpdate (l : Fin 4) (rate : Nat) (moving : Bool) (s : State) : State :=
  let t := s.modLine l fun _ => { filmRate := rate, filmMoving := moving }
  match s.lines[l].filmMoving, moving with
  | false, true => filmStarted l t
  | true, false => filmStopped l t
  | true, true => filmRateChanged l t
  | false, false => t

/-- A footage pulse of `scale` mm reaches the Line Unit and books scale × load µg (R25); a disabled line, or film type 0,
books nothing. -/
def footagePulse (l : Fin 4) (scale : Nat) (s : State) : State :=
  if s.kept.lines[l].enabled ∧ s.kept.lines[l].filmType ≠ 0 then
    s.modAccounts fun a => { a with filmIn := modAt a.filmIn l (·.add (scale * s.lineLoad l)) }
  else s

/-- A wash pulse of `q` mL (R73). -/
def washPulse (l : Fin 4) (q : Nat) (s : State) : State :=
  (s.modLoop l fun k =>
    { k with washVolume := addTo accountTop k.washVolume q, cycleVolume := k.cycleVolume + q }).modDay fun d =>
      { d with wash := addTo accountTop d.wash q }

/-- The rate of the WASH channel becomes the loop's measured flow (R73). -/
def washRateUpdate (l : Fin 4) (rate : Nat) (s : State) : State :=
  s.modLoop l fun k => { k with measuredFlow := rate }

/-- The volume a cycle commands, mL (R71). -/
def State.commandedVolume (s : State) (l : Fin 4) : Nat :=
  s.kept.lines[l].ratedFlow * s.loops[l].applied * (s.loops[l].cycle.len / sec) / 60000

/-- A watched cycle is judged at its end (R71, R72). -/
def judgeCycle (l : Fin 4) (s : State) : State :=
  if s.loops[l].watched then
    if s.loops[l].cycleVolume * 2 < s.commandedVolume l then
      let failed := s.modLoop l fun k => { k with lowFlow := min (k.lowFlow + 1) 3 }
      if s.loops[l].lowFlow = 2 then latch (.washLow l) failed else failed
    else s.modLoop l fun k => { k with lowFlow := 0 }
  else s

/-- A wash cycle starts (R70): the cycle before it is judged, a staged fraction is applied, and the new cycle is
watched in RUNNING at 100 thousandths or more with the hold mark clear (R71). -/
def startCycle (l : Fin 4) (s : State) : State :=
  (judgeCycle l s).modLoop l fun k =>
    let applied := k.staged.getD k.applied
    { k with
      applied := applied
      staged := none
      cycleVolume := 0
      watched := k.state = .running && !k.hold && 100 ≤ applied
      cycle := s.timer (s.kept.lines[l].washCycle * sec) }

/-- Tank Control hands a loop "backup arose" or "backup cleared" (R68). -/
def backupAt (restricted : Bool) (l : Fin 4) (s : State) : State :=
  let marked := s.modLoop l fun k => { k with backup := restricted }
  if s.loops[l].state = .running then retarget l marked else marked

/-- Every loop is handed the backup event. -/
def backupEvent (restricted : Bool) (s : State) : State :=
  (List.finRange 4).foldl (fun s l => backupAt restricted l s) s

/-- Every loop sets its hold mark (R74). -/
def holdLoops (s : State) : State :=
  { s with loops := s.loops.map fun k => { k.forceClosed.unwatched with hold := true } }

/-- A loop clears its hold mark and judges its target again (R74). -/
def recoverLoop (l : Fin 4) (s : State) : State :=
  retargetIfActive l (s.modLoop l fun k => { k with hold := false })

def recoverLoops (s : State) : State :=
  (List.finRange 4).foldl (fun s l => recoverLoop l s) s

/-- WASH_VALVEn is open: from the cycle's start for the applied share of its length (R70). -/
def State.washValveOpen (s : State) (l : Fin 4) : Bool :=
  s.now - s.loops[l].cycle.start < s.loops[l].applied * s.loops[l].cycle.len / 1000

end Sys2Proof.Machine
end

