-- ==== Sys2Proof/Machine/Lots.lean ====
section
/-! DEFINITION. The Lot Table and its lists, the Sampler's taking, failing and abandoning of a lot, the transfer pump,
and the closing and opening of lots (R76 to R81, R87 to R90, R92, R99, R100). -/

namespace Sys2Proof.Machine

open Sys2Proof

/-! ### Lot events and HELD (R100) -/

/-- The notice key of a tank's lot events: keys 29 to 31. -/
def tankKey (t : Fin 3) : Fin 33 :=
  ⟨28 + t.val, by omega⟩

/-- A lot event is handed on for the record `l` of tank `t` (R100): with the disposition of a lot that leaves the table,
or else with its hold reason, never with both (assumption 29). -/
def handLotEvent (kind : LotEventKind) (t : Fin 3) (l : Lot) (d : Option Disposition) (s : State) : State :=
  handNotice (tankKey t)
    (.lot kind l.number l.state l.current l.concentration (if d.isSome then none else l.holdReason) d) s

/-- A lot event of the lot in tank `t`. -/
def lotEvent (kind : LotEventKind) (t : Fin 3) (s : State) : State :=
  match s.lotIn t with
  | none => s
  | some l => handLotEvent kind t l none s

/-- A lot number is taken out of whichever list it stands in; the lots behind it move up (R87). -/
def dropFromLists (n : Nat) (s : State) : State :=
  s.modKept fun k =>
    { k with
      dischargeQueue := k.dischargeQueue.filter (· ≠ n)
      polishWait := k.polishWait.filter (· ≠ n)
      sampleWait := k.sampleWait.filter (· ≠ n) }

/-- The lot in tank `t` enters HELD with a reason (R100): the lot event, then LOT_HELD (assumption 10). -/
def enterHeld (t : Fin 3) (reason : HoldReason) (s : State) : State :=
  latch .lotHeld (lotEvent .held t (s.modLot t fun l => { l with state := .held, holdReason := some reason }))

/-- The lot in tank `t` enters SAMPLE_WAIT at the tail of Sample Wait. -/
def enterSampleWait (t : Fin 3) (s : State) : State :=
  match s.lotIn t with
  | none => s
  | some l =>
    (s.modLot t fun l => { l with state := .sampleWait, holdReason := none }).modKept fun k =>
      { k with sampleWait := k.sampleWait ++ [l.number] }

/-- The lot in tank `t` enters QUEUED at the tail of the Discharge Queue. The tell to the arbiter is the caller's. -/
def enterQueued (t : Fin 3) (s : State) : State :=
  match s.lotIn t with
  | none => s
  | some l =>
    (s.modLot t fun l => { l with state := .queued, holdReason := none }).modKept fun k =>
      { k with dischargeQueue := k.dischargeQueue ++ [l.number] }

/-- The lot in tank `t` is returned to the head of the Discharge Queue (R87, R93). -/
def enterQueueHead (t : Fin 3) (s : State) : State :=
  match s.lotIn t with
  | none => s
  | some l =>
    (s.modLot t fun l => { l with state := .queued, holdReason := none }).modKept fun k =>
      { k with dischargeQueue := l.number :: k.dischargeQueue }

/-- The lot in tank `t` enters POLISH_WAIT at the tail of Polish Wait. The tell to the arbiter is the caller's. -/
def enterPolishWait (t : Fin 3) (s : State) : State :=
  match s.lotIn t with
  | none => s
  | some l =>
    (s.modLot t fun l => { l with state := .polishWait, holdReason := none }).modKept fun k =>
      { k with polishWait := k.polishWait ++ [l.number] }

/-! ### The Sampler (R89, R90, R92) -/

/-- The Sampler takes the head of Sample Wait when it is IDLE with its hold mark clear (R89). -/
def samplerTest (s : State) : State :=
  if s.sampler.state = .idle && !s.sampler.hold then
    match s.kept.sampleWait with
    | [] => s
    | n :: rest =>
      match s.tankOfLot n with
      | none => s
      | some t =>
        let taken := (s.modKept fun k => { k with sampleWait := rest }).modLot t fun l => { l with state := .sampling }
        { taken with
          sampler :=
            { s.sampler with
              state := .flushing, lot := some n, flush := some (s.timer (s.kept.plant.flush * sec)), window := none,
              count := 0, sum := 0 } }
  else s

/-- The Sampler ends an attempt: outputs off, timers stopped, readings discarded, IDLE with no lot (R90, R92). -/
def samplerEnd (s : State) : State :=
  { s with
    sampler := { s.sampler with state := .idle, lot := none, flush := none, window := none, count := 0, sum := 0 } }

/-- The tank of the Sampler's lot. -/
def State.samplerTank (s : State) : Option (Fin 3) :=
  s.sampler.lot.bind s.tankOfLot

/-- A sample attempt fails (R90): the third puts the lot into HELD, an earlier one back into Sample Wait. Attempts that
stand at 3 already stay there, and the lot is held (assumption 32). -/
def attemptFails (s : State) : State :=
  match s.samplerTank with
  | none => samplerTest (samplerEnd s)
  | some t =>
    let counted := s.modLot t fun l => { l with attempts := addTo 3 l.attempts 1 }
    let placed :=
      if (s.lotIn t).any (3 ≤ ·.attempts + 1) then enterHeld t .sampleFailed counted else enterSampleWait t counted
    samplerTest (samplerEnd placed)

/-! ### The transfer pump (R76, R78) -/

/-- The four conditions of the transfer pump (R76). -/
def State.pumpWanted (s : State) : Bool :=
  s.fillingTank.isSome && (s.sump.pump || s.sump.callMark) && s.covered .sumpLow && !s.sump.hold

/-- The backup timer starts with the delay in force (R78). -/
def State.backupStarted (s : State) : Timer :=
  s.timer (s.kept.plant.backupDelay * sec)

/-- The pump starts: the backup timer stops, and a SUMP_BACKUP that stands becomes absent (R78). -/
def startPump (s : State) : State :=
  let on := { s with sump := { s.sump with pump := true, backupTimer := none, backup := false } }
  if s.sump.backup then backupEvent false on else on

/-- The pump stops: the call mark is set or cleared by SUMP_HIGH, and the backup timer starts when it is covered. -/
def stopPump (s : State) : State :=
  { s with
    sump :=
      { s.sump with
        pump := false
        callMark := s.covered .sumpHigh
        backupTimer := if s.covered .sumpHigh then some s.backupStarted else s.sump.backupTimer } }

/-- Tank Control judges the conditions of the pump and starts or stops it (R76). -/
def pumpJudge (s : State) : State :=
  if s.pumpWanted && !s.sump.pump then startPump s
  else if !s.pumpWanted && s.sump.pump then stopPump s
  else s

/-! ### Opening and closing lots (R80, R81, R88) -/

/-- The lot number after `n` (R80). -/
def nextNumber (n : Nat) : Nat :=
  if 65535 ≤ n then 1 else n + 1

/-- The first number from `n` on that no live lot holds, within `k` steps. -/
def passOver (s : State) : Nat → Nat → Nat
  | 0, n => n
  | k + 1, n => if (s.tankOfLot n).isSome then passOver s k (nextNumber n) else n

/-- The number a new lot takes: at most three live lots are passed over (R80). -/
def State.freshNumber (s : State) : Nat :=
  passOver s 3 s.kept.nextLot

/-- A lot's record as it opens (R80). -/
def Lot.opening (number : Nat) (opened : Stamp) (settings : TankSettings) : Lot :=
  { number := number, state := .filling, opened := opened, closed := none, filled := 0, current := 0,
    concentration := none, previous := none, removalPending := false, passes := 0, hostPass := false, attempts := 0,
    holdReason := none, dischargedVolume := 0, dischargedMass := NanoAccount.zero, shortfall := 0, excess := 0,
    volumeSuspect := false, removalNegative := false, settings := settings }

/-- A max fill timer of `hours`, stopped for 0 (R80). -/
def State.maxFillTimer (s : State) (hours : Nat) : Option Timer :=
  if hours = 0 then none else some (s.timer (hours * 3600 * sec))

/-- A new lot opens in tank `t` (R80), and the pump is judged. -/
def openLot (t : Fin 3) (s : State) : State :=
  let settings := s.kept.tankSettings[t]
  let n := s.freshNumber
  let opened := s.modKept fun k =>
    { k with
      nextLot := nextNumber n
      tanks := modAt k.tanks t fun _ => { state := .filling, lot := some (Lot.opening n s.stamp settings) } }
  pumpJudge (opened.modTimers t fun k => { k with maxFill := s.maxFillTimer settings.maxFill })

/-- The lot in tank `t` enters SETTLING (R88); a settle time of 0 gives SAMPLE_WAIT at once. -/
def enterSettling (t : Fin 3) (s : State) : State :=
  match s.lotIn t with
  | none => s
  | some l =>
    let settling := s.modLot t fun l => { l with state := .settling, holdReason := none }
    if l.settings.settle = 0 then samplerTest (enterSampleWait t settling)
    else settling.modTimers t fun k => { k with settle := some (s.timer (l.settings.settle * sec)) }

/-- Steps 1 and 2 of a closing (R81): the max fill timer stops and the closing time is written. -/
def closeFill (t : Fin 3) (s : State) : State :=
  (s.modTimers t fun k => { k with maxFill := none }).modLot t fun l => { l with closed := some s.stamp }

/-- Steps 1 to 7 of a closing (R81). `byHigh` says that the cause is HIGH. -/
def closeSteps (t : Fin 3) (byHigh : Bool) (s : State) : State :=
  let suspect := (closeFill t s).modLot t fun l =>
    { l with volumeSuspect := l.volumeSuspect || (byHigh && l.filled * 2 < l.settings.capacity) }
  let closed := suspect.modTank t fun k => { k with state := .closed }
  pumpJudge (lotEvent .closed t (enterSettling t closed))

/-- The lowest-numbered EMPTY tank. -/
def State.emptyTank (s : State) : Option (Fin 3) :=
  (List.finRange 3).find? fun t => s.kept.tanks[t].state = .empty

/-- The fill selection (R80), with the closing at once of a lot opened under a covered HIGH and the selection that
follows it. Each turn takes an EMPTY tank out of the three, so three turns suffice. -/
def fillTurns : Nat → State → State
  | 0, s => s
  | k + 1, s =>
    if s.fillingTank.isSome then s
    else
      match s.emptyTank with
      | none => s
      | some t =>
        let opened := openLot t s
        if opened.covered (.tankHigh t) then pumpJudge (fillTurns k (closeSteps t true opened)) else opened

/-- The fill selection (R80). -/
def fillSelection (s : State) : State :=
  fillTurns 3 s

/-- The FILLING lot in tank `t` closes (R81). -/
def closeLot (t : Fin 3) (byHigh : Bool) (s : State) : State :=
  pumpJudge (fillSelection (closeSteps t byHigh s))

/-! ### Leaving the table (R99) -/

/-- Lot History holds 16 records, Day History 8: the oldest is dropped for a new one. -/
def appendBounded {α : Type} (bound : Nat) (l : List α) (x : α) : List α :=
  (l ++ [x]).drop (l.length + 1 - bound)

/-- The history record of a lot (R99). -/
def Lot.record (l : Lot) (t : Fin 3) (d : Disposition) (ended : Stamp) (hauled : Nat) (unknown : Bool) : LotRecord :=
  { number := l.number, tank := t, disposition := d, opened := l.opened, closed := l.closed, ended := ended,
    filled := l.filled, concentration := l.concentration, previous := l.previous, passes := l.passes,
    dischargedVolume := l.dischargedVolume, dischargedMass := l.dischargedMass, hauledMass := hauled,
    shortfall := l.shortfall, excess := l.excess, volumeSuspect := l.volumeSuspect,
    removalNegative := l.removalNegative, massUnknown := unknown }

/-- Of the records that Lot History drops, the path keeps that of the lot it has stopped, whose overrun may still come
(R141; assumption 21). -/
def Path.keep (p : Path) (dropped : List LotRecord) : Path :=
  { p with dropped := (dropped.reverse.find? fun r => p.lot = some r.number).or p.dropped }

/-- The lot in tank `t` leaves the table (R99). -/
def leaveTable (t : Fin 3) (d : Disposition) (hauled : Nat) (unknown : Bool) (s : State) : State :=
  match s.lotIn t with
  | none => s
  | some l =>
    let removed := s.modKept fun k =>
      { k with
        history := appendBounded 16 k.history (l.record t d s.stamp hauled unknown)
        tanks := modAt k.tanks t fun x => { x with lot := none } }
    handLotEvent .left t l (some d) ((removed.modDay fun y => { y with lots := addTo 65535 y.lots 1 }).modPath
      (·.keep (s.kept.history.take (s.kept.history.length + 1 - 16))))

end Sys2Proof.Machine
end

