-- ==== Sys2Proof/Machine/Outlet.lean ====
section
/-! DEFINITION. The Outlet Path's drains: how a lot is handed back, stops, metering and charging of outlet pulses,
overrun, stray flow, and the outlet events (R27, R28, R93, R126, R127, R134 to R148). -/

namespace Sys2Proof.Machine

open Sys2Proof

/-! ### Handing a lot back (R93) -/

/-- Returned: QUEUED at the head of the Discharge Queue, its tank CLOSED. -/
def handBackReturned (t : Fin 3) (s : State) : State :=
  lotEvent .queued t (enterQueueHead t (s.modTank t fun k => { k with state := .closed }))

/-- Drained: to Lot History as DISCHARGED, its tank EMPTY, and the fill selection runs. -/
def handBackDrained (t : Fin 3) (s : State) : State :=
  fillSelection ((leaveTable t .discharged 0 false s).modTank t fun k => { k with state := .empty })

/-- Held with a reason: its tank CLOSED, or OUT_OF_SERVICE after a switch fault. -/
def handBackHeld (reason : HoldReason) (t : Fin 3) (s : State) : State :=
  enterHeld t reason
    (s.modTank t fun k => { k with state := if k.state = .outOfService then .outOfService else .closed })

/-- Pass completed: passes up by one, holding at 5, the host pass flag clear, SETTLING, its tank CLOSED. -/
def handBackPassed (t : Fin 3) (s : State) : State :=
  enterSettling t
    ((s.modTank t fun k => { k with state := .closed }).modLot t fun l =>
      { l with passes := addTo 5 l.passes 1, hostPass := false })

/-- Pass abandoned: POLISH_WAIT at the tail of Polish Wait, its tank CLOSED. -/
def handBackAbandoned (t : Fin 3) (s : State) : State :=
  enterPolishWait t (s.modTank t fun k => { k with state := .closed })

/-! ### Stops (R135 to R140) -/

/-- Hands back the lot of the path's tank. -/
def handBack (how : Fin 3 → State → State) (s : State) : State :=
  match s.path.tank with
  | none => s
  | some t => how t s

/-- A stop of a drain (R140): the path enters STOPPING with its valves off, hands the lot back, orders a checkpoint
write after a discharge, and starts the closing timer. -/
def stopDrain (cause : StopCause) (how : Fin 3 → State → State) (s : State) : State :=
  let stopping := s.modPath fun p =>
    { p with state := .stopping, drain := none, stopCause := some cause, overrun := 0 }
  let back := handBack how stopping
  let written := if s.path.state = .discharge then orderWrite .checkpoint back else back
  written.modPath fun p => { p with closing := some (s.timer (s.kept.plant.closing * sec)) }

/-- The path is draining a lot. -/
def Path.draining (p : Path) : Bool :=
  p.state = .discharge || p.state = .polish

/-- One of the four events that end a discharge and return its lot (R137); elsewhere it does nothing. -/
def interruptDischarge (cause : StopCause) (s : State) : State :=
  if s.path.state = .discharge then stopDrain cause handBackReturned s else s

/-- HOLD LOT, a switch fault or the drain timer ends a drain of either use with a held lot (R138, R139). -/
def stopHeld (cause : StopCause) (reason : HoldReason) (s : State) : State :=
  if s.path.draining then stopDrain cause (handBackHeld reason) s else s

/-- The tank in DISCHARGE has run dry (R136). -/
def runDry (s : State) : State :=
  match s.path.tank with
  | none => s
  | some t =>
    stopDrain .drained handBackDrained (s.modLot t fun l => { l with shortfall := l.shortfall + l.current, current := 0 })

/-- LOW of the draining tank is uncovered: a discharge has run dry, a polish has lost its level (R136, R146). -/
def drainLowLost (s : State) : State :=
  match s.path.state with
  | .discharge => runDry s
  | .polish => stopDrain .levelLost (handBackHeld .levelLost) s
  | .idle => s
  | .stopping => s

/-- The drain timer expires (R139). -/
def drainTimedOut (s : State) : State :=
  latch .drainTimeout (stopHeld .drainTimeout .drainTimeout s)

/-! ### Charges (R27, R28, R118) -/

/-- Silver charged to the day discharge total and to DISCHARGED, each through its own residue. -/
def chargeSilver (ng : Nat) (s : State) : State :=
  (s.modDay fun d => { d with total := d.total.add ng }).modAccounts fun a => { a with discharged := a.discharged.add ng }

/-- The day discharged volume takes `q` mL (R118). -/
def addDayVolume (q : Nat) (s : State) : State :=
  s.modDay fun d => { d with volume := addTo accountTop d.volume q }

/-- A pulse of `q` mL taken out of a lot's volumes (R134, steps 1 and 2). -/
def Lot.drawn (l : Lot) (q : Nat) : Lot :=
  { l with
    dischargedVolume := addTo volumeTop l.dischargedVolume q
    current := l.current - q
    excess := addTo volumeTop l.excess (q - l.current) }

/-- What a pulse of `q` mL of a lot is charged, ng (R27). -/
def lotCharge (l : Lot) (q : Nat) : Nat :=
  q * l.concentration.getD 0

/-- Steps 1 to 3 of R134 for the live lot in tank `t`. -/
def meterLot (t : Fin 3) (q : Nat) (s : State) : State :=
  match s.lotIn t with
  | none => s
  | some l =>
    let drawn := (s.modPath fun p => { p with metered := p.metered + q }).modLot t (·.drawn q)
    let charged := (chargeSilver (lotCharge l q) drawn).modLot t fun l' =>
      { l' with dischargedMass := l'.dischargedMass.add (lotCharge l q) }
    addDayVolume q charged

/-- The newest history record of a lot number changed by `f` (assumption 21). -/
def modRecord (n : Nat) (f : LotRecord → LotRecord) : List LotRecord → List LotRecord
  | [] => []
  | r :: rest => if r.number = n && !rest.any (·.number = n) then f r :: rest else r :: modRecord n f rest

/-- The newest history record of a lot number. -/
def State.recordOf (s : State) (n : Nat) : Option LotRecord :=
  s.kept.history.reverse.find? (·.number = n)

/-- The record of a lot that the path has stopped and that has left the table: its history record, or the one that the
path kept when Lot History dropped it (assumption 21). -/
def State.endedRecord (s : State) (n : Nat) : Option LotRecord :=
  (s.recordOf n).or (s.path.dropped.filter (·.number = n))

/-- A record takes an overrun pulse of `q` mL that is charged `ng` (R141). -/
def LotRecord.overran (r : LotRecord) (q ng : Nat) : LotRecord :=
  { r with
    dischargedVolume := addTo volumeTop r.dischargedVolume q
    dischargedMass := r.dischargedMass.add ng }

/-- Overrun of a lot that has left the table (R141). -/
def meterRecord (n q : Nat) (s : State) : State :=
  let ng := q * ((s.endedRecord n).bind (·.concentration)).getD 0
  let metered := s.modPath fun p => { p with metered := p.metered + q }
  let recorded :=
    if (s.recordOf n).isSome then
      metered.modKept fun k => { k with history := modRecord n (·.overran q ng) k.history }
    else metered.modPath fun p =>
      { p with dropped := p.dropped.map fun r => if r.number = n then r.overran q ng else r }
  addDayVolume q (chargeSilver ng recorded)

/-! ### Outlet pulses (R134, R141, R143, R145) -/

/-- The grant has been met (R135). -/
def Path.grantMet (p : Path) : Bool :=
  match p.grant with
  | some (.volume g) => g ≤ p.metered
  | _ => false

/-- An outlet pulse in DISCHARGE (R134, R135). -/
def dischargePulse (q : Nat) (s : State) : State :=
  match s.path.tank with
  | none => s
  | some t =>
    let metered := meterLot t q s
    if metered.path.grantMet then stopDrain .grantMet handBackReturned metered else metered

/-- An outlet pulse in POLISH (R145). -/
def polishPulse (q : Nat) (s : State) : State :=
  let passed := s.modPath fun p => { p with polishVolume := p.polishVolume + q }
  if passed.path.passTarget.any (· ≤ passed.path.polishVolume) then stopDrain .passComplete handBackPassed passed
  else passed

/-- An outlet pulse in STOPPING: overrun of the lot just stopped (R141). -/
def overrunPulse (q : Nat) (s : State) : State :=
  let counted := s.modPath fun p => { p with overrun := p.overrun + q }
  match s.path.use with
  | some .discharge =>
    match s.path.lot with
    | none => counted
    | some n =>
      match s.tankOfLot n with
      | some t => meterLot t q counted
      | none => meterRecord n q counted
  | some .polish => counted.modPath fun p => { p with polishVolume := p.polishVolume + q }
  | none => counted

/-- Stray flow (R28, R143). -/
def strayPulse (q : Nat) (s : State) : State :=
  let counted := addDayVolume q (s.modPath fun p => { p with stray := wrap32 (p.stray + q) })
  let charged := match s.usablePermit with
    | none => counted
    | some p => chargeSilver (q * p.limit) counted
  latch .outletLeak charged

/-- An accepted outlet pulse reaches the path. -/
def outletPulse (q : Nat) (s : State) : State :=
  match s.path.state with
  | .discharge => dischargePulse q s
  | .polish => polishPulse q s
  | .stopping => overrunPulse q s
  | .idle => strayPulse q s

/-! ### Outlet events and the end of a drain (R142, R147, R148) -/

/-- The outlet's notice key, 32. -/
def outletKey : Fin 33 := 31

/-- The content of "ended" (R148): the lot's figures are those of its record, or of its history record when it has
left the table, which carries no current volume: a drained lot's is 0 (R136), a hauled lot's is free (assumption 27). -/
def endedContent (s : State) (n : Nat) (t : Fin 3) (use : PathUse) (cause : StopCause) : NoticeContent :=
  let p := s.path
  match use with
  | .discharge =>
    match (s.tankOfLot n).bind s.lotIn, s.endedRecord n with
    | some l, _ =>
      .endedDischarge n t cause p.metered (some l.current) l.excess l.shortfall l.dischargedMass.mg p.overrun
    | none, some r =>
      .endedDischarge n t cause p.metered (if r.disposition = .discharged then some 0 else Config.hauledVolume r s.now)
        r.excess r.shortfall r.dischargedMass.mg p.overrun
    | none, none => .endedDischarge n t cause p.metered none 0 0 0 p.overrun
  | .polish =>
    match (s.tankOfLot n).bind s.lotIn, s.endedRecord n with
    | some l, _ => .endedPolish n t cause p.polishVolume l.passes p.overrun
    | none, some r => .endedPolish n t cause p.polishVolume r.passes p.overrun
    | none, none => .endedPolish n t cause p.polishVolume 0 p.overrun

/-- The path becomes IDLE and hands "ended" (R142, steps 1 and 2). The figures of the last stop stay. -/
def pathEnds (s : State) : State :=
  let idle := s.modPath fun p =>
    { p with state := .idle, lot := none, tank := none, use := none, drain := none, closing := none, dropped := none }
  match s.path.lot, s.path.tank, s.path.use, s.path.stopCause with
  | some n, some t, some use, some cause => handNotice outletKey (endedContent s n t use cause) idle
  | _, _, _, _ => idle

/-- A stop of a supply hold, which goes to IDLE without a closing interval (R147). -/
def stopForHold (how : Fin 3 → State → State) (s : State) : State :=
  handBack how (s.modPath fun p => { p with drain := none, stopCause := some .supplyHold })

/-- The path sets its hold mark (R147). -/
def holdPath (s : State) : State :=
  let marked := s.modPath fun p => { p with hold := true }
  match s.path.state with
  | .discharge => pathEnds (orderWrite .checkpoint (stopForHold handBackReturned marked))
  | .polish => pathEnds (stopForHold handBackAbandoned marked)
  | .stopping => pathEnds marked
  | .idle => marked

/-- The outlet outputs, driven from the path's state and the tank of its lot (R127). -/
structure OutletOutputs where
  outlet : Option (Fin 3)
  pump : Bool
  dischargeValve : Bool
  polishValve : Bool
  returnValve : Option (Fin 3)
  deriving DecidableEq, Repr

def State.outletOutputs (s : State) : OutletOutputs :=
  match s.path.state with
  | .discharge =>
    { outlet := s.path.tank, pump := true, dischargeValve := true, polishValve := false, returnValve := none }
  | .polish =>
    { outlet := s.path.tank, pump := true, dischargeValve := false, polishValve := true, returnValve := s.path.tank }
  | .idle => { outlet := none, pump := false, dischargeValve := false, polishValve := false, returnValve := none }
  | .stopping => { outlet := none, pump := false, dischargeValve := false, polishValve := false, returnValve := none }

end Sys2Proof.Machine
end

