-- ==== Sys2Proof/Machine/Permit.lean ====
section
/-! DEFINITION. The Permit Unit: windows, activation and the digest check (R106 to R112). Activation and a window that
opens each tell the Outlet Path's arbiter; `tell` is what that tell does. Inside a decision of the arbiter it does
nothing, because the decision in progress serves it (R128). -/

namespace Sys2Proof.Machine

open Sys2Proof

/-- A window is open at minute `m` of the day (R111). -/
def windowOpenAt (w : Window) (m : Nat) : Bool :=
  w.enabled &&
    if w.start < w.stop then w.start ≤ m && m < w.stop
    else if w.stop < w.start then w.start ≤ m || m < w.stop
    else false

def permitWindows (p : Permit) : List Window :=
  [p.window1, p.window2, p.window3, p.window4]

/-- The present minute of the day. -/
def Clock.minute (c : Clock) : Nat :=
  c.second / 60

/-- What the window state is judged to be (R111). -/
def State.windowNow (s : State) : Bool :=
  s.clock.running && s.usablePermit.any fun p => (permitWindows p).any (windowOpenAt · s.clock.minute)

/-- The window state is judged afresh, and a change is handed on (R111). -/
def judgeWindow (tell : State → State) (s : State) : State :=
  let judged := { s with permit := { s.permit with windowOpen := s.windowNow } }
  match s.permit.windowOpen, s.windowNow with
  | false, true => tell judged
  | true, false => interruptDischarge .windowClosed judged
  | true, true => judged
  | false, false => judged

/-- The span of the check timer (R108, R110). -/
def checkSpan : Micros := 60 * sec

/-- Steps 1 to 5 of an activation of permit `p` (R108). -/
def putInForce (p : Permit) (s : State) : State :=
  let active := s.modKept fun k =>
    { k with permit := { active := some p, digest := some (digestOf p), corrupt := false, next := none } }
  let cleared := clearByPart .permitCorrupt active
  ({ cleared with permit := { cleared.permit with check := some (s.timer checkSpan) } }).modDay fun d =>
    { d with dayStart := p.dayStart }

/-- The pending permit, if any, is activated (R108). -/
def activate (tell : State → State) (s : State) : State :=
  match s.kept.permit.next with
  | none => s
  | some p => tell (judgeWindow tell (putInForce p s))

/-- A day flag is set (R119). -/
def setDayFlags (f : DayFlags → DayFlags) (s : State) : State :=
  s.modDay fun d => { d with flags := f d.flags }

/-- Steps 1 to 4 of a corruption (R110). -/
def foundCorrupt (s : State) : State :=
  let marked := s.modKept fun k => { k with permit := { k.permit with corrupt := true } }
  let stopped := interruptDischarge .permitCorrupt { marked with permit := { marked.permit with check := none } }
  let flagged := setDayFlags (fun f => { f with permitCorrupt := true }) (latch .permitCorrupt stopped)
  { flagged with permit := { flagged.permit with windowOpen := false } }

/-- A digest check (R110); none is made without an active permit, or with the corrupt mark already set. -/
def digestCheck (tell : State → State) (s : State) : State :=
  match s.usablePermit with
  | none => s
  | some p => if s.kept.permit.digest = some (digestOf p) then s else activate tell (foundCorrupt s)

end Sys2Proof.Machine
end

