-- ==== Sys2Proof/Machine/Train.lean ====
section
/-! DEFINITION. The Cartridge Train: placement of removed silver, exhaustion, and the figure the arbiter reads
(R30, R151 to R156). -/

namespace Sys2Proof.Machine

open Sys2Proof

/-- The exhaust threshold of a cartridge, mg (R152). -/
def Cartridge.threshold (c : Cartridge) (percent : Nat) : Nat :=
  c.capacity * percent / 100

/-- The room of a cartridge: 0 when it is loaded to its capacity or beyond (R153, R159). -/
def Cartridge.room (c : Cartridge) : Nat :=
  c.capacity - c.loaded

/-- A cartridge judged for exhaustion (R154). -/
def Cartridge.judged (c : Cartridge) (percent : Nat) : Cartridge :=
  { c with exhausted := c.exhausted || c.threshold percent ≤ c.loaded }

/-- A cartridge that receives mass, and is judged when it receives any (R153, R154). -/
def Cartridge.receive (c : Cartridge) (mass percent : Nat) : Cartridge :=
  if mass = 0 then c else { c with loaded := addTo accountTop c.loaded mass }.judged percent

/-- Has ACTIVE (R156). -/
def hasActive (train : List Cartridge) : Bool :=
  train.any fun c => !c.exhausted

/-- Placement on the ACTIVE cartridges in train order: each but the last takes up to its room, and the last takes all
that is left (R153, step 1). -/
def placeActive (percent : Nat) : Nat → List Cartridge → List Cartridge
  | _, [] => []
  | mass, c :: rest =>
    if c.exhausted then c :: placeActive percent mass rest
    else if hasActive rest then
      c.receive (min mass c.room) percent :: placeActive percent (mass - min mass c.room) rest
    else c.receive mass percent :: rest

/-- Placement on the lag, where every cartridge is EXHAUSTED (R153, step 2). -/
def placeLag (percent mass : Nat) : List Cartridge → List Cartridge
  | [] => []
  | [c] => [c.receive mass percent]
  | c :: rest => c :: placeLag percent mass rest

/-- The train after a placement (R153). -/
def placed (percent mass : Nat) (train : List Cartridge) : List Cartridge :=
  if hasActive train then placeActive percent mass train else placeLag percent mass train

/-- A cartridge became EXHAUSTED between two trains of the same length. -/
def exhaustedMore (before after : List Cartridge) : Bool :=
  (before.zip after).any fun p => !p.1.exhausted && p.2.exhausted

/-- The train becomes `after`; a cartridge that became EXHAUSTED latches CARTRIDGE_EXHAUSTED (R154). -/
def trainJudged (after : List Cartridge) (s : State) : State :=
  latchIf (exhaustedMore s.kept.train after) .cartridgeExhausted (s.modKept fun k => { k with train := after })

/-- A removed mass is booked (R30): onto the train, or to CARTRIDGE_REMOVED when the train is empty. CARTRIDGE_LOADED and
each cartridge hold at their tops on their own (DESIGN CHOICE: assumption 36). -/
def bookRemoval (mass : Nat) (s : State) : State :=
  if mass = 0 then s
  else if s.kept.train.isEmpty then
    s.modAccounts fun a => { a with cartridgeRemoved := addTo accountTop a.cartridgeRemoved mass }
  else
    trainJudged (placed s.kept.plant.exhaustPercent mass s.kept.train)
      (s.modAccounts fun a => { a with cartridgeLoaded := addTo accountTop a.cartridgeLoaded mass })

/-- The train is judged against an exhaust percent (R155). -/
def judgeTrain (percent : Nat) (s : State) : State :=
  trainJudged (s.kept.train.map (·.judged percent)) s

end Sys2Proof.Machine
end

