-- ==== Sys2Proof/Machine/Arbiter.lean ====
section
/-! DEFINITION. The Outlet Path's arbiter: its occasions, its decision, the release conditions, the grant, and the
taking of a lot for discharge or polish (R128 to R133, R144). -/

namespace Sys2Proof.Machine

open Sys2Proof

/-- A lot above the limit is routed to POLISH_WAIT or to HELD (the second and third cases of R91). -/
def routeAbove (t : Fin 3) (s : State) : State :=
  match s.lotIn t with
  | none => s
  | some l =>
    let cleared := s.modLot t fun l => { l with hostPass := false }
    if l.passes < s.kept.plant.maxPasses || l.hostPass then enterPolishWait t cleared
    else enterHeld t .polishExhausted cleared

/-- Step 1 of a decision moves aside every queue head above the limit (R129). The queue holds at most `k` lots. -/
def judgeHeads : Nat → State → State
  | 0, s => s
  | k + 1, s =>
    match s.kept.dischargeQueue, s.usablePermit with
    | n :: _, some p =>
      match s.tankOfLot n with
      | none => s
      | some t =>
        if (s.lotIn t).any (p.limit < ·.concentration.getD 0) then judgeHeads k (routeAbove t (dropFromLists n s))
        else s
    | _, _ => s

/-- Release conditions 1 to 6 (R130). -/
def State.releaseOpen (s : State) : Bool :=
  s.usablePermit.isSome && s.clock.running && s.permit.windowOpen && s.permit.enable && s.startUp.selfTestPassed
    && !s.kept.day.unknown

/-- Condition 7: the remaining allowance exceeds the reserve (R130). -/
def State.allowanceLeft (s : State) (p : Permit) : Bool :=
  (p.reserve : Int) < s.remaining p

/-- The volume, mL, that the usable allowance carries at `c` µg/L (R132). -/
def allowanceVolume (usable c : Nat) : Nat :=
  usable * 1000000 / c

/-- The grant for a current volume `v` and a concentration `c` (the table of R132). -/
def grantFor (usable v c : Nat) : Grant :=
  if v = 0 then if c = 0 then .unbounded else .volume (allowanceVolume usable c)
  else if c = 0 then .volume v
  else .volume (min v (allowanceVolume usable c))

/-- The usable allowance, mg (R132). -/
def State.usableAllowance (s : State) (p : Permit) : Nat :=
  (s.remaining p - (p.reserve : Int)).toNat

/-- Condition 9 (R132). -/
def Grant.meets (g : Grant) (minimum v : Nat) : Bool :=
  match g with
  | .unbounded => true
  | .volume n => minimum ≤ n || (0 < v && n = v)

/-- The outlet event "started" of a discharge and step 6 of R133. -/
def takeDischarge (t : Fin 3) (grant : Grant) (remaining : Int) (s : State) : State :=
  match s.lotIn t with
  | none => s
  | some l =>
    let entered := s.modPath fun p =>
      { p with
        state := .discharge, lot := some l.number, use := some .discharge, tank := some t, grant := some grant
        passTarget := none, metered := 0, overrun := 0, stopCause := none }
    let taken := (dropFromLists l.number entered).modTank t fun k =>
      { state := .draining, lot := k.lot.map fun l => { l with state := .discharging } }
    let timed := taken.modPath fun p => { p with drain := some (s.timer (s.kept.tankSettings[t].drainLimit * sec)) }
    let told := handNotice outletKey (.startedDischarge l.number t grant remaining timed.stamp.day) timed
    if s.covered (.tankLow t) then told else runDry told

/-- The pass target of a polish (R144): turnovers times the current volume, or times the capacity for a volume of 0. -/
def State.passTarget (s : State) (t : Fin 3) (l : Lot) : Nat :=
  s.kept.plant.turnovers * if l.current = 0 then s.kept.tankSettings[t].capacity else l.current

/-- The lot in tank `t` is taken for polish (R144). -/
def takePolish (t : Fin 3) (s : State) : State :=
  match s.lotIn t with
  | none => s
  | some l =>
    let target := s.passTarget t l
    let entered := s.modPath fun p =>
      { p with
        state := .polish, lot := some l.number, use := some .polish, tank := some t, grant := none
        passTarget := some target, polishVolume := 0, overrun := 0, stopCause := none }
    let taken := (dropFromLists l.number entered).modTank t fun k =>
      { state := .draining, lot := k.lot.map fun l => { l with state := .polishing, removalPending := true } }
    let timed := taken.modPath fun p => { p with drain := some (s.timer (s.kept.tankSettings[t].drainLimit * sec)) }
    let told := handNotice outletKey (.startedPolish l.number t target timed.stamp.day) timed
    if s.covered (.tankLow t) then told else drainLowLost told

/-- Step 2 of a decision: the oldest Polish Wait lot (R129). -/
def polishStep (s : State) : State :=
  match s.kept.polishWait with
  | [] => s
  | n :: _ =>
    if hasActive s.kept.train then
      match s.tankOfLot n with
      | none => s
      | some t => takePolish t s
    else s

/-- A release refused for want of allowance alone latches CAP_REACHED and sets its day flag (R131). -/
def refuseRelease (s : State) (p : Permit) : State :=
  if s.releaseOpen && !s.allowanceLeft p then
    setDayFlags (fun f => { f with capReached := true }) (latch .capReached s)
  else s

/-- The queue head, in tank `t`, which step 1 has found not above the limit, is judged under the usable permit `p`
(R129, R130). -/
def judgeRelease (t : Fin 3) (l : Lot) (p : Permit) (s : State) : State :=
  let c := l.concentration.getD 0
  let grant := grantFor (s.usableAllowance p) l.current c
  if s.releaseOpen && s.allowanceLeft p && c ≤ p.limit && grant.meets p.minDischarge l.current then
    takeDischarge t grant (s.remaining p) s
  else polishStep (refuseRelease s p)

/-- A decision of the arbiter (R129). -/
def decide (s : State) : State :=
  if s.kept.dischargeQueue.isEmpty then polishStep s
  else
    let checked := digestCheck id s
    let judged := judgeHeads checked.kept.dischargeQueue.length checked
    match judged.kept.dischargeQueue, judged.usablePermit with
    | n :: _, some p =>
      match judged.tankOfLot n with
      | none => polishStep judged
      | some t =>
        match judged.lotIn t with
        | none => polishStep judged
        | some l => judgeRelease t l p judged
    | _, _ => polishStep judged

/-- An occasion of the arbiter: a decision is made when the path is IDLE, its hold mark is clear, and the decision at
the end of start-up is not still to come; otherwise it leaves no trace (R128). -/
def occasion (s : State) : State :=
  if s.path.state = .idle && !s.path.hold && s.path.started then decide s else s

/-- The decision at the end of start-up (R149). -/
def firstDecision (s : State) : State :=
  occasion (s.modPath fun p => { p with started := true })

/-- The closing timer expires (R142). -/
def closingExpired (s : State) : State :=
  occasion (pathEnds s)

/-- The path's part of a supply recovery (R147). -/
def recoverPath (s : State) : State :=
  occasion (s.modPath fun p => { p with hold := false })

/-- The check timer expires: it restarts, and a digest check is made; with no usable active permit it is stopped
(R110). -/
def checkExpired (s : State) : State :=
  digestCheck occasion
    { s with permit := { s.permit with check := s.usablePermit.map fun _ => s.timer checkSpan } }

end Sys2Proof.Machine
end

