-- ==== Sys2Proof/Machine/Day.lean ====
section
/-! DEFINITION. Clock and Permit Day: the permit day number that the clock gives, the rollover, and the clock's advance
(R113 to R121). -/

namespace Sys2Proof.Machine

open Sys2Proof

/-- The permit day number that day count `D` and second `s` give (R114). -/
def givenDay (dayCount second dayStart : Nat) : Nat :=
  if dayStart * 60 ≤ second then dayCount else dayCount - 1

/-- The permit day number that the clock gives. -/
def State.clockGives (s : State) : Nat :=
  givenDay s.clock.dayCount s.clock.second s.kept.day.dayStart

/-- The Day Record of the day now ending (R121). -/
def State.dayRecord (s : State) : DayRecord :=
  let d := s.kept.day
  { number := d.number, cap := s.kept.permit.active.map (·.cap), mass := d.total.mg, volume := d.volume,
    lots := d.lots, wash := d.wash, plated := d.plated, flags := d.flags }

/-- Steps 2 to 4 of a rollover: the record is appended, the totals and the day flags are cleared, and DAY_UNKNOWN with
them (R117). -/
def closeDay (record : DayRecord) (s : State) : State :=
  s.modKept fun k =>
    { k with
      dayHistory := appendBounded 8 k.dayHistory record
      day :=
        { k.day with
          total := NanoAccount.zero, volume := 0, lots := 0, wash := 0, plated := 0, flags := DayFlags.clear
          unknown := false } }

/-- Step 8 of a rollover: CAP_REACHED is cleared when the usable cap exceeds the reserve. -/
def clearCapReached (s : State) : State :=
  if s.usablePermit.any fun p => p.reserve < p.cap then clearByPart .capReached s else s

/-- Step 9 of a rollover: the day flags of the conditions that stand (R119). -/
def setStandingFlags (s : State) : State :=
  setDayFlags (fun f =>
    { f with
      permitCorrupt := f.permitCorrupt || s.condition .permitCorrupt
      capReached := f.capReached || s.capShort }) s

/-- The rollover's notice key, 33. -/
def rolloverKey : Fin 33 := 32

/-- A rollover to the permit day `number` (R117). -/
def rollover (number : Nat) (s : State) : State :=
  let ended := interruptDischarge .rollover s
  let record := ended.dayRecord
  let activated := activate occasion (closeDay record ended)
  let written := orderWrite .checkpoint (activated.modDay fun d => { d with number := number })
  let flagged := setStandingFlags (clearCapReached written)
  occasion (handNotice rolloverKey (.rollover record) flagged)

/-- The clock's figures one second later (R113). -/
def Clock.advance (c : Clock) : Clock :=
  if c.second = 86399 then { c with second := 0, dayCount := min (c.dayCount + 1) 65535 }
  else { c with second := c.second + 1 }

/-- A rollover is due at this advance (R116). -/
def State.rolloverDue (s : State) : Bool :=
  s.kept.day.established && s.kept.day.number < s.clockGives

/-- The rollover test of an advance (R116). -/
def rolloverTest (s : State) : State :=
  if s.rolloverDue then rollover s.clockGives s else s

/-- The window judgement changes the window state at this advance. -/
def State.windowChanges (s : State) : Bool :=
  s.windowNow ≠ s.permit.windowOpen

/-- The window judgement goes before the rollover at this advance: either may be first when both are due (R111;
assumption 11). -/
def State.windowFirst (s : State) : Bool :=
  s.rolloverDue && s.windowChanges && s.choose.1

/-- One second of the running clock (R113): the rollover test, and the window judgement if the minute has changed. -/
def clockAdvance (s : State) : State :=
  let advanced := { s with clock := s.clock.advance }
  if s.clock.minute = advanced.clock.minute then rolloverTest advanced
  else if advanced.windowFirst then rolloverTest (judgeWindow occasion (advanced.choose).2)
  else judgeWindow occasion (rolloverTest (advanced.choose).2)

end Sys2Proof.Machine
end

