-- ==== Sys2Proof/Machine/Sampling.lean ====
section
/-! DEFINITION. The Sampler's attempts: the flush, the window, success with its removal and routing, and abandonment
(R29, R89 to R92). -/

namespace Sys2Proof.Machine

open Sys2Proof

/-- The lot in tank `t` enters QUEUED at the tail by routing: its lot event, and the tell to the arbiter (R87, R100). -/
def routeQueued (t : Fin 3) (s : State) : State :=
  occasion (lotEvent .queued t (enterQueued t (s.modLot t fun l => { l with hostPass := false })))

/-- A successfully sampled lot is routed (R91). An occasion outside QUEUED and POLISH_WAIT is none. -/
def routeLot (t : Fin 3) (s : State) : State :=
  match s.lotIn t with
  | none => s
  | some l =>
    match s.usablePermit with
    | none => routeQueued t s
    | some p =>
      if l.concentration.getD 0 ≤ p.limit then routeQueued t s
      else if l.passes < s.kept.plant.maxPasses || l.hostPass then occasion (routeAbove t s)
      else routeAbove t s

/-- The mass that a polish removed, whole mg (R29, step 4). -/
def removedMass (before after volume : Nat) : Nat :=
  (before - after) * volume / 1000000

/-- The lot's record at a successful sample of concentration `c` (R29, R90). -/
def Lot.sampled (l : Lot) (c : Nat) : Lot :=
  if l.removalPending then
    { l with
      previous := l.concentration, concentration := some c, removalPending := false, attempts := 0
      removalNegative := l.removalNegative || l.concentration.any (· < c) }
  else { l with concentration := some c, attempts := 0 }

/-- What a successful sample of a lot books as removed (R29). -/
def Lot.removed (l : Lot) (c : Nat) : Nat :=
  if l.removalPending then removedMass (l.concentration.getD c) c l.current else 0

/-- The attempt ends and the Sampler tests for the next lot (R90). -/
def attemptEnds (s : State) : State :=
  samplerTest (samplerEnd s)

/-- A sample attempt succeeds (R90): the removal is booked, the concentration written, and the lot routed. -/
def attemptSucceeds (s : State) : State :=
  match s.samplerTank with
  | none => attemptEnds s
  | some t =>
    match s.lotIn t with
    | none => attemptEnds s
    | some l =>
      let c := s.sampler.sum / s.sampler.count
      attemptEnds (routeLot t ((bookRemoval (l.removed c) s).modLot t (·.sampled c)))

/-- The flush timer expires (R89). -/
def flushEnds (s : State) : State :=
  let opened := { s with
    sampler :=
      { s.sampler with
        state := .window, flush := none, window := some (s.timer (s.kept.plant.window * sec)), count := 0, sum := 0 } }
  if s.analyzers[(4 : Fin 5)].state = .valid then opened else attemptFails opened

/-- The window timer expires (R90). -/
def windowEnds (s : State) : State :=
  if 3 ≤ s.sampler.count then attemptSucceeds s else attemptFails s

/-- A5 publishes a reading (R90). -/
def samplerPublished (value : Nat) (s : State) : State :=
  if s.sampler.state = .window then
    { s with sampler := { s.sampler with count := s.sampler.count + 1, sum := s.sampler.sum + value } }
  else s

/-- A5 leaves VALID (R90). -/
def samplerLeftValid (s : State) : State :=
  if s.sampler.state = .window then attemptFails s else s

/-- The Sampler sets its hold mark and abandons its lot to the tail of Sample Wait (R92, R101). Its outputs go off also
without a lot, where it is IDLE already in every state of a run. -/
def holdSampler (s : State) : State :=
  let marked := { s with sampler := { s.sampler with hold := true } }
  match s.samplerTank with
  | none => samplerEnd marked
  | some t => samplerEnd (enterSampleWait t marked)

/-- The Sampler clears its hold mark and tests for a lot (R101). -/
def recoverSampler (s : State) : State :=
  samplerTest { s with sampler := { s.sampler with hold := false } }

/-- The settle timer of tank `t` expires (R88). -/
def settleExpired (t : Fin 3) (s : State) : State :=
  samplerTest (enterSampleWait t (s.modTimers t fun k => { k with settle := none }))

end Sys2Proof.Machine
end

