-- ==== Sys2Proof/Machine/Tanks.lean ====
section
/-! DEFINITION. Tank Control: stopping a lot into HELD, switch faults, loss of level, the sump, transfer pulses, the
start-up actions, and its part of a supply hold (R76 to R83, R95, R101, R102, R191). -/

namespace Sys2Proof.Machine

open Sys2Proof

/-! ### Stopping a lot (the tables of R82 and R95) -/

/-- The FILLING lot in tank `t` is stopped into HELD: steps 1 and 2 of a closing, then the pump and the fill selection
(R82; assumption 10). -/
def stopFilling (t : Fin 3) (reason : HoldReason) (s : State) : State :=
  fillSelection (pumpJudge (enterHeld t reason (closeFill t s)))

/-- The lot in tank `t` is stopped in whatever it is doing and enters HELD (R82, R83, R95). -/
def stopLot (t : Fin 3) (cause : StopCause) (reason : HoldReason) (s : State) : State :=
  match s.lotIn t with
  | none => s
  | some l =>
    match l.state with
    | .filling => stopFilling t reason s
    | .settling => enterHeld t reason (s.modTimers t fun k => { k with settle := none })
    | .sampleWait => enterHeld t reason (dropFromLists l.number s)
    | .queued => enterHeld t reason (dropFromLists l.number s)
    | .polishWait => enterHeld t reason (dropFromLists l.number s)
    | .sampling => samplerTest (enterHeld t reason (samplerEnd s))
    | .discharging => stopHeld cause reason s
    | .polishing => stopHeld cause reason s
    | .held => enterHeld t reason s

/-! ### Switch events (R81 to R83) -/

/-- The switch fault test of tank `t` (R82). -/
def switchFaultTest (t : Fin 3) (s : State) : State :=
  if s.switchesDisagree t then
    if s.kept.tanks[t].state = .outOfService then latch (.tankSwitchFault t) s
    else
      stopLot t .switchFault .switchFault
        (latch (.tankSwitchFault t) (s.modTank t fun k => { k with state := .outOfService }))
  else s

/-- LOW of tank `t` has become uncovered (R83). -/
def lowLost (t : Fin 3) (s : State) : State :=
  match s.kept.tanks[t].state with
  | .closed =>
    match s.lotIn t with
    | none => s
    | some l => if l.state = .held then s else stopLot t .levelLost .levelLost s
  | .draining => drainLowLost s
  | .empty => s
  | .filling => s
  | .outOfService => s

/-- A change event of TANKn_LOW: the fault test first, then R83. -/
def tankLowChange (t : Fin 3) (covered : Bool) (s : State) : State :=
  let tested := switchFaultTest t s
  if covered then tested else lowLost t tested

/-- A change event of TANKn_HIGH: the fault test first, then the closing of R81. -/
def tankHighChange (t : Fin 3) (covered : Bool) (s : State) : State :=
  let tested := switchFaultTest t s
  if covered && tested.kept.tanks[t].state = .filling then closeLot t true tested else tested

/-! ### The sump (R76 to R78) -/

/-- A change event of SUMP_HIGH. -/
def sumpHighChange (covered : Bool) (s : State) : State :=
  if covered then
    pumpJudge { s with
      sump :=
        { s.sump with
          callMark := true
          backupTimer := if s.sump.pump then s.sump.backupTimer else some s.backupStarted } }
  else pumpJudge { s with sump := { s.sump with backupTimer := none } }

/-- The backup timer reaches the sump backup delay (R78). -/
def backupArises (s : State) : State :=
  backupEvent true (latch .sumpBackup { s with sump := { s.sump with backupTimer := none, backup := true } })

/-- A transfer pulse of `q` mL is counted into the FILLING lot of tank `t` (R77, R81). -/
def fillPulse (t : Fin 3) (q : Nat) (s : State) : State :=
  let filled := s.modLot t fun l =>
    { l with filled := addTo volumeTop l.filled q, current := addTo volumeTop l.current q }
  if (filled.lotIn t).any fun l => l.settings.capacity ≤ l.current then closeLot t false filled else filled

/-- An accepted transfer pulse of `q` mL (R77). -/
def transferPulse (q : Nat) (s : State) : State :=
  match s.sump.pump, s.fillingTank with
  | true, some t => fillPulse t q s
  | _, _ => { s with sump := { s.sump with strayTransfer := wrap32 (s.sump.strayTransfer + q) } }

/-- The max fill timer of tank `t` expires (R81). -/
def maxFillExpired (t : Fin 3) (s : State) : State :=
  if s.kept.tanks[t].state = .filling then closeLot t false s else s

/-! ### Supply hold (R101) -/

def holdTanks (s : State) : State :=
  holdSampler (pumpJudge { s with sump := { s.sump with hold := true } })

def recoverTanks (s : State) : State :=
  recoverSampler (pumpJudge { s with sump := { s.sump with hold := false } })

/-! ### The starting levels (R102, R191) -/

/-- The lot made for a tank that holds liquid after a failed restore (R191). -/
def Lot.unknown (number : Nat) (settings : TankSettings) : Lot :=
  { Lot.opening number { day := 0, second := none } settings with
    state := .held, closed := some { day := 0, second := none }, holdReason := some .unknownContent
    volumeSuspect := true }

/-- A lot of unknown content is made for tank `t`, when its LOW is covered and it is not OUT_OF_SERVICE (R191). -/
def makeUnknown (t : Fin 3) (s : State) : State :=
  if s.covered (.tankLow t) && s.kept.tanks[t].state ≠ .outOfService then
    let n := s.freshNumber
    latch .lotHeld (lotEvent .held t (s.modKept fun k =>
      { k with
        nextLot := nextNumber n
        tanks := modAt k.tanks t fun _ =>
          { state := .closed, lot := some (Lot.unknown n k.tankSettings[t]) } }))
  else s

/-- Steps 2 and 3 of R102. -/
def startSump (s : State) : State :=
  if s.covered .sumpHigh then
    { s with sump := { s.sump with callMark := true, backupTimer := some s.backupStarted } }
  else s

/-- Step 4 of R102: a restored FILLING lot under a covered HIGH closes, or its max fill timer starts afresh. -/
def startFilling (s : State) : State :=
  match s.fillingTank with
  | none => s
  | some t =>
    if s.covered (.tankHigh t) then closeLot t true s
    else s.modTimers t fun k =>
      { k with maxFill := (s.lotIn t).bind fun l => s.maxFillTimer l.settings.maxFill }

/-- `f` on each tank, T1 first: the order of R191 for the lots of unknown content, and the model's choice for the switch
fault tests of R102 (DESIGN CHOICE: assumption 42). -/
def eachTank (f : Fin 3 → State → State) (s : State) : State :=
  (List.finRange 3).foldl (fun s t => f t s) s

/-- Tank Control takes the starting levels (R102), after which the Sampler tests for a lot (R89). A tank's switch fault is
taken whole, with the fill selection that a faulted FILLING tank brings (R82), before the next tank is tested (DESIGN
CHOICE: assumption 44). -/
def takeLevels (s : State) : State :=
  let taken := { s with sump := { s.sump with levelsTaken := true } }
  let judged := startFilling (startSump (eachTank switchFaultTest taken))
  let made := if s.startUp.restored then judged else eachTank makeUnknown judged
  samplerTest (pumpJudge (fillSelection made))

/-! ### Outputs (R79, R89) -/

/-- INLET_Tn is on. -/
def State.inletOn (s : State) (t : Fin 3) : Bool :=
  s.kept.tanks[t].state = .filling && !s.sump.hold && s.sump.levelsTaken

/-- SAMPLE_PUMP is on: from the taking of a lot to the end of the attempt (R89, R90). -/
def State.samplePumpOn (s : State) : Bool :=
  s.sampler.state ≠ .idle

/-- SAMPLE_SEL_Tn is on, for the tank of the Sampler's lot. -/
def State.sampleSelOn (s : State) (t : Fin 3) : Bool :=
  s.samplePumpOn && s.samplerTank = some t

end Sys2Proof.Machine
end

