-- ==== Sys2Proof/Machine/Inputs.lean ====
section
/-! DEFINITION. The measurement inputs: pulse channels with their blocks and rates, analyzer inputs, and switch inputs,
and what each hands to its owner (R2 to R21). -/

namespace Sys2Proof.Machine

open Sys2Proof

/-! ### What a channel hands its owner (R2, R3, R7) -/

/-- An accepted pulse of `q` scale units reaches the owner of a role. -/
def ownerPulse (r : Role) (q : Nat) : State → State :=
  match r with
  | .noRole => id
  | .footage l => footagePulse l q
  | .wash l => washPulse l q
  | .celli c => celliPulse c q
  | .transfer => transferPulse q
  | .outlet => outletPulse q

/-- A rate update reaches the owner of a role (R7). The Cell Drive, Tank Control and the Outlet Path keep no figure of
it: they read the channel. -/
def ownerRate (r : Role) (rate : Nat) (moving : Bool) : State → State :=
  match r with
  | .noRole => id
  | .footage l => lineRateUpdate l rate moving
  | .wash l => washRateUpdate l rate
  | .celli _ => id
  | .transfer => id
  | .outlet => id

/-! ### Pulses and blocks (R3 to R6) -/

/-- The least time between accepted edges (R3). -/
def edgeGap : Micros := 25

/-- The longest a block stays open (R5). -/
def blockSpan : Micros := 60 * sec

/-- A rate over a block of `k` pulses of `scale` units in `e` µs (R4). -/
def rateOver (k scale e : Nat) : Nat :=
  k * scale * 60000000 / e

/-- A block closes with `k` pulses counted at time `last`, and the next opens there (R4, R5). -/
def Channel.closeBlock (ch : Channel) (scale t0 k last : Nat) : Channel :=
  { ch with
    rate := rateOver k scale (last - t0), pulseRate := rateOver k 1 (last - t0)
    block := some { t0 := last, count := 0, last := last } }

/-- An edge that arrives too soon after the last accepted edge (R3). -/
def Channel.rejects (ch : Channel) (now : Micros) : Bool :=
  ch.lastEdge.any fun t => now < t + edgeGap

/-- What an accepted pulse does to its channel, and whether a rate update follows (R3 to R7). -/
def Channel.accepted (ch : Channel) (k : ChannelSettings) (now : Micros) : Channel × Bool :=
  let base := { ch with
    count := wrap32 (ch.count + 1), moving := true, lastEdge := some now
    stale := some { start := now, len := k.stale * sec } }
  match ch.block with
  | none => ({ base with block := some { t0 := now, count := 0, last := now } }, !ch.moving)
  | some b =>
    if k.blockSize ≤ b.count + 1 then (base.closeBlock k.scale b.t0 (b.count + 1) now, true)
    else ({ base with block := some { b with count := b.count + 1, last := now } }, !ch.moving)

/-- An accepted pulse: the channel takes it, the owner takes it, and then the rate update if there is one (R3, R7). -/
def acceptPulse (c : Fin 16) (s : State) : State :=
  let k := s.kept.channels[c]
  let r := s.channels[c].accepted k s.now
  let pulsed := ownerPulse k.role k.scale (s.modChannel c fun _ => r.1)
  if r.2 then ownerRate k.role r.1.rate true pulsed else pulsed

/-- An edge of the selected polarity (R3). -/
def selectedEdge (c : Fin 16) (s : State) : State :=
  if s.channels[c].rejects s.now then s.modChannel c fun ch => { ch with rejected := wrap32 (ch.rejected + 1) }
  else acceptPulse c s

/-- An edge on a pulse pin; edges of the other polarity have no effect (R3). -/
def edge (c : Fin 16) (rising : Bool) (s : State) : State :=
  if rising = s.kept.channels[c].falling then s else selectedEdge c s

/-- The 60-second limit of a block has come (R5). -/
def Channel.limitDue (ch : Channel) (now : Micros) : Bool :=
  ch.block.any fun b => 0 < b.count && b.t0 + blockSpan ≤ now

/-- A block closes at its 60-second limit (R5). -/
def limitBlock (c : Fin 16) (s : State) : State :=
  match s.channels[c].block with
  | none => s
  | some b =>
    let k := s.kept.channels[c]
    let closed := s.channels[c].closeBlock k.scale b.t0 b.count b.last
    ownerRate k.role closed.rate true (s.modChannel c fun _ => closed)

/-- A channel that has gone STILL (R6). -/
def Channel.still (ch : Channel) : Channel :=
  { ch with moving := false, rate := 0, pulseRate := 0, block := none, stale := none }

/-- A channel goes stale (R6). -/
def goStale (c : Fin 16) (s : State) : State :=
  ownerRate s.kept.channels[c].role 0 false (s.modChannel c Channel.still)

/-- A channel takes new settings and starts afresh; the owner of its previous role learns that it is STILL (R8). -/
def rebind (c : Fin 16) (k : ChannelSettings) (s : State) : State :=
  let old := s.kept.channels[c]
  let ch := s.channels[c]
  let fresh := s.modChannel c fun ch =>
    { ch.still with
      lastEdge := none
      count := if k.role = old.role then ch.count else 0
      rejected := if k.role = old.role then ch.rejected else 0 }
  let written := fresh.modKept fun x => { x with channels := modAt x.channels c fun _ => k }
  if ch.moving || ch.rate ≠ 0 then ownerRate old.role 0 false written else written

/-! ### Consumers of an analyzer input (R15) -/

/-- The line whose fixer an input reads; A5 reads none. -/
def lineOfInput (a : Fin 5) : Option (Fin 4) :=
  if h : a.val < 4 then some ⟨a.val, h⟩ else none

/-- An event of input `a` reaches its consumer: the cell bound to its line, or the Sampler. -/
def toConsumer (a : Fin 5) (toCell : Fin 4 → State → State) (toSampler : State → State) (s : State) : State :=
  match lineOfInput a with
  | none => toSampler s
  | some l =>
    match s.cellOfLine l with
    | none => s
    | some c => toCell c s

/-- "Entered VALID". -/
def handEnteredValid (a : Fin 5) (s : State) : State :=
  toConsumer a cellEnteredValid id s

/-- "Reading published". -/
def handPublished (a : Fin 5) (value : Nat) (s : State) : State :=
  toConsumer a (fun _ => id) (samplerPublished value) s

/-- "Left VALID", with the state and held value of the input at that moment. -/
def handLeftValid (a : Fin 5) (s : State) : State :=
  toConsumer a (fun c => cellLeftValid c s.analyzers[a].state s.analyzers[a].held.isSome) samplerLeftValid s

/-- "Hold expired". -/
def handHoldExpired (a : Fin 5) (s : State) : State :=
  toConsumer a cellHoldExpired id s

/-! ### Results and states (R9 to R14) -/

/-- The shortest and the longest period that completes, µs (R9). -/
def periodLeast : Micros := 5000

def periodMost : Micros := 2000000

/-- The duty of a period in basis points (R10). -/
def dutyOf (high period : Nat) : Nat :=
  high * 10000 / period

/-- The period result of a duty under a span (the table of R10). -/
def decodeDuty (db span : Nat) : PeriodResult :=
  if db < 300 then .low
  else if db < 400 then .reading 0
  else if db ≤ 9600 then .reading ((db - 400) * span / 9200)
  else if db ≤ 9700 then .reading span
  else .high

def PeriodResult.value : PeriodResult → Option Nat
  | .reading v => some v
  | .low => none
  | .high => none

/-- The mean of the valid results in a record, rounded down (R11). -/
def meanOf (record : List PeriodResult) : Nat :=
  (record.filterMap PeriodResult.value).sum / (record.filterMap PeriodResult.value).length

/-- The record with a result appended; it keeps the last four (R11). -/
def appendResult (record : List PeriodResult) (r : PeriodResult) : List PeriodResult :=
  appendBounded 4 record r

/-- The three states that latch ANALYZER_FAULT (R15). -/
def AnalyzerState.faulty : AnalyzerState → Bool
  | .faultLow => true
  | .faultHigh => true
  | .lost => true
  | .waiting => false
  | .valid => false

/-- An input that leaves VALID: no published reading, and its hold begins (R11, R14). With a hold time of 0 the hold timer
stays stopped (DESIGN CHOICE: assumption 38). -/
def Analyzer.leaves (k : Analyzer) (hold : Nat) (now : Micros) : Analyzer :=
  { k with
    published := none
    held := if hold = 0 then none else k.held
    hold := if hold = 0 then none else some { start := now, len := hold * sec } }

/-- What an input that has just left VALID hands its consumer: "left VALID", and with a hold time of 0, whose hold has
run out at this moment, "hold expired" after it (R14, R15; assumption 31). -/
def handLeaving (a : Fin 5) (s : State) : State :=
  if s.kept.analyzers[a].hold = 0 then handHoldExpired a (handLeftValid a s) else handLeftValid a s

/-- An input moves to a fault state or LOST, by a change of record and watch already made: it leaves VALID if it stood
there, its consumer is told, and ANALYZER_FAULT latches on entry (R14, R15). -/
def enterFaulty (a : Fin 5) (state : AnalyzerState) (s : State) : State :=
  let before := s.analyzers[a].state
  if before = .valid then
    latch (.analyzerFault a) (handLeaving a (s.modAnalyzer a fun k =>
      { k.leaves s.kept.analyzers[a].hold s.now with state := state }))
  else latchIf (before ≠ state) (.analyzerFault a) (s.modAnalyzer a fun k => { k with state := state })

/-- A valid result is published (R11, R12, R14): "entered VALID" first, then "reading published" (R15). -/
def publish (a : Fin 5) (s : State) : State :=
  let mean := meanOf s.analyzers[a].record
  let published := s.modAnalyzer a fun k =>
    { k with state := .valid, published := some mean, held := some mean, hold := none }
  handPublished a mean (if s.analyzers[a].state = .valid then published else handEnteredValid a published)

/-- A period result is taken (R11 to R13). -/
def takeResult (a : Fin 5) (r : PeriodResult) (s : State) : State :=
  let before := s.analyzers[a].record.getLast?
  let taken := s.modAnalyzer a fun k =>
    { k with record := appendResult k.record r, silence := some (s.timer silenceSpan) }
  match r with
  | .reading _ => publish a taken
  | .low => if before = some .low then enterFaulty a .faultLow taken else taken
  | .high => if before = some .high then enterFaulty a .faultHigh taken else taken

/-- A falling edge on an analyzer pin: the first after the period's rising edge is kept (R9). -/
def fallingEdge (a : Fin 5) (s : State) : State :=
  s.modAnalyzer a fun k =>
    { k with period := k.period.map fun p => { p with fall := some (p.fall.getD s.now) } }

/-- The result of a period of `p` µs whose high time is `h`; none when it is discarded (R9, R10). -/
def periodResult (h p span : Nat) : Option PeriodResult :=
  if periodLeast ≤ p ∧ p ≤ periodMost then some (decodeDuty (dutyOf h p) span) else none

/-- A rising edge on an analyzer pin ends the period in progress and begins the next (R9). -/
def risingEdge (a : Fin 5) (s : State) : State :=
  let begun := s.modAnalyzer a fun k => { k with period := some { rise := s.now, fall := none } }
  match s.analyzers[a].period with
  | none => begun
  | some p =>
    match periodResult (p.fall.getD s.now - p.rise) (s.now - p.rise) s.kept.analyzers[a].span with
    | none => begun
    | some r => takeResult a r begun

/-- Three seconds of silence: LOST with an emptied record (R13). -/
def silent (a : Fin 5) (s : State) : State :=
  enterFaulty a .lost (s.modAnalyzer a fun k => { k with record := [], silence := none })

/-- The hold time runs out (R14), and the hold timer stops (DESIGN CHOICE: assumption 38). -/
def holdRunsOut (a : Fin 5) (s : State) : State :=
  handHoldExpired a (s.modAnalyzer a fun k => { k with held := none, hold := none })

/-- The record is emptied and the silence watch restarts (R16; assumption 16). -/
def emptyRecord (a : Fin 5) (s : State) : State :=
  s.modAnalyzer a fun k => { k with record := [], silence := some (s.timer silenceSpan) }

/-- An input takes a new span and hold time (R16). -/
def setAnalyzer (a : Fin 5) (k : AnalyzerSettings) (s : State) : State :=
  let written := emptyRecord a (s.modKept fun x => { x with analyzers := modAt x.analyzers a fun _ => k })
  match s.analyzers[a].hold with
  | none => written
  | some t =>
    if t.start + k.hold * sec ≤ s.now then holdRunsOut a written
    else written.modAnalyzer a fun x => { x with hold := some { t with len := k.hold * sec } }

/-! ### Switches (R17, R18) -/

/-- A change event reaches the owner of a switch (R17). -/
def switchChange (w : Switch) (covered : Bool) : State → State :=
  match w with
  | .tankLow t => tankLowChange t covered
  | .tankHigh t => tankHighChange t covered
  | .sumpLow => pumpJudge
  | .sumpHigh => sumpHighChange covered
  | .cellFlow c => cellFlowChange c covered

/-- A pin takes a level: away from the accepted level it starts the debounce, back to it cancels (R17). -/
def SwitchInput.take (k : SwitchInput) (level : Bool) (debounce : Timer) : SwitchInput :=
  if k.pin = level then k
  else
    match k.accepted with
    | none => { k with pin := level }
    | some a => { k with pin := level, debounce := if level = a then none else some debounce }

/-- A switch pin takes a level. The pin is the plant's, so it moves in every phase. -/
def pinLevel (w : Switch) (level : Bool) (s : State) : State :=
  s.modSwitch (switchIndex w) (·.take level (s.timer (s.kept.plant.debounce * ms)))

/-- A debounce timer expires: the pin's level is accepted, and the owner is told (R17). -/
def debounced (w : Switch) (s : State) : State :=
  let level := s.switches[switchIndex w].pin
  switchChange w level (s.modSwitch (switchIndex w) fun k => { k with accepted := some level, debounce := none })

/-- A cell takes the starting level of its flow switch (R38, R60). -/
def startingFlow (c : Fin 4) (s : State) : State :=
  testPrimed c (s.modCell c fun k => { k with flowCovered := s.covered (.cellFlow c) })

/-- The starting levels are sampled and handed to their owners, the cells C1 first (assumption 42); Tank Control and the
Sampler begin, and the arbiter decides once (R18, R102, R149). -/
def startingLevels (s : State) : State :=
  let sampled := { s with
    switches := s.switches.map fun k => { k with accepted := some k.pin, debounce := none }
    startUp := { s.startUp with levels := none } }
  firstDecision ((List.finRange 4).foldl (fun s c => startingFlow c s) (takeLevels sampled))

end Sys2Proof.Machine
end

