-- ==== Sys2Proof/Machine/Supply.lean ====
section
/-! DEFINITION. The Supply Monitor, what a reset loses, and start-up: the self-test's end, the restore and its
placements, the flags, and the beginning of the blocks (R60, R125, R166, R187, R189 to R191). -/

namespace Sys2Proof.Machine

open Sys2Proof

/-! ### The supply monitor (R187) -/

/-- The threshold of a code, in hundredths of a volt (SET PLANT). -/
def thresholdOf (code : Nat) : Nat :=
  match code with
  | 0 => 420
  | 1 => 435
  | 2 => 450
  | _ => 465

/-- The threshold in force. -/
def State.threshold (s : State) : Nat :=
  thresholdOf s.kept.plant.threshold

/-- The hysteresis, in hundredths of a volt. -/
def hysteresis : Nat := 10

/-- The recovery timer's span. -/
def recoverySpan : Micros := 100 * ms

/-- The supply below which the part is held in reset, in hundredths of a volt. -/
def resetLevel : Nat := 300

/-- The blocks take the hold, the Outlet Path apart. -/
def holdBlocks (s : State) : State :=
  holdTanks (holdLoops (holdCells { s with supply := { s.supply with hold := true, recovery := none } }))

/-- The monitor enters HOLD (R187). Its supply-low order and the checkpoint order of a discharge that the hold ends may
come in either order (R188). -/
def enterHold (s : State) : State :=
  let held := holdBlocks s
  if held.path.state = .discharge && held.choose.1 then
    latch .supplyLow (holdPath (orderWrite .supplyLow held.choose.2))
  else if held.path.state = .discharge then
    orderWrite .supplyLow (latch .supplyLow (holdPath held.choose.2))
  else orderWrite .supplyLow (latch .supplyLow (holdPath held))

/-- The monitor judges the supply as it stands against the threshold in force (R187). -/
def judgeSupply (s : State) : State :=
  if s.supply.hold then
    if s.threshold + hysteresis < s.supply.level then
      { s with supply := { s.supply with recovery := some (s.supply.recovery.getD (s.timer recoverySpan)) } }
    else { s with supply := { s.supply with recovery := none } }
  else if s.supply.level < s.threshold then enterHold s
  else s

/-- The first judgement of the supply, which orders no write: below the threshold every block takes its hold mark and
SUPPLY_LOW latches (R187). -/
def firstJudgement (s : State) : State :=
  if s.supply.level < s.threshold then latch .supplyLow (holdPath (holdBlocks s)) else s

/-- The recovery timer reaches 100 ms: NORMAL, and recovery is handed to the blocks (R187). -/
def recover (s : State) : State :=
  recoverPath (recoverTanks (recoverLoops (recoverCells
    { s with supply := { s.supply with hold := false, recovery := none } })))

/-! ### Reset (R187, R188, R189) -/

/-- Everything that does not outlast a reset is lost; a write in flight is cut off, and the stored image with it. What
outlasts it are the stored image, the plant's pins and supply, and the model's own figures. -/
def lost (s : State) : State :=
  { State.reset with
    now := s.now
    choices := s.choices
    phase := .held
    resetLow := s.resetLow
    supply := { level := s.supply.level, hold := false, recovery := none }
    store := { image := s.store.image, inFlight := none, waiting := none }
    switches := s.switches.map SwitchInput.atStart
    link := Link.atStart s.link.bitRate
    pending := s.pending }

/-- Start-up begins with the self-test, its µs clock at 0 and the bit rate read from the straps (R173, R189), unless the
RESET pin or the supply still holds the part. -/
def beginStartUp (sel1 sel0 : Bool) (s : State) : State :=
  let cleared := lost s
  if cleared.resetLow || cleared.supply.level < resetLevel then cleared
  else { cleared with now := 0, phase := .selfTest, link := Link.atStart (bitRateOf sel1 sel0) }

/-- The supply takes a level in hundredths of a volt (R187). It is judged from its first judgement on, which
SELF_TEST_END makes (assumption 5). -/
def supplyAt (level : Nat) (s : State) : State :=
  let taken := { s with supply := { s.supply with level := level } }
  if level < resetLevel then lost taken
  else if s.awake then judgeSupply taken
  else taken

/-! ### The restore (R190, R191) -/

/-- A saved lot of tank `t` is placed (the table of R190). -/
def placeLot (t : Fin 3) (k : Kept) : Kept :=
  match k.tanks[t].lot with
  | none => k
  | some l =>
    let as (state : LotState) : Kept :=
      { k with tanks := modAt k.tanks t fun _ => { state := .closed, lot := some { l with state := state } } }
    match l.state with
    | .sampling => { as .sampleWait with sampleWait := k.sampleWait ++ [l.number] }
    | .discharging => { as .queued with dischargeQueue := l.number :: k.dischargeQueue }
    | .polishing => { as .polishWait with polishWait := k.polishWait ++ [l.number] }
    | .filling => k
    | .settling => k
    | .sampleWait => k
    | .queued => k
    | .polishWait => k
    | .held => k

/-- The lasting state that a matching image gives (R190). -/
def placeLots (k : Kept) : Kept :=
  (List.finRange 3).foldl (fun k t => placeLot t k) k

/-- The settle timer of a restored lot starts afresh (R190). -/
def restoredTimers (k : Kept) (now : Micros) (t : Fin 3) : TankTimers :=
  { maxFill := none
    settle := (k.tanks[t].lot.filter (·.state = .settling)).map fun l =>
      { start := now, len := l.settings.settle * sec } }

/-- Every block at its start-up column with its settings restored (R189, step 4). -/
def blocksAtStart (k : Kept) (s : State) : State :=
  { s with
    kept := k
    channels := Vector.replicate 16 Channel.atStart
    analyzers := Vector.replicate 5 (Analyzer.atStart s.now)
    switches := s.switches.map SwitchInput.atStart
    lines := Vector.replicate 4 LineUnit.atStart
    loops := Vector.ofFn fun l => WashLoop.atStart k.lines[l] s.now
    cells := Vector.ofFn fun c => Cell.atStart k.cells[c] s.now
    sump := Sump.atStart
    timers := Vector.ofFn (restoredTimers k s.now)
    sampler := Sampler.atStart
    permit :=
      { check := if k.permit.active.isSome && !k.permit.corrupt then some (s.timer checkSpan) else none
        enable := false, windowOpen := false }
    clock := Clock.atStart
    path := Path.atStart
    flags := Vector.replicate 28 FlagRecord.clear
    alertActive := false }

/-- The flags latch that the start-up results give (R166; R189, step 3). -/
def latchResults (s : State) : State :=
  latchIf (s.condition .restoreFailed) .restoreFailed
    (latchIf (s.condition .selfTestFailed) .selfTestFailed (latch .clockUnset s))

/-- The flags latch whose conditions the restored lots, train and permit give (R166, R190). -/
def latchStanding (s : State) : State :=
  let lots := latchIf (s.condition .drainTimeout) .drainTimeout (latchIf (s.condition .lotHeld) .lotHeld s)
  latchIf (s.condition .permitCorrupt) .permitCorrupt
    (latchIf (s.condition .cartridgeExhausted) .cartridgeExhausted lots)

/-- The restored permit: a digest check, and the activation of a pending permit when no usable permit stands (R125). -/
def checkRestored (s : State) : State :=
  let checked := digestCheck occasion s
  if checked.usablePermit.isSome then checked else activate occasion checked

/-- CAP_REACHED latches on the restored condition, with its day flag (R119, R166). The permit judged is the one in force
after `checkRestored` (DESIGN CHOICE: assumption 37). -/
def latchCap (s : State) : State :=
  if s.capShort then setDayFlags (fun f => { f with capReached := true }) (latch .capReached s) else s

/-- A cell with autostart and a bound line enters PRIMING (R60). -/
def autostart (c : Fin 4) (s : State) : State :=
  if s.kept.cells[c].autostart && s.kept.cells[c].line.isSome then enterPriming c s else s

/-- Steps 2 to 4 of start-up from the content `image` that the restore read, none when it failed (R189): the lasting
state and the blocks' start-up columns, the flags of the results, the first judgement of the supply, the flags of the
restored state, the permit's digest, and the cells with autostart, C1 first (assumption 42). -/
def startFrom (memoryGood storeReadable : Bool) (image : Option Kept) (s : State) : State :=
  let begun := blocksAtStart ((image.map placeLots).getD Kept.fresh)
    { s with
      phase := .restoring
      supply := { s.supply with hold := false, recovery := none }
      store := { s.store with image := if image.isSome then s.store.image else none }
      startUp :=
        { selfTestPassed := memoryGood && storeReadable, restored := image.isSome, restoreStands := image.isNone,
          levels := none } }
  let judged := firstJudgement (latchResults begun)
  (List.finRange 4).foldl (fun s c => autostart c s) (latchCap (checkRestored (latchStanding judged)))

/-- The self-test ends (R189). -/
def endSelfTest (memoryGood storeReadable imageMatches : Bool) (s : State) : State :=
  startFrom memoryGood storeReadable (s.store.readBack storeReadable imageMatches) s

/-- The restore ends (R18, R187, R189), and the wait of one debounce time for the starting levels begins. The supply has
been judged since the self-test's end (assumption 5), so in every state of a run this judgement finds nothing new. -/
def endRestore (s : State) : State :=
  let ended := { s with
    phase := .running
    startUp := { s.startUp with levels := some (s.timer (s.kept.plant.debounce * ms)) } }
  if ended.supply.hold then ended else firstJudgement ended

end Sys2Proof.Machine
end

