-- ==== Sys2Proof/Machine/Requests.lean ====
section
/-! DEFINITION. Serving the settings and the commands of the host: one definition per request, each giving the reply
and the state after it, as the request's entry states (step 5 of R179). -/

namespace Sys2Proof.Machine

open Sys2Proof

/-- What serving a request gives. -/
abbrev Served := Reply × State

/-- A refusal: it changes nothing and carries no body (R179). -/
def refuse (status : Status) (s : State) : Served :=
  ({ status := status, body := .empty }, s)

def outOfRange (s : State) : Served :=
  refuse .outOfRange s

def wrongState (s : State) : Served :=
  refuse .wrongState s

/-- An OK with a body. -/
def okWith (body : ReplyBody) (s : State) : Served :=
  ({ status := .ok, body := body }, s)

/-- An OK without a body. -/
def ok (s : State) : Served :=
  okWith .empty s

/-! ### Settings -/

/-- What a wash loop does on the change of its line's settings from `old` (R64, steps 1 to 4). -/
def loopTakesLine (l : Fin 4) (old : LineSettings) (s : State) : State :=
  let new := s.kept.lines[l]
  let switched :=
    if old.enabled && !new.enabled then washOff l s
    else if !old.enabled && new.enabled then
      if s.lines[l].filmMoving then washRun l s else washIdle l s
    else s
  let timed :=
    match switched.loops[l].state, switched.loops[l].stop with
    | .trickle, some t =>
      if old.stopTimeout = new.stopTimeout then switched
      else if t.start + new.stopTimeout * sec ≤ s.now then washIdle l switched
      else switched.modLoop l fun k => { k with stop := some { t with len := new.stopTimeout * sec } }
    | _, _ => switched
  retargetIfActive l timed

/-- SET LINE (R64). -/
def serveSetLine (f : LineFields) (s : State) : Served :=
  match numbered 4 f.line with
  | none => outOfRange s
  | some l =>
    if f.inRange then
      ok (loopTakesLine l s.kept.lines[l] (s.modKept fun k => { k with lines := modAt k.lines l fun _ => f.settings }))
    else outOfRange s

/-- SET FILM TYPE (R24). -/
def serveSetFilmType (entry load : Nat) (s : State) : Served :=
  match numbered 16 entry with
  | none => outOfRange s
  | some e =>
    if load ≤ 10000 then ok (s.modKept fun k => { k with films := modAt k.films e fun _ => load }) else outOfRange s

/-- The view a cell takes of the analyzer input of its line (R37). -/
def State.viewOf (s : State) (line : Option (Fin 4)) : AnalyzerView :=
  match line with
  | none => { state := .waiting, heldPresent := false }
  | some l =>
    { state := s.analyzers[lineAnalyzer l].state, heldPresent := s.analyzers[lineAnalyzer l].held.isSome }

/-- A cell takes new settings, and its analyzer view when its line changes (R37). -/
def cellTakes (c : Fin 4) (k : CellSettings) (s : State) : State :=
  let written := s.modKept fun x => { x with cells := modAt x.cells c fun _ => k }
  if s.kept.cells[c].line = k.line then written else written.modCell c fun x => { x with view := s.viewOf k.line }

/-- A line is bound to another cell than `c`. -/
def State.lineTaken (s : State) (c : Fin 4) (line : Option (Fin 4)) : Bool :=
  line.isSome && (List.finRange 4).any fun d => d ≠ c && s.kept.cells[d].line = line

/-- SET CELL (R37). -/
def serveSetCell (f : CellFields) (s : State) : Served :=
  match numbered 4 f.cell with
  | none => outOfRange s
  | some c =>
    if f.inRange then
      if s.cells[c].state ≠ .off ∧ s.cells[c].state ≠ .fault then wrongState s
      else if s.lineTaken c f.settings.line then wrongState s
      else ok (cellTakes c f.settings s)
    else outOfRange s

/-- A role is bound to another channel than `c`. -/
def State.roleTaken (s : State) (c : Fin 16) (r : Role) : Bool :=
  r ≠ .noRole && (List.finRange 16).any fun d => d ≠ c && s.kept.channels[d].role = r

/-- A role is in use (R8, check 3). -/
def State.roleInUse (s : State) (r : Role) : Bool :=
  match r with
  | .outlet => s.path.state ≠ .idle
  | .transfer => s.sump.pump
  | .celli c => s.cells[c].state ≠ .off && s.cells[c].state ≠ .fault
  | .noRole => false
  | .footage _ => false
  | .wash _ => false

/-- SET CHANNEL (R8). -/
def serveSetChannel (f : ChannelFields) (s : State) : Served :=
  match numbered 16 f.channel with
  | none => outOfRange s
  | some c =>
    if f.inRange then
      if s.roleTaken c f.settings.role then wrongState s
      else if s.roleInUse s.kept.channels[c].role then wrongState s
      else ok (rebind c f.settings s)
    else outOfRange s

/-- SET ANALYZER (R16). -/
def serveSetAnalyzer (f : AnalyzerFields) (s : State) : Served :=
  match numbered 5 f.input with
  | none => outOfRange s
  | some a =>
    if f.inRange then
      if a = 4 ∧ s.sampler.state ≠ .idle then wrongState s else ok (setAnalyzer a f.settings s)
    else outOfRange s

/-- SET TANK (R84). -/
def serveSetTank (f : TankFields) (s : State) : Served :=
  match numbered 3 f.tank with
  | none => outOfRange s
  | some t =>
    if f.inRange then
      if s.kept.tanks[t].state = .empty ∨ (s.kept.tanks[t].state = .outOfService ∧ (s.lotIn t).isNone) then
        ok (s.modKept fun k => { k with tankSettings := modAt k.tankSettings t fun _ => f.settings })
      else wrongState s
    else outOfRange s

/-- SET PLANT (R103): the train is judged against the new percent (R155), and a changed threshold at once (R187), in this
order (DESIGN CHOICE: assumption 41). -/
def serveSetPlant (f : PlantSettings) (s : State) : Served :=
  if f.inRange then
    let judged := judgeTrain f.exhaustPercent (s.modKept fun k => { k with plant := f })
    ok (if f.threshold = s.kept.plant.threshold then judged else judgeSupply judged)
  else outOfRange s

/-- SET PERMIT (R107). -/
def serveSetPermit (f : PermitFields) (s : State) : Served :=
  if f.inRange then
    let pending := s.modKept fun k => { k with permit := { k.permit with next := some f.permit } }
    match s.usablePermit with
    | some _ => okWith .staged pending
    | none => okWith (.activated (digestOf f.permit)) (activate occasion pending)
  else outOfRange s

/-- The clock is set and RUNNING (R115). -/
def startClock (dayCount second : Nat) (s : State) : State :=
  { s with clock := { running := true, second := second, dayCount := dayCount } }

/-- What follows every SET CLOCK that sets the clock: the window is judged, and the arbiter told (R115). -/
def clockWasSet (s : State) : State :=
  occasion (judgeWindow occasion s)

/-- SET CLOCK (R115). -/
def serveSetClock (dayCount second : Nat) (s : State) : Served :=
  if within 1 65535 dayCount && within 0 86399 second then
    let given := givenDay dayCount second s.kept.day.dayStart
    let n := s.kept.day.number
    let set := startClock dayCount second s
    if !s.kept.day.established then
      okWith (.clockSet given false)
        (clockWasSet (set.modDay fun d => { d with number := given, established := true }))
    else if given < n then wrongState s
    else if given = n then okWith (.clockSet n false) (clockWasSet set)
    else okWith (.clockSet given true) (clockWasSet (rollover given set))
  else outOfRange s

/-- Every enable of a mask is 0 or 1. -/
def enablesOk {n : Nat} (v : Vector Nat n) : Bool :=
  v.toList.all (within 0 1)

/-- SET ALERT MASK (R166). -/
def serveSetAlertMask (enables : Vector Nat 16) (s : State) : Served :=
  if enablesOk enables then ok (judgeAlert (s.modKept fun k => { k with alertMask := enables.map (· = 1) }))
  else outOfRange s

/-- SET NOTICE MASK (R171). -/
def serveSetNoticeMask (enables : Vector Nat 33) (s : State) : Served :=
  if enablesOk enables then
    let kept := s.link.notices.filter fun n => enables[n.key] = 1
    okWith (.noticesDiscarded (s.link.notices.length - kept.length))
      ((s.modKept fun k => { k with noticeMask := enables.map (· = 1) }).modLink fun k => { k with notices := kept })
  else outOfRange s

/-! ### Commands on cells -/

/-- START CELL (R39). -/
def serveStartCell (cell : Nat) (s : State) : Served :=
  match numbered 4 cell with
  | none => outOfRange s
  | some c =>
    match s.cells[c].state with
    | .off => if s.kept.cells[c].line.isSome then ok (enterPriming c s) else wrongState s
    | .fault => wrongState s
    | .priming => ok s
    | .regulating => ok s
    | .holding => ok s
    | .standby => ok s

/-- STOP CELL (R46). -/
def serveStopCell (cell : Nat) (s : State) : Served :=
  match numbered 4 cell with
  | none => outOfRange s
  | some c =>
    match s.cells[c].state with
    | .fault => wrongState s
    | .off => ok s
    | .priming => ok (s.modCell c fun k => { k.stopped s.now with state := .off })
    | .regulating => ok (s.modCell c fun k => { k.stopped s.now with state := .off })
    | .holding => ok (s.modCell c fun k => { k.stopped s.now with state := .off })
    | .standby => ok (s.modCell c fun k => { k.stopped s.now with state := .off })

/-- CLEAR CELL FAULT (R48). -/
def serveClearCellFault (cell : Nat) (s : State) : Served :=
  match numbered 4 cell with
  | none => outOfRange s
  | some c =>
    if s.cells[c].state = .fault then
      ok (s.modCell c fun k => { k.stopped s.now with state := .off, fault := none })
    else wrongState s

/-! ### Commands on lots and tanks -/

/-- CLOSE LOT (R85, R102). -/
def serveCloseLot (s : State) : Served :=
  if s.sump.levelsTaken then
    match s.fillingTank with
    | none => wrongState s
    | some t =>
      match s.lotIn t with
      | none => wrongState s
      | some l => if l.filled = 0 then wrongState s else okWith (.lotClosed l.number t) (closeLot t false s)
  else wrongState s

/-- A request on a lot number: its range, the starting levels, and the live lot it names (R94, R102). -/
def onLot (n : Nat) (s : State) (f : Fin 3 → Lot → Served) : Served :=
  if within 1 65535 n then
    if s.sump.levelsTaken then
      match s.tankOfLot n with
      | none => wrongState s
      | some t =>
        match s.lotIn t with
        | none => wrongState s
        | some l => f t l
    else wrongState s
  else outOfRange s

/-- HOLD LOT (R95). -/
def serveHoldLot (n : Nat) (s : State) : Served :=
  onLot n s fun t l =>
    if l.state = .filling ∨ l.state = .held then wrongState s
    else okWith (.lotHeld l.state) (stopLot t .byRequest .byRequest s)

/-- The tank is out of service. -/
def State.tankOut (s : State) (t : Fin 3) : Bool :=
  s.kept.tanks[t].state = .outOfService

/-- RETURN LOT (R96). -/
def serveReturnLot (n : Nat) (s : State) : Served :=
  onLot n s fun t l =>
    if l.state ≠ .held ∨ s.tankOut t then wrongState s
    else ok (samplerTest (enterSampleWait t (s.modLot t fun l => { l with attempts := 0 })))

/-- POLISH LOT (R97). -/
def servePolishLot (n : Nat) (s : State) : Served :=
  onLot n s fun t l =>
    if (l.state ≠ .held ∧ l.state ≠ .queued) ∨ l.concentration.isNone ∨ s.tankOut t then wrongState s
    else ok (occasion (enterPolishWait t ((dropFromLists n s).modLot t fun l => { l with hostPass := true })))

/-- The content of a hauled lot, ng (R31). -/
def Lot.content (l : Lot) : Nat :=
  l.concentration.getD 0 * l.current

/-- A lot is declared hauled out of tank `t` (R31, R98). -/
def haul (t : Fin 3) (l : Lot) (s : State) : State :=
  let booked := s.modAccounts fun a => { a with hauled := a.hauled.add l.content }
  let left := leaveTable t .hauled (l.content / 1000000) l.concentration.isNone booked
  if s.tankOut t then left else fillSelection (left.modTank t fun k => { k with state := .empty })

/-- DECLARE HAULED (R98). -/
def serveDeclareHauled (n : Nat) (s : State) : Served :=
  onLot n s fun t l =>
    if l.state ≠ .held ∨ s.covered (.tankLow t) then wrongState s
    else okWith (.hauled (l.content / 1000000)) (haul t l s)

/-- RETURN TANK (R86, R102). -/
def serveReturnTank (tank : Nat) (s : State) : Served :=
  match numbered 3 tank with
  | none => outOfRange s
  | some t =>
    if s.sump.levelsTaken && s.tankOut t && !s.switchesDisagree t then
      if (s.lotIn t).isNone then ok (fillSelection (s.modTank t fun k => { k with state := .empty }))
      else ok (s.modTank t fun k => { k with state := .closed })
    else wrongState s

/-! ### Commands on the train -/

/-- INSTALL CARTRIDGE (R157). -/
def serveInstallCartridge (serial capacity : Nat) (s : State) : Served :=
  if within 1 65535 serial && within 1 10000000 capacity then
    if 3 ≤ s.kept.train.length ∨ s.kept.train.any (·.serial = serial) then wrongState s
    else
      let fresh : Cartridge :=
        { serial := serial, capacity := capacity, loaded := 0, installed := s.stamp, exhausted := false }
      let percent := s.kept.plant.exhaustPercent
      let joined := s.modKept fun k => { k with train := k.train ++ [fresh] }
      okWith (.cartridgeInstalled (s.kept.train.length + 1) (fresh.judged percent).exhausted (fresh.threshold percent))
        (occasion (trainJudged (s.kept.train ++ [fresh.judged percent]) joined))
  else outOfRange s

/-- The lead leaves the train with its loaded mass (R158). -/
def removeLead (lead : Cartridge) (rest : List Cartridge) (s : State) : State :=
  (s.modKept fun k => { k with train := rest }).modAccounts fun a =>
    { a with
      cartridgeLoaded := a.cartridgeLoaded - lead.loaded
      cartridgeRemoved := addTo accountTop a.cartridgeRemoved lead.loaded }

/-- REMOVE CARTRIDGE (R158). -/
def serveRemoveCartridge (serial : Nat) (s : State) : Served :=
  if within 1 65535 serial then
    match s.kept.train with
    | [] => wrongState s
    | lead :: rest =>
      if s.path.state = .polish ∨ lead.serial ≠ serial then wrongState s
      else okWith (.cartridgeRemoved lead rest.length) (removeLead lead rest s)
  else outOfRange s

/-! ### Other commands -/

/-- SET DISCHARGE ENABLE (R123). -/
def serveSetDischargeEnable (enable : Nat) (s : State) : Served :=
  if enable = 1 then
    if s.permit.enable then ok s else ok (occasion { s with permit := { s.permit with enable := true } })
  else if enable = 0 then
    if s.permit.enable then ok (interruptDischarge .disabled { s with permit := { s.permit with enable := false } })
    else ok s
  else outOfRange s

/-- The flags that a CLEAR ALERT names, in the order of the kind table (R164). -/
def namedFlags (kind inst : Nat) : List Flag :=
  allFlags.filter fun f => (kind = 0 || f.kind.val + 1 = kind) && (inst = 0 || f.number = inst)

/-- What CLEAR ALERT finds for a named flag (R164). -/
def clearResult (s : State) (f : Flag) : ClearResult :=
  if s.latched f then if s.condition f then .kept else .cleared else .notLatched

/-- A named flag is cleared when its condition is absent (R164). -/
def clearNamed (f : Flag) (s : State) : State :=
  if s.condition f then s else s.modFlag f.index fun r => { r with latched := false }

/-- CLEAR ALERT (R164). -/
def serveClearAlert (kind inst : Nat) (s : State) : Served :=
  if 16 < kind ∨ (kind = 0 ∧ inst ≠ 0) ∨ (kind ≠ 0 ∧ kindCount kind < inst) then outOfRange s
  else
    let named := namedFlags kind inst
    let cleared := judgeAlert (named.foldl (fun s f => clearNamed f s) s)
    okWith (.alertsCleared (named.map (clearResult s)) (allFlags.map cleared.latched)) cleared

/-- RESUME LINK (R183). -/
def serveResumeLink (s : State) : Served :=
  let k := s.link
  okWith
    (.linkResumed k.faulted k.fault k.huntDiscards k.damagedFrames k.overrunReplies k.silentDiscards k.inbound.length)
    (s.modLink fun k => { k with faulted := false, fault := none })

/-- ECHO (R184). -/
def serveEcho (payload : List Byte) (s : State) : Served :=
  okWith (.echoed payload) s

/-! ### FACTORY RESET (R192) -/

/-- The three conditions under which FACTORY RESET is taken. -/
def State.quiet (s : State) : Bool :=
  (s.liveLots.all fun l => l.state = .filling && l.filled = 0) && s.path.state = .idle
    && (List.finRange 4).all fun c => s.cells[c].state = .off

/-- Every channel and every input returns to its default (R20). -/
def defaultInputs (s : State) : State :=
  (List.finRange 5).foldl (fun s a => setAnalyzer a (AnalyzerSettings.default a) s)
    ((List.finRange 16).foldl (fun s c => rebind c ChannelSettings.default s) s)

/-- A loop that is not already OFF enters OFF (R65). -/
def loopOff (l : Fin 4) (s : State) : State :=
  if s.loops[l].state = .off then s else washOff l s

/-- Every line is disabled with its defaults, and every loop OFF (R65). -/
def defaultLines (s : State) : State :=
  (List.finRange 4).foldl (fun s l => loopOff l s)
    (s.modKept fun k => { k with lines := Vector.replicate 4 LineSettings.default })

/-- Every cell takes its default settings (R60). -/
def defaultCells (s : State) : State :=
  (List.finRange 4).foldl (fun s c => cellTakes c (CellSettings.default c) s) s

/-- The rest of what a FACTORY RESET returns to its defaults (R35, R160, R165, R170, R192). -/
def defaultKept (k : Kept) : Kept :=
  { k with
    films := Vector.replicate 16 0
    tankSettings := Vector.replicate 3 TankSettings.default
    plant := PlantSettings.default
    alertMask := Vector.replicate 16 true
    noticeMask := Vector.replicate 33 true
    accounts := Accounts.zero
    history := []
    train := [] }

/-- What a FACTORY RESET does (R192). -/
def resetToDefaults (s : State) : State :=
  orderWrite .checkpoint
    (judgeSupply (judgeAlert ((defaultCells (defaultLines (defaultInputs s))).modKept defaultKept)))

/-- FACTORY RESET (R192). -/
def serveFactoryReset (s : State) : Served :=
  if s.quiet then ok (resetToDefaults s) else wrongState s

end Sys2Proof.Machine
end

