-- ==== Sys2Proof/Machine/Reads.lean ====
section
/-! DEFINITION. Serving the reads of the host: the figures that each reply carries, as they stand when the request is
taken. A read changes nothing. -/

namespace Sys2Proof.Machine

open Sys2Proof

/-- The Outlet Path's figures (R150). -/
def pathFigures (s : State) : PathFigures :=
  let p := s.path
  { state := p.state, hold := p.hold, lot := p.lot, tank := p.tank, use := p.use, grant := p.grant,
    metered := p.metered, passTarget := p.passTarget, polishVolume := p.polishVolume,
    drainLeft := secondsLeft p.drain s.now, closingLeft := secondsLeft p.closing s.now, stopCause := p.stopCause,
    overrun := p.overrun, stray := p.stray }

/-- The figures of READ STATUS (R172). -/
def statusFigures (s : State) : StatusFigures :=
  { flags := allFlags.map fun f =>
      { latched := s.latched f, time := s.flags[f.index].time, condition := s.condition f }
    alertMask := s.kept.alertMask, alertActive := s.alertActive, noticeMask := s.kept.noticeMask
    pendingKeys := s.link.notices.map fun n => (n.key, n.merged)
    supplyHold := s.supply.hold, selfTestPassed := s.startUp.selfTestPassed, restored := s.startUp.restored
    clockRunning := s.clock.running, dayNumber := s.kept.day.number, dayEstablished := s.kept.day.established
    dayUnknown := s.kept.day.unknown, permitUsable := s.usablePermit.isSome, enable := s.permit.enable
    cells := s.cells.toList.map (·.state), loops := s.loops.toList.map (·.state)
    tanks := s.kept.tanks.toList.map fun t => (t.state, t.lot.map (·.number))
    linkFaulted := s.link.faulted, path := pathFigures s }

/-- READ STATUS (R172). -/
def serveReadStatus (s : State) : Served :=
  okWith (.status (statusFigures s)) s

/-- A channel's figures (R19). -/
def channelFigures (s : State) (c : Fin 16) : ChannelFigures :=
  let ch := s.channels[c]
  { settings := s.kept.channels[c], count := ch.count, rejected := ch.rejected, moving := ch.moving, rate := ch.rate,
    pulseRate := ch.pulseRate, blockCount := (ch.block.map (·.count)).getD 0 }

/-- An analyzer input's figures (R19). -/
def analyzerFigures (s : State) (a : Fin 5) : AnalyzerFigures :=
  let k := s.analyzers[a]
  { settings := s.kept.analyzers[a], state := k.state, published := k.published, held := k.held,
    holdLeft := secondsLeft k.hold s.now, record := k.record }

/-- The figures of READ INPUTS (R19). -/
def inputFigures (s : State) : InputFigures :=
  { channels := (List.finRange 16).map (channelFigures s), analyzers := (List.finRange 5).map (analyzerFigures s)
    switches := s.switches.toList.map fun k => (k.accepted, k.debounce.isSome)
    strayTransfer := s.sump.strayTransfer, strayOutlet := s.path.stray }

/-- READ INPUTS (R19). -/
def serveReadInputs (s : State) : Served :=
  okWith (.inputs (inputFigures s)) s

/-- The figures of READ LINE (R75). -/
def lineFigures (s : State) (l : Fin 4) : LineFigures :=
  let k := s.loops[l]
  { settings := s.kept.lines[l], filmRate := s.lines[l].filmRate, filmMoving := s.lines[l].filmMoving
    footageChannel := s.channelOf (.footage l), filmIn := s.kept.accounts.filmIn[l], cell := s.cellOfLine l
    state := k.state, target := k.target, backup := k.backup, hold := k.hold, staged := k.staged, applied := k.applied
    cycleElapsed := (s.now - k.cycle.start) / sec, cycleLength := k.cycle.len / sec, watched := k.watched
    cycleVolume := k.cycleVolume, commanded := s.commandedVolume l, stopLeft := secondsLeft k.stop s.now
    lowFlow := k.lowFlow, measuredFlow := k.measuredFlow, washChannel := s.channelOf (.wash l)
    washVolume := k.washVolume }

/-- READ LINE (R75). -/
def serveReadLine (line : Nat) (s : State) : Served :=
  match numbered 4 line with
  | none => outOfRange s
  | some l => okWith (.line (lineFigures s l)) s

/-- The reading a cell's input gives it, and its mark (R14). -/
def State.cellReading (s : State) (c : Fin 4) : Option Nat × ReadingMark :=
  match s.cellInput c with
  | none => (none, .unavailable)
  | some a => s.reading a

/-- The figures of READ CELL (R61). -/
def cellFigures (s : State) (c : Fin 4) : CellFigures :=
  let k := s.cells[c]
  { settings := s.kept.cells[c], state := k.state, fault := k.fault, hold := k.hold, target := k.target
    limit := k.limit, staged := k.staged, appliedDuty := k.appliedDuty, appliedTarget := k.appliedTarget
    appliedFor := s.now - k.appliedSince, measured := s.measuredCurrent c, mismatch := k.mismatch
    controlLeft := secondsLeft k.control s.now, primingLeft := secondsLeft k.priming s.now
    flowCovered := k.flowCovered, view := k.view, reading := (s.cellReading c).1, mark := (s.cellReading c).2
    lastTick := k.lastTick, plated := s.kept.accounts.plated[c] }

/-- READ CELL (R61). -/
def serveReadCell (cell : Nat) (s : State) : Served :=
  match numbered 4 cell with
  | none => outOfRange s
  | some c => okWith (.cell (cellFigures s c)) s

/-- A tank's figures (R104). -/
def tankFigures (s : State) (t : Fin 3) : TankFigures :=
  { settings := s.kept.tankSettings[t], state := s.kept.tanks[t].state, lot := (s.lotIn t).map (·.number)
    maxFillLeft := secondsLeft s.timers[t].maxFill s.now }

/-- A live lot's figures (R104). -/
def lotFigures (s : State) (t : Fin 3) : Option LotFigures :=
  (s.lotIn t).map fun l => { tank := t, record := l, settleLeft := secondsLeft s.timers[t].settle s.now }

/-- The Sampler's running timer. -/
def Sampler.running (k : Sampler) : Option Timer :=
  k.flush.or k.window

/-- The figures of READ LOTS (R104). -/
def lotsFigures (s : State) : LotsFigures :=
  { tanks := (List.finRange 3).map (tankFigures s), lots := (List.finRange 3).filterMap (lotFigures s)
    dischargeQueue := s.kept.dischargeQueue, polishWait := s.kept.polishWait, sampleWait := s.kept.sampleWait
    samplerState := s.sampler.state, samplerLot := s.sampler.lot
    samplerLeft := secondsLeft s.sampler.running s.now, readingsTaken := s.sampler.count
    pump := s.sump.pump, callMark := s.sump.callMark, backupLeft := secondsLeft s.sump.backupTimer s.now
    backup := s.sump.backup, nextLot := s.kept.nextLot }

/-- READ LOTS (R104). -/
def serveReadLots (s : State) : Served :=
  okWith (.lots (lotsFigures s)) s

/-- READ LOT HISTORY (R105). -/
def serveReadLotHistory (s : State) : Served :=
  okWith (.lotHistory s.kept.history) s

/-- READ DAY HISTORY (R122). -/
def serveReadDayHistory (s : State) : Served :=
  okWith (.dayHistory
    { history := s.kept.dayHistory, day := s.kept.day, remaining := s.usablePermit.map s.remaining }) s

/-- Whether each of the four windows is open at the present minute (R111, R124); with no usable permit there is no open
window (R106). -/
def State.windowsOpen (s : State) : List Bool :=
  match s.usablePermit with
  | none => List.replicate 4 false
  | some p => (permitWindows p).map fun w => s.clock.running && windowOpenAt w s.clock.minute

/-- READ PERMIT (R124). -/
def serveReadPermit (s : State) : Served :=
  let k := s.kept.permit
  okWith (.permit
    { active := k.active, digest := k.digest, corrupt := k.corrupt, checkLeft := secondsLeft s.permit.check s.now
      next := k.next, windowOpen := s.permit.windowOpen, windows := s.windowsOpen, enable := s.permit.enable
      clock := s.clock }) s

/-- One line's term of the fixer inventory (R32). -/
def lineTerm (s : State) (l : Fin 4) : LineTerm :=
  let answer := s.reading (lineAnalyzer l)
  let volume := s.kept.lines[l].fixerVolume
  { reading := answer.1.getD 0, mark := answer.2, fixerVolume := volume
    term := answer.1.getD 0 * volume / 1000000 }

/-- One live lot's term of the lot contents (R33). -/
def lotTerm (l : Lot) : LotTerm :=
  { number := l.number, concentration := l.concentration, current := l.current, term := l.content / 1000000 }

/-- The figures of READ BALANCE (R32 to R34). -/
def balanceFigures (s : State) : BalanceFigures :=
  let a := s.kept.accounts
  let filmIn := a.filmIn.toList.map (·.mg)
  let plated := a.plated.toList.map (·.mg)
  let lines := (List.finRange 4).map (lineTerm s)
  let lots := s.liveLots.map lotTerm
  let inventory := (lines.map (·.term)).sum
  let contents := (lots.map (·.term)).sum
  { filmIn := filmIn, plated := plated, cartridgeLoaded := a.cartridgeLoaded, cartridgeRemoved := a.cartridgeRemoved
    discharged := a.discharged.mg, hauled := a.hauled.mg, lines := lines, fixerInventory := inventory, lots := lots
    lotContents := contents
    unaccounted :=
      (filmIn.sum : Int)
        - ((plated.sum + inventory + contents + a.cartridgeLoaded + a.cartridgeRemoved + a.discharged.mg + a.hauled.mg
            : Nat) : Int) }

/-- READ BALANCE (R34). -/
def serveReadBalance (s : State) : Served :=
  okWith (.balance (balanceFigures s)) s

/-- The figures of READ CARTRIDGES (R159). -/
def trainFigures (s : State) : TrainFigures :=
  let percent := s.kept.plant.exhaustPercent
  { cartridges := s.kept.train.map fun c => { cartridge := c, threshold := c.threshold percent, room := c.room }
    hasActive := hasActive s.kept.train, exhaustPercent := percent, loaded := s.kept.accounts.cartridgeLoaded
    removed := s.kept.accounts.cartridgeRemoved
    awaited := (s.liveLots.filter (·.removalPending)).map (·.number) }

/-- READ CARTRIDGES (R159). -/
def serveReadCartridges (s : State) : Served :=
  okWith (.cartridges (trainFigures s)) s

/-- READ SETTINGS (R185). -/
def serveReadSettings (s : State) : Served :=
  let k := s.kept
  okWith (.settings
    { channels := k.channels, analyzers := k.analyzers, films := k.films, lines := k.lines, cells := k.cells
      tanks := k.tankSettings, plant := k.plant, alertMask := k.alertMask, noticeMask := k.noticeMask
      bitRate := s.link.bitRate }) s

end Sys2Proof.Machine
end

