-- ==== Sys2Proof/Machine/Link.lean ====
section
/-! DEFINITION. The Plant Link: judging and serving a request, its reply and segments, the places of the Outbound
Queue, the Inbound Queue, and the receiver (R173 to R183). -/

namespace Sys2Proof.Machine

open Sys2Proof

/-! ### Judging a request (R179) -/

/-- The requests refused with SUPPLY_LOW in a supply hold (R179, step 4). -/
def refusedInHold : Request → Bool
  | .startCell _ => true
  | .polishLot _ => true
  | .returnLot _ => true
  | .closeLot => true
  | .setDischargeEnable enable => enable = 1
  | _ => false

/-- The request's entry acts (R179, steps 2, 3 and 5). -/
def serveEntry (r : Request) : State → Served :=
  match r with
  | .setLine f => serveSetLine f
  | .setFilmType entry load => serveSetFilmType entry load
  | .setCell f => serveSetCell f
  | .setChannel f => serveSetChannel f
  | .setAnalyzer f => serveSetAnalyzer f
  | .setTank f => serveSetTank f
  | .setPlant f => serveSetPlant f
  | .setPermit f => serveSetPermit f
  | .setClock dayCount second => serveSetClock dayCount second
  | .setAlertMask enables => serveSetAlertMask enables
  | .setNoticeMask enables => serveSetNoticeMask enables
  | .startCell cell => serveStartCell cell
  | .stopCell cell => serveStopCell cell
  | .clearCellFault cell => serveClearCellFault cell
  | .closeLot => serveCloseLot
  | .holdLot lot => serveHoldLot lot
  | .returnLot lot => serveReturnLot lot
  | .polishLot lot => servePolishLot lot
  | .declareHauled lot => serveDeclareHauled lot
  | .returnTank tank => serveReturnTank tank
  | .installCartridge serial capacity => serveInstallCartridge serial capacity
  | .removeCartridge serial => serveRemoveCartridge serial
  | .setDischargeEnable enable => serveSetDischargeEnable enable
  | .clearAlert kind inst => serveClearAlert kind inst
  | .resumeLink => serveResumeLink
  | .factoryReset => serveFactoryReset
  | .echo payload => serveEcho payload
  | .readStatus => serveReadStatus
  | .readInputs => serveReadInputs
  | .readLine line => serveReadLine line
  | .readCell cell => serveReadCell cell
  | .readLots => serveReadLots
  | .readLotHistory => serveReadLotHistory
  | .readDayHistory => serveReadDayHistory
  | .readPermit => serveReadPermit
  | .readBalance => serveReadBalance
  | .readCartridges => serveReadCartridges
  | .readSettings => serveReadSettings
  | .unknownKind _ => refuse .unknownKind
  | .badLength _ => refuse .badLength

/-- The kind of RESUME LINK. -/
def resumeKind : Byte := 0x2D

/-- A taken frame is answered HELD: it was marked, and its kind is not that of RESUME LINK (R178, R179, step 1). -/
def InFrame.heldBack (f : InFrame) : Bool :=
  f.faulted && f.kind ≠ resumeKind

/-- A taken request is judged (R179). -/
def serve (f : InFrame) (s : State) : Served :=
  if f.heldBack then refuse .held s
  else if s.supply.hold && refusedInHold f.request then refuse .supplyLow s
  else serveEntry f.request s

/-- The Outbound places that a frame wants (R178). -/
def InFrame.wants (f : InFrame) : Nat :=
  if f.heldBack then 1 else placesOf f.kind

/-! ### Taking the head frame (R178, R181) -/

/-- The frames of a reply, one for each segment (R181). -/
def replyFrames (f : InFrame) (r : Reply) : List OutFrame :=
  let count := r.segments f.wants
  (List.range count).map fun i => .reply (replyKind f.kind) f.tag r (i + 1) count

/-- The reply is appended, and its reservation ends. Notices that moved in the same event, those past the first
`before` frames, stand behind it or before it (R169; assumption 9). -/
def appendReply (before : Nat) (frames : List OutFrame) (s : State) : State :=
  let put (out : List OutFrame) (s : State) : State := s.modLink fun k => { k with outbound := out, reserved := 0 }
  if s.link.outbound.length ≤ before then put (s.link.outbound ++ frames) s
  else if s.choose.1 then put (s.link.outbound ++ frames) s.choose.2
  else put (s.link.outbound.take before ++ frames ++ s.link.outbound.drop before) s.choose.2

/-- The head frame is taken: removed, served whole, and its reply appended (R178). Its places are reserved while it is
served. Answers the number of frames of the reply, and the state. -/
def takeHead (f : InFrame) (s : State) : Nat × State :=
  let served := serve f (s.modLink fun k => { k with inbound := k.inbound.tail, reserved := f.wants })
  let frames := replyFrames f served.1
  (frames.length, appendReply s.link.outbound.length frames served.2)

/-! ### Free places (R169, R178, R182) -/

/-- Frames are served only when the restore has ended (R186). Until then a waiting frame neither claims nor reserves a
place that frees (DESIGN CHOICE: assumption 34). -/
def State.servable (s : State) : Option InFrame :=
  if s.phase = .running then s.link.inbound.head? else none

/-- A free place becomes reserved for the waiting head frame. -/
def reserve (s : State) : State :=
  s.modLink fun k => { k with reserved := k.reserved + 1 }

/-- The places that stand freed after the head frame `f` has been taken, giving `t`: those not yet claimed, and those
of its places that its `used` segments did not fill. -/
def freedAfter (freed : Nat) (f : InFrame) (used : Nat) (t : State) : Nat :=
  min t.link.free (freed + (f.wants - used))

/-- Free places are claimed until none is, at most `fuel` times. `freed` counts the places that have just become free,
each claimed both by the head pending notice and by the waiting head frame: either may be first (R169, R178). A head
frame that finds all its places is taken. -/
def settle : Nat → Nat → State → State
  | 0, _, s => s
  | fuel + 1, freed, s =>
    match s.servable, s.link.notices with
    | none, [] => s
    | none, _ :: _ => if 0 < freed then settle fuel (freed - 1) (moveNotice s) else s
    | some f, [] =>
      if f.wants ≤ s.link.reserved + s.link.free then
        let t := takeHead f s
        settle fuel (freedAfter freed f t.1 t.2) t.2
      else if 0 < freed then settle fuel (freed - 1) (reserve s)
      else s
    | some f, _ :: _ =>
      if f.wants ≤ s.link.reserved then
        let t := takeHead f s
        settle fuel (freedAfter freed f t.1 t.2) t.2
      else if 0 < freed then
        if s.choose.1 then settle fuel (freed - 1) (moveNotice s.choose.2)
        else settle fuel (freed - 1) (reserve s.choose.2)
      else if f.wants ≤ s.link.reserved + s.link.free then
        let t := takeHead f s
        settle fuel (freedAfter freed f t.1 t.2) t.2
      else s

/-- More turns than the claims of one event can take: at most four frames are taken, each freeing at most five places,
and each place is claimed once. -/
def settleTurns : Nat := 64

/-- The claims of an event that frees `freed` places. -/
def claims (freed : Nat) (s : State) : State :=
  settle settleTurns freed s

/-! ### The Inbound Queue (R177) -/

/-- The Inbound Queue's places. -/
def inboundPlaces : Nat := 4

/-- A good frame that finds the Inbound Queue full: an OVERRUN reply if a place is free, else a silent discard. -/
def overrunFrame (kind tag : Byte) (s : State) : State :=
  if 0 < s.link.free then
    s.modLink fun k =>
      { k with
        outbound := k.outbound ++ [.reply (replyKind kind) tag { status := .overrun, body := .empty } 1 1]
        overrunReplies := wrap32 (k.overrunReplies + 1) }
  else s.modLink fun k => { k with silentDiscards := wrap32 (k.silentDiscards + 1) }

/-- A good frame is offered to the Inbound Queue (R177), and served if its places are free (R178). -/
def offerFrame (kind tag : Byte) (request : Request) (s : State) : State :=
  if s.link.inbound.length < inboundPlaces then
    claims 0 (s.modLink fun k =>
      { k with inbound := k.inbound ++ [{ kind := kind, tag := tag, request := request, faulted := k.faulted }] })
  else overrunFrame kind tag s

/-- The last byte of the oldest outbound frame has been sent: its place is freed and claimed (R182). -/
def frameSent (s : State) : State :=
  match s.link.outbound with
  | [] => s
  | _ :: rest => claims 1 (s.modLink fun k => { k with outbound := rest })

/-! ### The receiver (R175, R176) -/

/-- The gap timer's span (R175). -/
def gapSpan : Micros := 50 * ms

/-- The receiver returns to HUNT. -/
def hunt (s : State) : State :=
  s.modLink fun k => { k with receiver := Receiver.hunting }

/-- The link fault record after a damaged frame (R176, step 2). -/
def faultRecord (k : Link) (cause : DamageCause) (bytes : Nat) (tag : Option Byte) : FaultRecord :=
  match k.faulted, k.fault with
  | true, some r => { r with damaged := addTo 255 r.damaged 1 }
  | _, _ => { cause := cause, bytes := bytes, tag := tag, damaged := 1 }

/-- A frame in reception is damaged (R176): `bytes` is its byte count with the character that damaged it. -/
def damage (cause : DamageCause) (bytes : Nat) (s : State) : State :=
  let tag := s.link.receiver.bytes[3]?
  hunt (latch .linkFault (s.modLink fun k =>
    { k with
      damagedFrames := wrap32 (k.damagedFrames + 1)
      fault := some (faultRecord k cause bytes tag)
      faulted := true }))

/-- A character is kept: the byte count goes up and the gap timer restarts. -/
def keepByte (b : Byte) (state : ReceiverState) (s : State) : State :=
  s.modLink fun k =>
    { k with receiver := { state := state, bytes := k.receiver.bytes ++ [b], gap := some (s.timer gapSpan) } }

/-- The length that the frame in reception announced. -/
def Receiver.length (r : Receiver) : Nat :=
  (r.bytes.getD 1 0).toNat

/-- A complete frame is judged against its check (R175): its bytes are those of `frameBytes`. -/
def judgeFrame (bytes : List Byte) (s : State) : State :=
  let n := (bytes.getD 1 0).toNat
  let body := (bytes.drop 1).take (n + 1)
  if bytes.drop (n + 2) = checkBytes (crc16 body) then
    let kind := bytes.getD 2 0
    offerFrame kind (bytes.getD 3 0) (decodeRequest kind (body.drop 3)) (hunt s)
  else damage .badCheck bytes.length s

/-- A character without a framing error inside a frame. -/
def takeByte (b : Byte) (s : State) : State :=
  let r := s.link.receiver
  match r.state with
  | .hunt =>
    if b = startByte then keepByte b .length s
    else s.modLink fun k => { k with huntDiscards := wrap32 (k.huntDiscards + 1) }
  | .length =>
    if 2 ≤ b.toNat ∧ b.toNat ≤ 250 then keepByte b .body s else damage .badLengthField (r.bytes.length + 1) s
  | .body => keepByte b (if r.bytes.length + 1 = r.length + 2 then .check else .body) s
  | .check =>
    if r.bytes.length + 1 = r.length + 4 then judgeFrame (r.bytes ++ [b]) s else keepByte b .check s

/-- A received character (R175). -/
def takeCharacter (b : Byte) (framingError : Bool) (s : State) : State :=
  if framingError then
    if s.link.receiver.state = .hunt then s.modLink fun k => { k with huntDiscards := wrap32 (k.huntDiscards + 1) }
    else damage .framing (s.link.receiver.bytes.length + 1) s
  else takeByte b s

/-- The gap timer passes 50 ms (R175). -/
def gapExpired (s : State) : State :=
  damage .gap s.link.receiver.bytes.length s

end Sys2Proof.Machine
end

