-- ==== Sys2Proof/Machine/Events.lean ====
section
/-! DEFINITION. The meanings of the events: `dt` microseconds pass, and then the event comes. A timer's event has its
effect when the timer runs and has reached its length; before that it is none (assumption 1). A part held in reset or in
its self-test takes the events of its supply, its pins and its self-test only. -/

namespace Sys2Proof.Machine

open Sys2Proof

/-- The memory that holds the active permit comes to hold `p` and `digest` (R110). -/
def permitAltered (p : Permit) (digest : BitVec 32) (s : State) : State :=
  if s.kept.permit.active.isSome then
    s.modKept fun k => { k with permit := { k.permit with active := some p, digest := some digest } }
  else s

/-- The priming timer of a cell runs out (R41). -/
def primingExpired (c : Fin 4) (s : State) : State :=
  cellFaulted c (if s.cells[c].flowCovered then .noAnalyzer else .noFlow) s

/-- The next PWM period of a cell starts where the last one ends, with the period setting in force (R37, R53). -/
def pwmPeriod (c : Fin 4) (s : State) : State :=
  s.modCell c fun k =>
    k.periodStart { start := k.pwm.start + k.pwm.len, len := s.kept.cells[c].pwmPeriod * ms }

/-- An edge on a pulse pin (R3). -/
def execPulseEdge (dt : Micros) (channel : Fin 16) (rising : Bool) (s : State) : Out :=
  .next (whenAwake (s.after dt) (edge channel rising))

/-- The 60-second limit of a channel's block (R5). -/
def execBlockTimeLimit (dt : Micros) (channel : Fin 16) (s : State) : Out :=
  let t := s.after dt
  .next (if t.awake && t.channels[channel].limitDue t.now then limitBlock channel t else t)

/-- The stale time of a channel passes (R6). -/
def execChannelStale (dt : Micros) (channel : Fin 16) (s : State) : Out :=
  let t := s.after dt
  .next (whenDue t.channels[channel].stale t (goStale channel))

/-- A falling edge on an analyzer pin (R9). -/
def execAnalyzerFallingEdge (dt : Micros) (input : Fin 5) (s : State) : Out :=
  .next (whenAwake (s.after dt) (fallingEdge input))

/-- A rising edge on an analyzer pin (R9). -/
def execAnalyzerRisingEdge (dt : Micros) (input : Fin 5) (s : State) : Out :=
  .next (whenAwake (s.after dt) (risingEdge input))

/-- Three seconds of silence on an analyzer input (R13). -/
def execAnalyzerSilence (dt : Micros) (input : Fin 5) (s : State) : Out :=
  let t := s.after dt
  .next (whenDue t.analyzers[input].silence t (silent input))

/-- The hold time of an analyzer input runs out (R14). -/
def execAnalyzerHoldExpired (dt : Micros) (input : Fin 5) (s : State) : Out :=
  let t := s.after dt
  .next (whenDue t.analyzers[input].hold t (holdRunsOut input))

/-- A switch pin takes a level, in every phase (R17). -/
def execSwitchPinChange (dt : Micros) (switch : Switch) (covered : Bool) (s : State) : Out :=
  .next (pinLevel switch covered (s.after dt))

/-- A debounce timer expires (R17). -/
def execDebounceExpired (dt : Micros) (switch : Switch) (s : State) : Out :=
  let t := s.after dt
  .next (whenDue t.switches[switchIndex switch].debounce t (debounced switch))

/-- The starting levels are taken one debounce time after the restore (R18). -/
def execSwitchStartingLevels (dt : Micros) (s : State) : Out :=
  let t := s.after dt
  .next (whenDue t.startUp.levels t startingLevels)

/-- The priming timer of a cell reaches 60 s (R41). -/
def execCellPrimingTimeout (dt : Micros) (cell : Fin 4) (s : State) : Out :=
  let t := s.after dt
  .next (whenDue t.cells[cell].priming t (primingExpired cell))

/-- The control timer of a cell expires (R49, R50). -/
def execCellControlTick (dt : Micros) (cell : Fin 4) (s : State) : Out :=
  let t := s.after dt
  .next (whenDue t.cells[cell].control t (tickAndRestart cell))

/-- A PWM period of a cell starts (R53). -/
def execCellPwmPeriodStart (dt : Micros) (cell : Fin 4) (s : State) : Out :=
  let t := s.after dt
  .next (whenDue (some t.cells[cell].pwm) t (pwmPeriod cell))

/-- A wash cycle starts (R70). -/
def execWashCycleStart (dt : Micros) (line : Fin 4) (s : State) : Out :=
  let t := s.after dt
  .next (whenDue (some t.loops[line].cycle) t (startCycle line))

/-- The stop timer of a loop reaches the stop timeout (R67). -/
def execWashStopTimeout (dt : Micros) (line : Fin 4) (s : State) : Out :=
  let t := s.after dt
  .next (whenDue t.loops[line].stop t (washIdle line))

/-- The max fill timer of a tank expires (R81). -/
def execMaxFillTimeout (dt : Micros) (tank : Fin 3) (s : State) : Out :=
  let t := s.after dt
  .next (whenDue t.timers[tank].maxFill t (maxFillExpired tank))

/-- The backup timer reaches the sump backup delay (R78). -/
def execSumpBackupDelay (dt : Micros) (s : State) : Out :=
  let t := s.after dt
  .next (whenDue t.sump.backupTimer t backupArises)

/-- The settle timer of the lot in a tank expires (R88). -/
def execSettleTimerExpired (dt : Micros) (tank : Fin 3) (s : State) : Out :=
  let t := s.after dt
  .next (whenDue t.timers[tank].settle t (settleExpired tank))

/-- The flush timer expires (R89). -/
def execSampleFlushEnd (dt : Micros) (s : State) : Out :=
  let t := s.after dt
  .next (whenDue t.sampler.flush t flushEnds)

/-- The window timer expires (R90). -/
def execSampleWindowEnd (dt : Micros) (s : State) : Out :=
  let t := s.after dt
  .next (whenDue t.sampler.window t windowEnds)

/-- The check timer expires (R110). -/
def execPermitCheckTimer (dt : Micros) (s : State) : Out :=
  let t := s.after dt
  .next (whenDue t.permit.check t checkExpired)

/-- A second of the crystal passes; an UNSET clock does not advance (R113). -/
def execClockSecond (dt : Micros) (s : State) : Out :=
  let t := s.after dt
  .next (if t.awake && t.clock.running then clockAdvance t else t)

/-- The drain timer expires (R139). -/
def execDrainTimerExpired (dt : Micros) (s : State) : Out :=
  let t := s.after dt
  .next (whenDue t.path.drain t drainTimedOut)

/-- The closing timer expires (R142). -/
def execClosingTimerExpired (dt : Micros) (s : State) : Out :=
  let t := s.after dt
  .next (whenDue t.path.closing t closingExpired)

/-- A character is received (R175). -/
def execLinkCharacter (dt : Micros) (byte : Byte) (framingError : Bool) (s : State) : Out :=
  .next (whenAwake (s.after dt) (takeCharacter byte framingError))

/-- The gap timer passes 50 ms (R175). -/
def execLinkGapTimeout (dt : Micros) (s : State) : Out :=
  let t := s.after dt
  .next (whenDue t.link.receiver.gap t gapExpired)

/-- The oldest outbound frame has been sent (R182). -/
def execOutboundFrameSent (dt : Micros) (s : State) : Out :=
  .next (whenAwake (s.after dt) frameSent)

/-- The supply falls to a level (R187). -/
def execSupplyFall (dt : Micros) (level : Nat) (s : State) : Out :=
  .next (supplyAt level (s.after dt))

/-- The supply rises, or in HOLD falls back, to a level (R187). -/
def execSupplyRise (dt : Micros) (level : Nat) (s : State) : Out :=
  .next (supplyAt level (s.after dt))

/-- The recovery timer reaches 100 ms (R187). -/
def execSupplyRecovery (dt : Micros) (s : State) : Out :=
  let t := s.after dt
  .next (whenDue t.supply.recovery t recover)

/-- The supply falls below 3.0 V: the part is held in reset (R187). -/
def execSupplyBelowReset (dt : Micros) (level : Nat) (s : State) : Out :=
  let t := s.after dt
  .next (lost { t with supply := { t.supply with level := level } })

/-- The RESET pin is released (R189). -/
def execResetPin (dt : Micros) (rateSel1 rateSel0 : Bool) (s : State) : Out :=
  .next (beginStartUp rateSel1 rateSel0 { s.after dt with resetLow := false })

/-- Power-on, or the return of the supply from below 3.0 V (R189). -/
def execPowerOn (dt : Micros) (level : Nat) (rateSel1 rateSel0 : Bool) (s : State) : Out :=
  let t := s.after dt
  .next (beginStartUp rateSel1 rateSel0 { t with supply := { t.supply with level := level } })

/-- The self-test ends, and the restore and the blocks follow (R189). -/
def execSelfTestEnd (dt : Micros) (memoryGood storeReadable imageMatches : Bool) (s : State) : Out :=
  let t := s.after dt
  .next (if t.phase = .selfTest then endSelfTest memoryGood storeReadable imageMatches t else t)

/-- A write of the retained image completes (R188). -/
def execImageWriteComplete (dt : Micros) (s : State) : Out :=
  .next (whenAwake (s.after dt) completeWrite)

/-- The RESET pin is driven low: the part is held in reset (R189). -/
def execResetPinLow (dt : Micros) (s : State) : Out :=
  .next (lost { s.after dt with resetLow := true })

/-- The memory that holds the active permit comes to hold other fields or another digest (R110). -/
def execPermitMemoryFault (dt : Micros) (permit : Permit) (digest : BitVec 32) (s : State) : Out :=
  .next (whenAwake (s.after dt) (permitAltered permit digest))

/-- The restore ends: the first judgement, and the frames that wait are served (R186, R189). -/
def execRestoreEnd (dt : Micros) (s : State) : Out :=
  let t := s.after dt
  .next (if t.phase = .restoring then claims 0 (endRestore t) else t)

end Sys2Proof.Machine
end

