-- ==== Sys2Proof/Machine/Host.lean ====
section
/-! DEFINITION. The meanings of the host's requests: `dt` microseconds pass, and the request's good frame completes with
its tag (assumption 3). Each is offered to the Inbound Queue (R177), taken when its reply has its places (R178), judged
(R179), and served as its entry states. -/

namespace Sys2Proof.Machine

open Sys2Proof

/-- A good frame of a request completes after `dt` microseconds; the receiver takes none before the self-test has ended
(R186). -/
def hostRequest (dt : Micros) (kind tag : Byte) (r : Request) (s : State) : State :=
  whenAwake (s.after dt) (offerFrame kind tag r)

/-- SET LINE (R64). -/
def execSetLine (dt : Micros) (tag : Byte) (f : LineFields) (s : State) : Out :=
  .next (hostRequest dt (Request.kind (.setLine f)) tag (.setLine f) s)

/-- SET FILM TYPE (R24). -/
def execSetFilmType (dt : Micros) (tag : Byte) (entry load : Nat) (s : State) : Out :=
  .next (hostRequest dt (Request.kind (.setFilmType entry load)) tag (.setFilmType entry load) s)

/-- SET CELL (R37). -/
def execSetCell (dt : Micros) (tag : Byte) (f : CellFields) (s : State) : Out :=
  .next (hostRequest dt (Request.kind (.setCell f)) tag (.setCell f) s)

/-- SET CHANNEL (R8). -/
def execSetChannel (dt : Micros) (tag : Byte) (f : ChannelFields) (s : State) : Out :=
  .next (hostRequest dt (Request.kind (.setChannel f)) tag (.setChannel f) s)

/-- SET ANALYZER (R16). -/
def execSetAnalyzer (dt : Micros) (tag : Byte) (f : AnalyzerFields) (s : State) : Out :=
  .next (hostRequest dt (Request.kind (.setAnalyzer f)) tag (.setAnalyzer f) s)

/-- SET TANK (R84). -/
def execSetTank (dt : Micros) (tag : Byte) (f : TankFields) (s : State) : Out :=
  .next (hostRequest dt (Request.kind (.setTank f)) tag (.setTank f) s)

/-- SET PLANT (R103). -/
def execSetPlant (dt : Micros) (tag : Byte) (f : PlantSettings) (s : State) : Out :=
  .next (hostRequest dt (Request.kind (.setPlant f)) tag (.setPlant f) s)

/-- SET PERMIT (R107). -/
def execSetPermit (dt : Micros) (tag : Byte) (f : PermitFields) (s : State) : Out :=
  .next (hostRequest dt (Request.kind (.setPermit f)) tag (.setPermit f) s)

/-- SET CLOCK (R115). -/
def execSetClock (dt : Micros) (tag : Byte) (dayCount second : Nat) (s : State) : Out :=
  .next (hostRequest dt (Request.kind (.setClock dayCount second)) tag (.setClock dayCount second) s)

/-- SET ALERT MASK (R166). -/
def execSetAlertMask (dt : Micros) (tag : Byte) (enables : Vector Nat 16) (s : State) : Out :=
  .next (hostRequest dt (Request.kind (.setAlertMask enables)) tag (.setAlertMask enables) s)

/-- SET NOTICE MASK (R171). -/
def execSetNoticeMask (dt : Micros) (tag : Byte) (enables : Vector Nat 33) (s : State) : Out :=
  .next (hostRequest dt (Request.kind (.setNoticeMask enables)) tag (.setNoticeMask enables) s)

/-- START CELL (R39). -/
def execStartCell (dt : Micros) (tag : Byte) (cell : Nat) (s : State) : Out :=
  .next (hostRequest dt (Request.kind (.startCell cell)) tag (.startCell cell) s)

/-- STOP CELL (R46). -/
def execStopCell (dt : Micros) (tag : Byte) (cell : Nat) (s : State) : Out :=
  .next (hostRequest dt (Request.kind (.stopCell cell)) tag (.stopCell cell) s)

/-- CLEAR CELL FAULT (R48). -/
def execClearCellFault (dt : Micros) (tag : Byte) (cell : Nat) (s : State) : Out :=
  .next (hostRequest dt (Request.kind (.clearCellFault cell)) tag (.clearCellFault cell) s)

/-- CLOSE LOT (R85). -/
def execCloseLot (dt : Micros) (tag : Byte) (s : State) : Out :=
  .next (hostRequest dt (Request.kind .closeLot) tag .closeLot s)

/-- HOLD LOT (R95). -/
def execHoldLot (dt : Micros) (tag : Byte) (lot : Nat) (s : State) : Out :=
  .next (hostRequest dt (Request.kind (.holdLot lot)) tag (.holdLot lot) s)

/-- RETURN LOT (R96). -/
def execReturnLot (dt : Micros) (tag : Byte) (lot : Nat) (s : State) : Out :=
  .next (hostRequest dt (Request.kind (.returnLot lot)) tag (.returnLot lot) s)

/-- POLISH LOT (R97). -/
def execPolishLot (dt : Micros) (tag : Byte) (lot : Nat) (s : State) : Out :=
  .next (hostRequest dt (Request.kind (.polishLot lot)) tag (.polishLot lot) s)

/-- DECLARE HAULED (R98). -/
def execDeclareHauled (dt : Micros) (tag : Byte) (lot : Nat) (s : State) : Out :=
  .next (hostRequest dt (Request.kind (.declareHauled lot)) tag (.declareHauled lot) s)

/-- RETURN TANK (R86). -/
def execReturnTank (dt : Micros) (tag : Byte) (tank : Nat) (s : State) : Out :=
  .next (hostRequest dt (Request.kind (.returnTank tank)) tag (.returnTank tank) s)

/-- INSTALL CARTRIDGE (R157). -/
def execInstallCartridge (dt : Micros) (tag : Byte) (serial capacity : Nat) (s : State) : Out :=
  .next (hostRequest dt (Request.kind (.installCartridge serial capacity)) tag (.installCartridge serial capacity) s)

/-- REMOVE CARTRIDGE (R158). -/
def execRemoveCartridge (dt : Micros) (tag : Byte) (serial : Nat) (s : State) : Out :=
  .next (hostRequest dt (Request.kind (.removeCartridge serial)) tag (.removeCartridge serial) s)

/-- SET DISCHARGE ENABLE (R123). -/
def execSetDischargeEnable (dt : Micros) (tag : Byte) (enable : Nat) (s : State) : Out :=
  .next (hostRequest dt (Request.kind (.setDischargeEnable enable)) tag (.setDischargeEnable enable) s)

/-- CLEAR ALERT (R164). -/
def execClearAlert (dt : Micros) (tag : Byte) (kind inst : Nat) (s : State) : Out :=
  .next (hostRequest dt (Request.kind (.clearAlert kind inst)) tag (.clearAlert kind inst) s)

/-- RESUME LINK (R183). -/
def execResumeLink (dt : Micros) (tag : Byte) (s : State) : Out :=
  .next (hostRequest dt (Request.kind .resumeLink) tag .resumeLink s)

/-- FACTORY RESET (R192). -/
def execFactoryReset (dt : Micros) (tag : Byte) (s : State) : Out :=
  .next (hostRequest dt (Request.kind .factoryReset) tag .factoryReset s)

/-- ECHO (R184). -/
def execEcho (dt : Micros) (tag : Byte) (payload : List Byte) (s : State) : Out :=
  .next (hostRequest dt (Request.kind (.echo payload)) tag (.echo payload) s)

/-- READ STATUS (R172). -/
def execReadStatus (dt : Micros) (tag : Byte) (s : State) : Out :=
  .next (hostRequest dt (Request.kind .readStatus) tag .readStatus s)

/-- READ INPUTS (R19). -/
def execReadInputs (dt : Micros) (tag : Byte) (s : State) : Out :=
  .next (hostRequest dt (Request.kind .readInputs) tag .readInputs s)

/-- READ LINE (R75). -/
def execReadLine (dt : Micros) (tag : Byte) (line : Nat) (s : State) : Out :=
  .next (hostRequest dt (Request.kind (.readLine line)) tag (.readLine line) s)

/-- READ CELL (R61). -/
def execReadCell (dt : Micros) (tag : Byte) (cell : Nat) (s : State) : Out :=
  .next (hostRequest dt (Request.kind (.readCell cell)) tag (.readCell cell) s)

/-- READ LOTS (R104). -/
def execReadLots (dt : Micros) (tag : Byte) (s : State) : Out :=
  .next (hostRequest dt (Request.kind .readLots) tag .readLots s)

/-- READ LOT HISTORY (R105). -/
def execReadLotHistory (dt : Micros) (tag : Byte) (s : State) : Out :=
  .next (hostRequest dt (Request.kind .readLotHistory) tag .readLotHistory s)

/-- READ DAY HISTORY (R122). -/
def execReadDayHistory (dt : Micros) (tag : Byte) (s : State) : Out :=
  .next (hostRequest dt (Request.kind .readDayHistory) tag .readDayHistory s)

/-- READ PERMIT (R124). -/
def execReadPermit (dt : Micros) (tag : Byte) (s : State) : Out :=
  .next (hostRequest dt (Request.kind .readPermit) tag .readPermit s)

/-- READ BALANCE (R34). -/
def execReadBalance (dt : Micros) (tag : Byte) (s : State) : Out :=
  .next (hostRequest dt (Request.kind .readBalance) tag .readBalance s)

/-- READ CARTRIDGES (R159). -/
def execReadCartridges (dt : Micros) (tag : Byte) (s : State) : Out :=
  .next (hostRequest dt (Request.kind .readCartridges) tag .readCartridges s)

/-- READ SETTINGS (R185). -/
def execReadSettings (dt : Micros) (tag : Byte) (s : State) : Out :=
  .next (hostRequest dt (Request.kind .readSettings) tag .readSettings s)

/-- A frame whose kind is not in the kind table (R179, step 2). A kind of the table is read as its own request. -/
def execUnknownKindRequest (dt : Micros) (kind tag : Byte) (payload : List Byte) (s : State) : Out :=
  .next (hostRequest dt kind tag (decodeRequest kind payload) s)

end Sys2Proof.Machine
end

