-- ==== Sys2Proof/Machine/Dispatch.lean ====
section
/-! DEFINITION. The meaning of every command: one arm per constructor of `Instr`, each one direct call. -/

namespace Sys2Proof.Machine

open Sys2Proof

def exec (i : Instr) (s : State) : Host.Outcome State Fault Refusal :=
  match i with
  | .setLine dt tag f => Sys2Proof.Machine.execSetLine dt tag f s
  | .setFilmType dt tag entry load => Sys2Proof.Machine.execSetFilmType dt tag entry load s
  | .setCell dt tag f => Sys2Proof.Machine.execSetCell dt tag f s
  | .setChannel dt tag f => Sys2Proof.Machine.execSetChannel dt tag f s
  | .setAnalyzer dt tag f => Sys2Proof.Machine.execSetAnalyzer dt tag f s
  | .setTank dt tag f => Sys2Proof.Machine.execSetTank dt tag f s
  | .setPlant dt tag f => Sys2Proof.Machine.execSetPlant dt tag f s
  | .setPermit dt tag f => Sys2Proof.Machine.execSetPermit dt tag f s
  | .setClock dt tag dayCount second => Sys2Proof.Machine.execSetClock dt tag dayCount second s
  | .setAlertMask dt tag enables => Sys2Proof.Machine.execSetAlertMask dt tag enables s
  | .setNoticeMask dt tag enables => Sys2Proof.Machine.execSetNoticeMask dt tag enables s
  | .startCell dt tag cell => Sys2Proof.Machine.execStartCell dt tag cell s
  | .stopCell dt tag cell => Sys2Proof.Machine.execStopCell dt tag cell s
  | .clearCellFault dt tag cell => Sys2Proof.Machine.execClearCellFault dt tag cell s
  | .closeLot dt tag => Sys2Proof.Machine.execCloseLot dt tag s
  | .holdLot dt tag lot => Sys2Proof.Machine.execHoldLot dt tag lot s
  | .returnLot dt tag lot => Sys2Proof.Machine.execReturnLot dt tag lot s
  | .polishLot dt tag lot => Sys2Proof.Machine.execPolishLot dt tag lot s
  | .declareHauled dt tag lot => Sys2Proof.Machine.execDeclareHauled dt tag lot s
  | .returnTank dt tag tank => Sys2Proof.Machine.execReturnTank dt tag tank s
  | .installCartridge dt tag serial capacity => Sys2Proof.Machine.execInstallCartridge dt tag serial capacity s
  | .removeCartridge dt tag serial => Sys2Proof.Machine.execRemoveCartridge dt tag serial s
  | .setDischargeEnable dt tag enable => Sys2Proof.Machine.execSetDischargeEnable dt tag enable s
  | .clearAlert dt tag kind inst => Sys2Proof.Machine.execClearAlert dt tag kind inst s
  | .resumeLink dt tag => Sys2Proof.Machine.execResumeLink dt tag s
  | .factoryReset dt tag => Sys2Proof.Machine.execFactoryReset dt tag s
  | .echo dt tag payload => Sys2Proof.Machine.execEcho dt tag payload s
  | .readStatus dt tag => Sys2Proof.Machine.execReadStatus dt tag s
  | .readInputs dt tag => Sys2Proof.Machine.execReadInputs dt tag s
  | .readLine dt tag line => Sys2Proof.Machine.execReadLine dt tag line s
  | .readCell dt tag cell => Sys2Proof.Machine.execReadCell dt tag cell s
  | .readLots dt tag => Sys2Proof.Machine.execReadLots dt tag s
  | .readLotHistory dt tag => Sys2Proof.Machine.execReadLotHistory dt tag s
  | .readDayHistory dt tag => Sys2Proof.Machine.execReadDayHistory dt tag s
  | .readPermit dt tag => Sys2Proof.Machine.execReadPermit dt tag s
  | .readBalance dt tag => Sys2Proof.Machine.execReadBalance dt tag s
  | .readCartridges dt tag => Sys2Proof.Machine.execReadCartridges dt tag s
  | .readSettings dt tag => Sys2Proof.Machine.execReadSettings dt tag s
  | .unknownKindRequest dt kind tag payload => Sys2Proof.Machine.execUnknownKindRequest dt kind tag payload s
  | .pulseEdge dt channel rising => Sys2Proof.Machine.execPulseEdge dt channel rising s
  | .blockTimeLimit dt channel => Sys2Proof.Machine.execBlockTimeLimit dt channel s
  | .channelStale dt channel => Sys2Proof.Machine.execChannelStale dt channel s
  | .analyzerFallingEdge dt input => Sys2Proof.Machine.execAnalyzerFallingEdge dt input s
  | .analyzerRisingEdge dt input => Sys2Proof.Machine.execAnalyzerRisingEdge dt input s
  | .analyzerSilence dt input => Sys2Proof.Machine.execAnalyzerSilence dt input s
  | .analyzerHoldExpired dt input => Sys2Proof.Machine.execAnalyzerHoldExpired dt input s
  | .switchPinChange dt switch covered => Sys2Proof.Machine.execSwitchPinChange dt switch covered s
  | .debounceExpired dt switch => Sys2Proof.Machine.execDebounceExpired dt switch s
  | .switchStartingLevels dt => Sys2Proof.Machine.execSwitchStartingLevels dt s
  | .cellPrimingTimeout dt cell => Sys2Proof.Machine.execCellPrimingTimeout dt cell s
  | .cellControlTick dt cell => Sys2Proof.Machine.execCellControlTick dt cell s
  | .cellPwmPeriodStart dt cell => Sys2Proof.Machine.execCellPwmPeriodStart dt cell s
  | .washCycleStart dt line => Sys2Proof.Machine.execWashCycleStart dt line s
  | .washStopTimeout dt line => Sys2Proof.Machine.execWashStopTimeout dt line s
  | .maxFillTimeout dt tank => Sys2Proof.Machine.execMaxFillTimeout dt tank s
  | .sumpBackupDelay dt => Sys2Proof.Machine.execSumpBackupDelay dt s
  | .settleTimerExpired dt tank => Sys2Proof.Machine.execSettleTimerExpired dt tank s
  | .sampleFlushEnd dt => Sys2Proof.Machine.execSampleFlushEnd dt s
  | .sampleWindowEnd dt => Sys2Proof.Machine.execSampleWindowEnd dt s
  | .permitCheckTimer dt => Sys2Proof.Machine.execPermitCheckTimer dt s
  | .clockSecond dt => Sys2Proof.Machine.execClockSecond dt s
  | .drainTimerExpired dt => Sys2Proof.Machine.execDrainTimerExpired dt s
  | .closingTimerExpired dt => Sys2Proof.Machine.execClosingTimerExpired dt s
  | .linkCharacter dt byte framingError => Sys2Proof.Machine.execLinkCharacter dt byte framingError s
  | .linkGapTimeout dt => Sys2Proof.Machine.execLinkGapTimeout dt s
  | .outboundFrameSent dt => Sys2Proof.Machine.execOutboundFrameSent dt s
  | .supplyFall dt level => Sys2Proof.Machine.execSupplyFall dt level s
  | .supplyRise dt level => Sys2Proof.Machine.execSupplyRise dt level s
  | .supplyRecovery dt => Sys2Proof.Machine.execSupplyRecovery dt s
  | .supplyBelowReset dt level => Sys2Proof.Machine.execSupplyBelowReset dt level s
  | .resetPin dt rateSel1 rateSel0 => Sys2Proof.Machine.execResetPin dt rateSel1 rateSel0 s
  | .powerOn dt level rateSel1 rateSel0 => Sys2Proof.Machine.execPowerOn dt level rateSel1 rateSel0 s
  | .selfTestEnd dt memoryGood storeReadable imageMatches => Sys2Proof.Machine.execSelfTestEnd dt memoryGood storeReadable imageMatches s
  | .imageWriteComplete dt => Sys2Proof.Machine.execImageWriteComplete dt s
  | .resetPinLow dt => Sys2Proof.Machine.execResetPinLow dt s
  | .permitMemoryFault dt permit digest => Sys2Proof.Machine.execPermitMemoryFault dt permit digest s
  | .restoreEnd dt => Sys2Proof.Machine.execRestoreEnd dt s

end Sys2Proof.Machine
end

