-- ==== Sys2Proof/WellFormed.lean ====
section
/-! DEFINITION. Which terms of `Instr` are commands of the part: a request's fields fit their places in its frame, and
an event's operands are ones its row can have. -/

namespace Sys2Proof

/-- Every field fits its width, one field for each width (R174). -/
def fieldsFit : List Nat → List Nat → Bool
  | [], [] => true
  | w :: ws, v :: vs => decide (v < 256 ^ w) && fieldsFit ws vs
  | [], _ :: _ => false
  | _ :: _, [] => false

/-- A kind is in the kind table. -/
def kindKnown (kind : Byte) : Bool :=
  kind.toNat = echoCode || (kindRow kind.toNat).isSome

/-- A request that a good frame can carry: its fields fit, and a kind said to be unknown is in no row. -/
def Request.fits : Request → Bool
  | .echo payload => payload.length ≤ payloadMost
  | .unknownKind kind => !kindKnown kind
  | .badLength kind => kind.toNat ≠ echoCode && kindKnown kind
  | r => fieldsFit r.widths r.values

/-- The time until the frame that a host row stands for completes, and its kind, tag and request. -/
def Instr.frame : Instr → Option (Micros × Byte × Byte × Request)
  | .setLine dt tag f => some (dt, 0x10, tag, .setLine f)
  | .setFilmType dt tag entry load => some (dt, 0x11, tag, .setFilmType entry load)
  | .setCell dt tag f => some (dt, 0x12, tag, .setCell f)
  | .setChannel dt tag f => some (dt, 0x13, tag, .setChannel f)
  | .setAnalyzer dt tag f => some (dt, 0x14, tag, .setAnalyzer f)
  | .setTank dt tag f => some (dt, 0x15, tag, .setTank f)
  | .setPlant dt tag f => some (dt, 0x16, tag, .setPlant f)
  | .setPermit dt tag f => some (dt, 0x17, tag, .setPermit f)
  | .setClock dt tag dayCount second => some (dt, 0x18, tag, .setClock dayCount second)
  | .setAlertMask dt tag enables => some (dt, 0x19, tag, .setAlertMask enables)
  | .setNoticeMask dt tag enables => some (dt, 0x1A, tag, .setNoticeMask enables)
  | .startCell dt tag cell => some (dt, 0x20, tag, .startCell cell)
  | .stopCell dt tag cell => some (dt, 0x21, tag, .stopCell cell)
  | .clearCellFault dt tag cell => some (dt, 0x22, tag, .clearCellFault cell)
  | .closeLot dt tag => some (dt, 0x23, tag, .closeLot)
  | .holdLot dt tag lot => some (dt, 0x24, tag, .holdLot lot)
  | .returnLot dt tag lot => some (dt, 0x25, tag, .returnLot lot)
  | .polishLot dt tag lot => some (dt, 0x26, tag, .polishLot lot)
  | .declareHauled dt tag lot => some (dt, 0x27, tag, .declareHauled lot)
  | .returnTank dt tag tank => some (dt, 0x28, tag, .returnTank tank)
  | .installCartridge dt tag serial capacity => some (dt, 0x29, tag, .installCartridge serial capacity)
  | .removeCartridge dt tag serial => some (dt, 0x2A, tag, .removeCartridge serial)
  | .setDischargeEnable dt tag enable => some (dt, 0x2B, tag, .setDischargeEnable enable)
  | .clearAlert dt tag kind inst => some (dt, 0x2C, tag, .clearAlert kind inst)
  | .resumeLink dt tag => some (dt, 0x2D, tag, .resumeLink)
  | .factoryReset dt tag => some (dt, 0x2E, tag, .factoryReset)
  | .echo dt tag payload => some (dt, 0x2F, tag, .echo payload)
  | .readStatus dt tag => some (dt, 0x40, tag, .readStatus)
  | .readInputs dt tag => some (dt, 0x41, tag, .readInputs)
  | .readLine dt tag line => some (dt, 0x42, tag, .readLine line)
  | .readCell dt tag cell => some (dt, 0x43, tag, .readCell cell)
  | .readLots dt tag => some (dt, 0x44, tag, .readLots)
  | .readLotHistory dt tag => some (dt, 0x45, tag, .readLotHistory)
  | .readDayHistory dt tag => some (dt, 0x46, tag, .readDayHistory)
  | .readPermit dt tag => some (dt, 0x47, tag, .readPermit)
  | .readBalance dt tag => some (dt, 0x48, tag, .readBalance)
  | .readCartridges dt tag => some (dt, 0x49, tag, .readCartridges)
  | .readSettings dt tag => some (dt, 0x4A, tag, .readSettings)
  | .unknownKindRequest dt kind tag _ => some (dt, kind, tag, .unknownKind kind)
  | .pulseEdge _ _ _ => none
  | .blockTimeLimit _ _ => none
  | .channelStale _ _ => none
  | .analyzerFallingEdge _ _ => none
  | .analyzerRisingEdge _ _ => none
  | .analyzerSilence _ _ => none
  | .analyzerHoldExpired _ _ => none
  | .switchPinChange _ _ _ => none
  | .debounceExpired _ _ => none
  | .switchStartingLevels _ => none
  | .cellPrimingTimeout _ _ => none
  | .cellControlTick _ _ => none
  | .cellPwmPeriodStart _ _ => none
  | .washCycleStart _ _ => none
  | .washStopTimeout _ _ => none
  | .maxFillTimeout _ _ => none
  | .sumpBackupDelay _ => none
  | .settleTimerExpired _ _ => none
  | .sampleFlushEnd _ => none
  | .sampleWindowEnd _ => none
  | .permitCheckTimer _ => none
  | .clockSecond _ => none
  | .drainTimerExpired _ => none
  | .closingTimerExpired _ => none
  | .linkCharacter _ _ _ => none
  | .linkGapTimeout _ => none
  | .outboundFrameSent _ => none
  | .supplyFall _ _ => none
  | .supplyRise _ _ => none
  | .supplyRecovery _ => none
  | .supplyBelowReset _ _ => none
  | .resetPin _ _ _ => none
  | .powerOn _ _ _ _ => none
  | .selfTestEnd _ _ _ _ => none
  | .imageWriteComplete _ => none
  | .resetPinLow _ => none
  | .permitMemoryFault _ _ _ => none
  | .restoreEnd _ => none

/-- The supply below which the part is held in reset, in hundredths of a volt (R187). -/
def levelLeast : Nat := 300

/-- A window's minutes fit their two bytes. -/
def Window.fits (w : Window) : Bool :=
  w.start < 65536 && w.stop < 65536

/-- A permit fits the 38 bytes that hold it (R109). -/
def Permit.fits (p : Permit) : Bool :=
  p.limit < 2 ^ 32 && p.cap < 2 ^ 32 && p.reserve < 2 ^ 32 && p.minDischarge < 2 ^ 32 && p.dayStart < 65536
    && p.window1.fits && p.window2.fits && p.window3.fits && p.window4.fits

/-- A command of the part. -/
def Instr.wellFormed (i : Instr) : Bool :=
  match i with
  | .unknownKindRequest _ kind _ payload => !kindKnown kind && payload.length ≤ payloadMost
  | .supplyFall _ level => levelLeast ≤ level
  | .supplyRise _ level => levelLeast ≤ level
  | .supplyBelowReset _ level => level < levelLeast
  | .powerOn _ level _ _ => levelLeast ≤ level
  | .permitMemoryFault _ permit _ => permit.fits
  | i => i.frame.all fun f => f.2.2.2.fits

end Sys2Proof
end

