-- ==== Sys2Proof/Safety.lean ====
section
/-! DEFINITION. The terms that claims are made in: when the link can answer a request at once, the state with a reply
queued, states alike but for the link, frames received character by character, and the properties that every step
keeps. -/

namespace Sys2Proof.Machine

open Sys2Proof

/-! ### Requests taken at once -/

/-- The part runs, and a request that completes now is taken at once: FAULTED is clear, no frame waits in the Inbound
Queue, no place is reserved, and `places` places of the Outbound Queue are free (R178). -/
structure LinkReady (places : Nat) (s : State) : Prop where
  running : s.phase = .running
  unfaulted : s.link.faulted = false
  inbound : s.link.inbound = []
  reserved : s.link.reserved = 0
  room : s.link.outbound.length + places ≤ 8

/-- The state with the reply to a request at the tail of the Outbound Queue, in its segments (R180, R181). -/
def withReply (r : Request) (tag : Byte) (reply : Reply) (s : State) : State :=
  let count := reply.segments (placesOf r.kind)
  { s with link := { s.link with
      outbound := s.link.outbound ++
        (List.range count).map fun i => .reply (replyKind r.kind) tag reply (i + 1) count } }

/-- The state with an OK reply and its body. -/
def withBody (r : Request) (tag : Byte) (body : ReplyBody) (s : State) : State :=
  withReply r tag { status := .ok, body := body } s

/-- The state with a reply of one segment and no body. -/
def withStatus (r : Request) (tag : Byte) (status : Status) (s : State) : State :=
  withReply r tag { status := status, body := .empty } s

/-- Two states are the same but for the frames and notices that wait to be sent, and the count of free choices. -/
def AlikeButFrames (s t : State) : Prop :=
  { s with
    link := { s.link with outbound := t.link.outbound, notices := t.link.notices }
    choices := t.choices } = t

/-- The reply of one segment to a request stands in the Outbound Queue. -/
def HasReply (r : Request) (tag : Byte) (status : Status) (body : ReplyBody) (s : State) : Prop :=
  .reply (replyKind r.kind) tag { status := status, body := body } 1 1 ∈ s.link.outbound

/-- The command, the completed frame of a request, answers OK with a body in one segment, behind the frames that were
waiting, and leaves `expected` but for frames and notices. -/
def Answers (i : Instr) (r : Request) (tag : Byte) (body : ReplyBody) (expected s : State) : Prop :=
  ∃ t, exec i s = .next t ∧ AlikeButFrames expected t ∧ s.link.outbound <+: t.link.outbound ∧
    HasReply r tag .ok body t

/-- Characters are received one after another, `gap` microseconds apart, none with a framing error. -/
def receive (gap : Micros) : List Byte → State → Out
  | [], s => .next s
  | b :: rest, s =>
    match exec (.linkCharacter gap b false) s with
    | .next t => receive gap rest t
    | .fault f => .fault f
    | .refused r => .refused r

/-! ### Pulses counted in a block -/

/-- An edge of channel `c` is accepted now and counted in an open block that it does not close: the channel is MOVING
(R3, R4). -/
structure MidBlock (c : Fin 16) (t : State) : Prop where
  awake : t.awake = true
  moving : t.channels[c].moving = true
  spaced : ∀ e, t.channels[c].lastEdge = some e → e + 25 ≤ t.now
  opened : ∃ b, t.channels[c].block = some b ∧ b.count + 1 < t.kept.channels[c].blockSize

/-- The channel after that edge (R3, R4). -/
def counted (c : Fin 16) (t : State) : State :=
  t.modChannel c fun ch =>
    { ch with
      count := (ch.count + 1) % 2 ^ 32
      lastEdge := some t.now
      stale := some { start := t.now, len := t.kept.channels[c].stale * sec }
      block := ch.block.map fun b => { b with count := b.count + 1, last := t.now } }

/-! ### What every step keeps -/

/-- The ALERT output agrees with the flags and the mask (R165); a part held in reset has every flag clear. -/
def AlertAgrees (s : State) : Prop :=
  s.alertActive = allFlags.any fun f => s.latched f && s.kept.alertMask[f.kind]

/-- The queues of the Plant Link keep their bounds (R177, R182): reserved places are counted as filled. -/
def LinkBounded (s : State) : Prop :=
  s.link.outbound.length + s.link.reserved ≤ 8 ∧ s.link.inbound.length ≤ 4

/-- A cell that is not in a driven state, and every cell in a supply hold, applies no duty, stages none, and takes no
control ticks (R49, R54). -/
def CellsAtRest (s : State) : Prop :=
  ∀ c : Fin 4, (s.cells[c].state.driven = false ∨ s.cells[c].hold = true) →
    s.cells[c].appliedDuty = 0 ∧ s.cells[c].staged = none ∧ s.cells[c].control = none

/-- A property of the lasting state holds of the working copy, of the stored image and of the one being written. -/
def Throughout (P : Kept → Prop) (s : State) : Prop :=
  P s.kept ∧ (∀ i, s.store.image = some i → P i.content) ∧ ∀ w, s.store.inFlight = some w → P w.content

/-- Every residue of the Silver Accounts and of the day total lies in its range (R22, R118). -/
def Kept.residuesInRange (k : Kept) : Prop :=
  (∀ l : Fin 4, k.accounts.filmIn[l].residue < 1000) ∧
  (∀ c : Fin 4, k.accounts.plated[c].micro < 1000 ∧ k.accounts.plated[c].residue < 100000000) ∧
  k.accounts.discharged.residue < 1000000 ∧ k.accounts.hauled.residue < 1000000 ∧ k.day.total.residue < 1000000

/-- The train holds at most 3 cartridges with distinct serials (R151). -/
def Kept.trainBounded (k : Kept) : Prop :=
  k.train.length ≤ 3 ∧ (k.train.map (·.serial)).Nodup

/-- At most one tank is FILLING (R79). -/
def Kept.oneFilling (k : Kept) : Prop :=
  ∀ t u : Fin 3, k.tanks[t].state = .filling → k.tanks[u].state = .filling → t = u

/-- A discharge in progress stands under the release conditions 1 to 6 (R130, R137); condition 1 here is that the permit
is usable. -/
def DischargeGuarded (s : State) : Prop :=
  s.path.state = .discharge →
    s.usablePermit.isSome = true ∧ s.clock.running = true ∧ s.permit.windowOpen = true ∧ s.permit.enable = true ∧
      s.startUp.selfTestPassed = true ∧ s.kept.day.unknown = false

/-- The outputs that a supply hold keeps off (R58, R74, R101, R147). -/
def OutputsOff (s : State) : Prop :=
  (∀ c : Fin 4, s.driveHigh c = false) ∧ (∀ l : Fin 4, s.washValveOpen l = false) ∧ s.sump.pump = false ∧
  (∀ t : Fin 3, s.inletOn t = false) ∧ s.samplePumpOn = false ∧ (∀ t : Fin 3, s.sampleSelOn t = false) ∧
  s.outletOutputs.pump = false

end Sys2Proof.Machine
end

