-- ==== Sys2Proof/Certificates/Slice0/Obligations.lean ====
section
/-! DEFINITION. The statements for the provers. Each says in its docstring which rule of spec/ it formalises, or that it
is derived. A statement that a command completes is an equation with its next state, or names what that state holds. -/

open Sys2Proof Sys2Proof.Machine

/-! ### The queue, reset, and what every step keeps -/

/-- A step takes the command at the front of the queue and runs it on the state with the queue's rest; an empty queue
idles (the model's choice, assumption 2). -/
def Obligations.StepRunsFront : Prop :=
  (∀ (c : Instr) (rest : List Instr) (s : State),
    step { s with pending := c :: rest } = exec c { s with pending := rest }) ∧
  ∀ s : State, s.pending = [] → step s = .next s

/-- Reset leaves the start-up columns of the state tables: clock UNSET at second 0 of day count 1, path IDLE, flags
clear, ALERT inactive, queues empty, receiver in HUNT, every channel STILL, every cell OFF; and the invariants below
hold there. -/
def Obligations.ResetState : Prop :=
  (State.reset.clock = { running := false, second := 0, dayCount := 1 } ∧
   State.reset.path.state = .idle ∧ State.reset.path.stopCause = none ∧
   (∀ f : Flag, State.reset.latched f = false ∧ State.reset.flags[f.index].time = none) ∧
   State.reset.alertActive = false ∧
   State.reset.link.inbound = [] ∧ State.reset.link.outbound = [] ∧ State.reset.link.notices = [] ∧
   State.reset.link.receiver = { state := .hunt, bytes := [], gap := none } ∧ State.reset.link.faulted = false ∧
   (∀ c : Fin 16, State.reset.channels[c].moving = false ∧ State.reset.channels[c].count = 0) ∧
   (∀ c : Fin 4, State.reset.cells[c].state = .off ∧ State.reset.cells[c].appliedDuty = 0) ∧
   State.reset.permit.enable = false ∧ State.reset.pending = []) ∧
  (AlertAgrees State.reset ∧ LinkBounded State.reset ∧ CellsAtRest State.reset ∧
   Throughout Kept.residuesInRange State.reset ∧ Throughout Kept.trainBounded State.reset ∧
   Throughout Kept.oneFilling State.reset)

/-- R165: the ALERT output is active exactly while a latched flag belongs to an enabled kind, after every step. -/
def Obligations.AlertAgreesKept : Prop :=
  ∀ s t : State, AlertAgrees s → step s = .next t → AlertAgrees t

/-- The Outbound Queue and its reserved places never exceed 8, nor the Inbound Queue 4 (R177, R178, R182). -/
def Obligations.LinkBoundedKept : Prop :=
  ∀ s t : State, LinkBounded s → step s = .next t → LinkBounded t

/-- A cell that is OFF, PRIMING or FAULT, and every cell in a supply hold, applies no duty, stages none and has no
control timer, after every step (R49, R54). -/
def Obligations.CellsAtRestKept : Prop :=
  ∀ s t : State, CellsAtRest s → step s = .next t → CellsAtRest t

/-- Every residue stays in its range, in the working copy and in the images (R22, R118). -/
def Obligations.ResiduesKept : Prop :=
  ∀ s t : State, Throughout Kept.residuesInRange s → step s = .next t → Throughout Kept.residuesInRange t

/-- The train keeps at most 3 cartridges with distinct serials, in the working copy and in the images (R151). -/
def Obligations.TrainBoundedKept : Prop :=
  ∀ s t : State, Throughout Kept.trainBounded s → step s = .next t → Throughout Kept.trainBounded t

/-- At most one tank is FILLING, in the working copy and in the images (R79). -/
def Obligations.OneFillingKept : Prop :=
  ∀ s t : State, Throughout Kept.oneFilling s → step s = .next t → Throughout Kept.oneFilling t

/-! ### Frames and their decoding -/

/-- Every request that a frame can carry is read back from its kind and payload, and a known kind with a payload of
another length is BAD_LENGTH. -/
def Obligations.RequestRoundTrip : Prop :=
  (∀ r : Request, r.fits = true → (∀ k, r ≠ .badLength k) → decodeRequest r.kind r.payload = r) ∧
  ∀ (kind : Byte) (row : KindRow) (payload : List Byte),
    kindRow kind.toNat = some row → payload.length ≠ row.widths.sum → decodeRequest kind payload = .badLength kind

/-- The characters of a well-formed frame, met in HUNT, offer its request to the Inbound Queue, whatever its kind, tag
and payload (R174, R175, R177). For a gap above 50,000 µs this rests on assumption 1, by which the gap timer acts only
when its own command comes; up to 50,000 µs it is the rules'. -/
def Obligations.FrameReceived : Prop :=
  ∀ (gap : Micros) (kind tag : Byte) (payload : List Byte) (s : State),
    payload.length ≤ 248 → s.awake = true → s.link.receiver = Receiver.hunting →
    receive gap (frameBytes kind tag payload) s =
      .next (offerFrame kind tag (decodeRequest kind payload) (s.after ((payload.length + 6) * gap)))

/-- The table of R175 for the characters that neither end a frame nor damage it, in HUNT, LENGTH and BODY and at the
first byte of CHECK. -/
def Obligations.CharacterTaken : Prop :=
  ∀ (dt : Micros) (b : Byte) (s : State), s.awake = true →
    (s.link.receiver.state = .hunt → b = 0xA5 →
      exec (.linkCharacter dt b false) s = .next { s.after dt with link := { s.link with
        receiver :=
          { state := .length, bytes := s.link.receiver.bytes ++ [b]
            gap := some { start := s.now + dt, len := 50000 } } } }) ∧
    (s.link.receiver.state = .hunt → ∀ bad : Bool, b ≠ 0xA5 ∨ bad = true →
      exec (.linkCharacter dt b bad) s =
        .next { s.after dt with link := { s.link with huntDiscards := (s.link.huntDiscards + 1) % 2 ^ 32 } }) ∧
    (s.link.receiver.state = .length → 2 ≤ b.toNat → b.toNat ≤ 250 →
      exec (.linkCharacter dt b false) s = .next { s.after dt with link := { s.link with
        receiver :=
          { state := .body, bytes := s.link.receiver.bytes ++ [b]
            gap := some { start := s.now + dt, len := 50000 } } } }) ∧
    (s.link.receiver.state = .body →
      exec (.linkCharacter dt b false) s = .next { s.after dt with link := { s.link with
        receiver :=
          { state := if s.link.receiver.bytes.length + 1 = (s.link.receiver.bytes.getD 1 0).toNat + 2 then .check
              else .body
            bytes := s.link.receiver.bytes ++ [b]
            gap := some { start := s.now + dt, len := 50000 } } } }) ∧
    (s.link.receiver.state = .check →
      s.link.receiver.bytes.length + 1 < (s.link.receiver.bytes.getD 1 0).toNat + 4 →
      exec (.linkCharacter dt b false) s = .next { s.after dt with link := { s.link with
        receiver :=
          { state := .check, bytes := s.link.receiver.bytes ++ [b]
            gap := some { start := s.now + dt, len := 50000 } } } })

/-- R176 for its four causes, a framing error, a bad length byte, a gap, and a complete frame whose check does not
match: the damaged frame is counted, the record is written or added to, FAULTED is set, LINK_FAULT latches, and the
receiver hunts; no frame is offered. A gap timer that has passed 50 ms, and the last character of a frame with a wrong
check, damage the frame in reception (R175). A span is over when the time passed reaches it (assumption 22). -/
def Obligations.FrameDamaged : Prop :=
  let wrongCheck (b : Byte) (s : State) : Prop :=
    let bytes := s.link.receiver.bytes ++ [b]
    let n := (bytes.getD 1 0).toNat
    s.link.receiver.state = .check ∧ bytes.length = n + 4 ∧
      bytes.drop (n + 2) ≠ checkBytes (crc16 ((bytes.drop 1).take (n + 1)))
  (∀ (dt : Micros) (b : Byte) (s t : State) (cause : DamageCause) (bytes : Nat),
     s.awake = true →
     ((s.link.receiver.state ≠ .hunt ∧ cause = .framing ∧ bytes = s.link.receiver.bytes.length + 1 ∧
         exec (.linkCharacter dt b true) s = .next t) ∨
       (s.link.receiver.state = .length ∧ (b.toNat < 2 ∨ 250 < b.toNat) ∧ cause = .badLengthField ∧
         bytes = s.link.receiver.bytes.length + 1 ∧ exec (.linkCharacter dt b false) s = .next t) ∨
       (wrongCheck b s ∧ cause = .badCheck ∧ bytes = s.link.receiver.bytes.length + 1 ∧
         exec (.linkCharacter dt b false) s = .next t) ∨
       (timerDue s.link.receiver.gap (s.now + dt) = true ∧ cause = .gap ∧ bytes = s.link.receiver.bytes.length ∧
         exec (.linkGapTimeout dt) s = .next t)) →
     t.link.damagedFrames = (s.link.damagedFrames + 1) % 2 ^ 32 ∧ t.link.faulted = true ∧
     t.link.receiver = Receiver.hunting ∧ t.link.inbound = s.link.inbound ∧
     (s.link.faulted = false →
       t.link.fault = some { cause := cause, bytes := bytes, tag := s.link.receiver.bytes[3]?, damaged := 1 }) ∧
     (∀ r : FaultRecord, s.link.faulted = true → s.link.fault = some r →
       t.link.fault = some { r with damaged := min (r.damaged + 1) 255 }) ∧
     t.latched .linkFault = true ∧
     { s.after dt with link := t.link, flags := t.flags, alertActive := t.alertActive } = t) ∧
  (∀ (dt : Micros) (s : State), s.awake = true → s.link.faulted = false →
     let damages (i : Instr) (cause : DamageCause) (bytes : Nat) : Prop :=
       ∃ t, exec i s = .next t ∧ t.link.faulted = true ∧ t.link.receiver = Receiver.hunting ∧
         t.link.fault = some { cause := cause, bytes := bytes, tag := s.link.receiver.bytes[3]?, damaged := 1 }
     (timerDue s.link.receiver.gap (s.now + dt) = true →
       damages (.linkGapTimeout dt) .gap s.link.receiver.bytes.length) ∧
     (∀ b : Byte, wrongCheck b s →
       damages (.linkCharacter dt b false) .badCheck (s.link.receiver.bytes.length + 1)))

/-- R169, R177, R178 and R182: the oldest frame leaves the Outbound Queue and, with no request waiting, the head pending
notice takes its place. A good frame that finds the Inbound Queue full is discarded, with an OVERRUN reply when a place
is free. A request whose reply does not find its places waits at the head of the Inbound Queue, and those behind it wait
with it; a place that frees is then reserved for it, or goes to the head pending notice, either first where both claim
it (assumption 7). When its places are there it is taken, served and answered. -/
def Obligations.QueuesServed : Prop :=
  (∀ (dt : Micros) (f : OutFrame) (rest : List OutFrame) (s : State),
     s.awake = true → s.link.outbound = f :: rest → s.link.inbound = [] →
     s.link.reserved + s.link.outbound.length ≤ 8 →
     (s.link.notices = [] →
       exec (.outboundFrameSent dt) s = .next { s.after dt with link := { s.link with outbound := rest } }) ∧
     (∀ (n : Notice) (ns : List Notice), s.link.notices = n :: ns →
       exec (.outboundFrameSent dt) s =
         .next { s.after dt with link := { s.link with outbound := rest ++ [.notice n], notices := ns } })) ∧
  (∀ (dt : Micros) (tag : Byte) (r : Request) (s : State),
     s.awake = true → 4 ≤ s.link.inbound.length →
     (s.link.outbound.length + s.link.reserved < 8 →
       hostRequest dt r.kind tag r s = { s.after dt with link := { s.link with
         outbound := s.link.outbound ++ [.reply (replyKind r.kind) tag { status := .overrun, body := .empty } 1 1]
         overrunReplies := (s.link.overrunReplies + 1) % 2 ^ 32 } }) ∧
     (8 ≤ s.link.outbound.length + s.link.reserved →
       hostRequest dt r.kind tag r s =
         { s.after dt with link := { s.link with silentDiscards := (s.link.silentDiscards + 1) % 2 ^ 32 } })) ∧
  (let wants (f : InFrame) : Nat := if f.faulted = true ∧ f.kind ≠ 0x2D then 1 else placesOf f.kind
   (∀ (dt : Micros) (kind tag : Byte) (r : Request) (s : State) (h : InFrame),
     s.phase = .running → s.link.inbound.length < 4 → s.link.reserved + s.link.outbound.length ≤ 8 →
     let queue := s.link.inbound ++ [{ kind := kind, tag := tag, request := r, faulted := s.link.faulted }]
     queue.head? = some h → 8 < s.link.outbound.length + wants h →
     hostRequest dt kind tag r s = { s.after dt with link := { s.link with inbound := queue } }) ∧
   ∀ (dt : Micros) (g : OutFrame) (rest : List OutFrame) (f : InFrame) (behind : List InFrame) (s : State),
     s.phase = .running → s.link.outbound = g :: rest → s.link.inbound = f :: behind →
     s.link.reserved + s.link.outbound.length ≤ 8 →
     let x := s.after dt
     let reserved : Link := { s.link with outbound := rest, reserved := s.link.reserved + 1 }
     let taken : State := { x with link := { s.link with outbound := rest, inbound := [], reserved := 0 } }
     (8 < rest.length + wants f → s.link.notices = [] →
       exec (.outboundFrameSent dt) s = .next { x with link := reserved }) ∧
     (∀ (n : Notice) (ns : List Notice), 8 < rest.length + wants f → s.link.notices = n :: ns →
       exec (.outboundFrameSent dt) s = .next { x with choices := s.choices + 1, link := reserved } ∨
       exec (.outboundFrameSent dt) s = .next { x with
         choices := s.choices + 1, link := { s.link with outbound := rest ++ [.notice n], notices := ns } }) ∧
     (rest.length + wants f ≤ 8 → s.link.notices = [] → behind = [] →
       let served := serve f { taken with link := { taken.link with reserved := wants f } }
       (∃ t, exec (.outboundFrameSent dt) s = .next t ∧ t.link.inbound = [] ∧ rest <+: t.link.outbound ∧
         AlikeButFrames { served.2 with link := { served.2.link with reserved := 0 } } t ∧
         ∀ frame ∈ replyFrames f served.1, frame ∈ t.link.outbound) ∧
       (f.faulted = true → f.kind ≠ 0x2D → f.request.kind = f.kind →
         exec (.outboundFrameSent dt) s = .next (withStatus f.request f.tag .held taken)) ∧
       ∀ payload : List Byte, f.faulted = false → f.kind = 0x2F → f.request = .echo payload →
         exec (.outboundFrameSent dt) s = .next (withBody f.request f.tag (.echoed payload) taken)))

/-- R183: RESUME LINK answers the record and the counts, and ends the FAULTED hold, with FAULTED set or clear. -/
def Obligations.ResumeLink : Prop :=
  ∀ (dt : Micros) (tag : Byte) (s : State),
    s.phase = .running → s.link.inbound = [] → s.link.reserved = 0 → s.link.outbound.length < 8 →
    exec (.resumeLink dt tag) s =
      .next (withBody .resumeLink tag
        (.linkResumed s.link.faulted s.link.fault s.link.huntDiscards s.link.damagedFrames s.link.overrunReplies
          s.link.silentDiscards 0)
        { s.after dt with link := { s.link with faulted := false, fault := none } })

/-! ### Requests judged before their entries (R177 to R179) -/

/-- Every host row is the completion of its request's frame, its own dt after the command before it. -/
def Obligations.HostRowsAreFrames : Prop :=
  ∀ (i : Instr) (dt : Micros) (kind tag : Byte) (r : Request) (s : State), i.frame = some (dt, kind, tag, r) →
    i.wellFormed = true → exec i s = .next (hostRequest dt kind tag r s) ∧ r.kind = kind

/-- R179, steps 1 to 4: a frame that completes while FAULTED is set, of another kind than RESUME LINK, is answered
HELD; a kind that is not in the kind table UNKNOWN_KIND; a payload of another length than its kind's BAD_LENGTH, also a
RESUME LINK under FAULTED; and in a supply hold five requests SUPPLY_LOW, whatever their fields. None of them is
executed. That a host frame of kind 0x60, which the kind table gives to the part's notices, is UNKNOWN_KIND too is the
model's choice (assumption 35). -/
def Obligations.JudgedBeforeEntry : Prop :=
  (∀ (dt : Micros) (tag : Byte) (r : Request) (s : State),
     r.kind ≠ 0x2D → s.phase = .running → s.link.faulted = true → s.link.inbound = [] → s.link.reserved = 0 →
     s.link.outbound.length < 8 →
     hostRequest dt r.kind tag r s = withStatus r tag .held (s.after dt)) ∧
  (∀ (dt : Micros) (kind tag : Byte) (payload : List Byte) (s : State),
     kindKnown kind = false → LinkReady 1 s →
     exec (.unknownKindRequest dt kind tag payload) s =
       .next (withStatus (.unknownKind kind) tag .unknownKind (s.after dt))) ∧
  (∀ (dt : Micros) (kind tag : Byte) (row : KindRow) (payload : List Byte) (s : State),
     kindRow kind.toNat = some row → payload.length ≠ row.widths.sum →
     (LinkReady 5 s → s.link.notices = [] →
       hostRequest dt kind tag (decodeRequest kind payload) s =
         withStatus (.badLength kind) tag .badLength (s.after dt)) ∧
     (kind = 0x2D → s.phase = .running → s.link.faulted = true → s.link.inbound = [] → s.link.reserved = 0 →
       s.link.outbound.length < 8 →
       hostRequest dt kind tag (decodeRequest kind payload) s =
         withStatus (.badLength kind) tag .badLength (s.after dt))) ∧
  (∀ (dt : Micros) (tag : Byte) (n : Nat) (s : State), LinkReady 1 s → s.supply.hold = true →
     exec (.startCell dt tag n) s = .next (withStatus (.startCell n) tag .supplyLow (s.after dt)) ∧
     exec (.polishLot dt tag n) s = .next (withStatus (.polishLot n) tag .supplyLow (s.after dt)) ∧
     exec (.returnLot dt tag n) s = .next (withStatus (.returnLot n) tag .supplyLow (s.after dt)) ∧
     exec (.closeLot dt tag) s = .next (withStatus .closeLot tag .supplyLow (s.after dt)) ∧
     exec (.setDischargeEnable dt tag 1) s =
       .next (withStatus (.setDischargeEnable 1) tag .supplyLow (s.after dt)))

/-- Every field outside its range draws OUT_OF_RANGE and changes nothing but the reply, in the settings and in the
commands and reads that name an instance, a lot, a cartridge, an enable or an alert; lot numbers run from 1 to 65,535, and
0 names no lot (R94). The enables of the two masks stand in AlertsSetAndCleared. Where a request's entry names no range
check, this is the model's reading of R1 and R180 (assumption 24). -/
def Obligations.OutOfRange : Prop :=
  ∀ (dt : Micros) (tag : Byte) (s : State), LinkReady 1 s →
    let refused (i : Instr) (r : Request) : Prop := exec i s = .next (withStatus r tag .outOfRange (s.after dt))
    let badWindow (w : WindowFields) : Prop := 1 < w.enabled ∨ 1439 < w.start ∨ 1439 < w.stop
    (∀ f : LineFields,
      f.line < 1 ∨ 4 < f.line ∨ 1 < f.enabled ∨ 16 < f.filmType ∨ 10000000 < f.fixerVolume ∨ 20000 < f.washRatio ∨
        f.ratedFlow < 1000 ∨ 500000 < f.ratedFlow ∨ f.ratedFlow < f.trickle ∨ 3600 < f.stopTimeout ∨ f.washCycle < 2 ∨
        60 < f.washCycle →
      refused (.setLine dt tag f) (.setLine f)) ∧
    (∀ entry load : Nat, entry < 1 ∨ 16 < entry ∨ 10000 < load →
      refused (.setFilmType dt tag entry load) (.setFilmType entry load)) ∧
    (∀ f : CellFields,
      f.cell < 1 ∨ 4 < f.cell ∨ 4 < f.line ∨ f.iMax < 1000 ∨ 200000 < f.iMax ∨ f.iFs < f.iMax ∨ 250000 < f.iFs ∨
        10000 < f.kc ∨ f.klim < 1 ∨ 10000 < f.klim ∨ 20000 < f.cSet ∨ f.eff < 50 ∨ 100 < f.eff ∨ f.iMax < f.standby ∨
        f.pwmPeriod < 1 ∨ 100 < f.pwmPeriod ∨ f.interval < 1 ∨ 60 < f.interval ∨ 1 < f.autostart →
      refused (.setCell dt tag f) (.setCell f)) ∧
    (∀ f : ChannelFields,
      f.channel < 1 ∨ 16 < f.channel ∨ 14 < f.role ∨ 1 < f.edge ∨ f.scale < 1 ∨ 65535 < f.scale ∨ f.blockSize < 1 ∨
        1023 < f.blockSize ∨ f.stale < 1 ∨ 60 < f.stale →
      refused (.setChannel dt tag f) (.setChannel f)) ∧
    (∀ f : AnalyzerFields, f.input < 1 ∨ 5 < f.input ∨ f.span < 1000 ∨ 20000000 < f.span ∨ 600 < f.hold →
      refused (.setAnalyzer dt tag f) (.setAnalyzer f)) ∧
    (∀ f : TankFields,
      f.tank < 1 ∨ 3 < f.tank ∨ f.capacity < 100000 ∨ 100000000 < f.capacity ∨ 7200 < f.settle ∨ 48 < f.maxFill ∨
        f.drainLimit < 60 ∨ 14400 < f.drainLimit →
      refused (.setTank dt tag f) (.setTank f)) ∧
    (∀ f : PlantSettings,
      f.debounce < 10 ∨ 2000 < f.debounce ∨ f.backupDelay < 5 ∨ 600 < f.backupDelay ∨ f.flush < 10 ∨ 600 < f.flush ∨
        f.window < 10 ∨ 600 < f.window ∨ f.closing < 1 ∨ 30 < f.closing ∨ f.turnovers < 1 ∨ 5 < f.turnovers ∨
        f.maxPasses < 1 ∨ 5 < f.maxPasses ∨ f.exhaustPercent < 50 ∨ 100 < f.exhaustPercent ∨ 3 < f.threshold →
      refused (.setPlant dt tag f) (.setPlant f)) ∧
    (∀ f : PermitFields,
      f.limit < 1 ∨ 100000 < f.limit ∨ 100000000 < f.cap ∨ f.cap < f.reserve ∨ 100000000 < f.minDischarge ∨
        1439 < f.dayStart ∨ badWindow f.window1 ∨ badWindow f.window2 ∨ badWindow f.window3 ∨ badWindow f.window4 →
      refused (.setPermit dt tag f) (.setPermit f)) ∧
    (∀ dayCount second : Nat, dayCount < 1 ∨ 65535 < dayCount ∨ 86399 < second →
      refused (.setClock dt tag dayCount second) (.setClock dayCount second)) ∧
    (∀ n : Nat, n < 1 ∨ 4 < n →
      (s.supply.hold = false → refused (.startCell dt tag n) (.startCell n)) ∧
      refused (.stopCell dt tag n) (.stopCell n) ∧ refused (.clearCellFault dt tag n) (.clearCellFault n) ∧
      refused (.readCell dt tag n) (.readCell n) ∧ refused (.readLine dt tag n) (.readLine n)) ∧
    (∀ n : Nat, n < 1 ∨ 65535 < n →
      (s.supply.hold = false →
        refused (.returnLot dt tag n) (.returnLot n) ∧ refused (.polishLot dt tag n) (.polishLot n)) ∧
      refused (.holdLot dt tag n) (.holdLot n) ∧ refused (.declareHauled dt tag n) (.declareHauled n) ∧
      refused (.removeCartridge dt tag n) (.removeCartridge n)) ∧
    (∀ n : Nat, n < 1 ∨ 3 < n → refused (.returnTank dt tag n) (.returnTank n)) ∧
    (∀ serial capacity : Nat, serial < 1 ∨ 65535 < serial ∨ capacity < 1 ∨ 10000000 < capacity →
      refused (.installCartridge dt tag serial capacity) (.installCartridge serial capacity)) ∧
    (∀ n : Nat, 1 < n → refused (.setDischargeEnable dt tag n) (.setDischargeEnable n)) ∧
    (∀ kind inst : Nat,
      16 < kind ∨ (kind = 0 ∧ inst ≠ 0) ∨ ((kind = 2 ∨ kind = 3) ∧ 4 < inst) ∨ (kind = 4 ∧ 5 < inst) ∨
        (kind = 5 ∧ 3 < inst) ∨ ((kind = 1 ∨ 6 ≤ kind) ∧ 1 < inst) →
      refused (.clearAlert dt tag kind inst) (.clearAlert kind inst))

/-- The reads and ECHO answer their figures and change nothing else (R19, R32 to R34, R61, R75, R104, R105, R122, R124,
R159, R172, R184, R185). With no notice pending, the places that a reply leaves are free at once. Seconds left are
rounded down (assumption 26). The balance is spelled out by R32 and R33: each line term is the reading used times the
fixer volume in whole mg, each lot term the lot's concentration times its current volume, each rounded down on its own,
and the unaccounted figure is the FILM_IN sum less everything found. -/
def Obligations.ReadsChangeNothing : Prop :=
  ∀ (dt : Micros) (tag : Byte) (s : State), LinkReady 5 s → s.link.notices = [] →
    (∀ payload : List Byte,
      exec (.echo dt tag payload) s = .next (withBody (.echo payload) tag (.echoed payload) (s.after dt))) ∧
    exec (.readStatus dt tag) s =
      .next (withBody .readStatus tag (.status (statusFigures (s.after dt))) (s.after dt)) ∧
    exec (.readInputs dt tag) s =
      .next (withBody .readInputs tag (.inputs (inputFigures (s.after dt))) (s.after dt)) ∧
    (∀ l : Fin 4, exec (.readLine dt tag (l.val + 1)) s =
      .next (withBody (.readLine (l.val + 1)) tag (.line (lineFigures (s.after dt) l)) (s.after dt))) ∧
    (∀ c : Fin 4, exec (.readCell dt tag (c.val + 1)) s =
      .next (withBody (.readCell (c.val + 1)) tag (.cell (cellFigures (s.after dt) c)) (s.after dt))) ∧
    exec (.readLots dt tag) s = .next (withBody .readLots tag (.lots (lotsFigures (s.after dt))) (s.after dt)) ∧
    exec (.readLotHistory dt tag) s =
      .next (withBody .readLotHistory tag (.lotHistory s.kept.history) (s.after dt)) ∧
    exec (.readDayHistory dt tag) s =
      .next (withBody .readDayHistory tag
        (.dayHistory
          { history := s.kept.dayHistory, day := s.kept.day
            remaining := s.usablePermit.map fun p => (p.cap : Int) - (s.kept.day.total.mg : Int) }) (s.after dt)) ∧
    (∃ f : PermitFigures, exec (.readPermit dt tag) s = .next (withBody .readPermit tag (.permit f) (s.after dt)) ∧
      f.active = s.kept.permit.active ∧ f.digest = s.kept.permit.digest ∧ f.corrupt = s.kept.permit.corrupt ∧
      f.next = s.kept.permit.next ∧ f.windowOpen = s.permit.windowOpen ∧ f.enable = s.permit.enable ∧
      f.clock = s.clock ∧ f.checkLeft = secondsLeft s.permit.check (s.now + dt) ∧
      (s.usablePermit = none → f.windows = List.replicate 4 false) ∧
      ∀ p : Permit, s.usablePermit = some p →
        f.windows = [p.window1, p.window2, p.window3, p.window4].map fun w =>
          s.clock.running && windowOpenAt w (s.clock.second / 60)) ∧
    (∃ f : BalanceFigures, exec (.readBalance dt tag) s = .next (withBody .readBalance tag (.balance f) (s.after dt)) ∧
      let a := s.kept.accounts
      let used (l : Fin 4) : Nat × ReadingMark :=
        let k := s.analyzers[l.val]
        if k.state = .valid then (k.published.getD 0, .valid)
        else match k.held with
          | some v => (v, .held)
          | none => (0, .unavailable)
      let line (l : Fin 4) : LineTerm :=
        { reading := (used l).1, mark := (used l).2, fixerVolume := s.kept.lines[l].fixerVolume
          term := (used l).1 * s.kept.lines[l].fixerVolume / 1000000 }
      let silver (l : Lot) : Nat := match l.concentration with
        | none => 0
        | some c => c * l.current / 1000000
      let lots := ([0, 1, 2] : List (Fin 3)).filterMap s.lotIn
      f.filmIn = [a.filmIn[0].mg, a.filmIn[1].mg, a.filmIn[2].mg, a.filmIn[3].mg] ∧
      f.plated = [a.plated[0].mg, a.plated[1].mg, a.plated[2].mg, a.plated[3].mg] ∧
      f.cartridgeLoaded = a.cartridgeLoaded ∧ f.cartridgeRemoved = a.cartridgeRemoved ∧
      f.discharged = a.discharged.mg ∧ f.hauled = a.hauled.mg ∧
      f.lines = [line 0, line 1, line 2, line 3] ∧
      f.fixerInventory = (line 0).term + (line 1).term + (line 2).term + (line 3).term ∧
      f.lots = lots.map (fun l =>
        { number := l.number, concentration := l.concentration, current := l.current, term := silver l }) ∧
      f.lotContents = (lots.map silver).sum ∧
      f.unaccounted =
        ((a.filmIn[0].mg + a.filmIn[1].mg + a.filmIn[2].mg + a.filmIn[3].mg : Nat) : Int)
          - ((a.plated[0].mg + a.plated[1].mg + a.plated[2].mg + a.plated[3].mg : Nat) : Int)
          - (f.fixerInventory : Int) - (f.lotContents : Int) - (a.cartridgeLoaded : Int) - (a.cartridgeRemoved : Int)
          - (a.discharged.mg : Int) - (a.hauled.mg : Int)) ∧
    exec (.readCartridges dt tag) s =
      .next (withBody .readCartridges tag (.cartridges (trainFigures (s.after dt))) (s.after dt)) ∧
    (∃ f : SettingsFigures, exec (.readSettings dt tag) s =
      .next (withBody .readSettings tag (.settings f) (s.after dt)) ∧ f.channels = s.kept.channels ∧
      f.analyzers = s.kept.analyzers ∧ f.films = s.kept.films ∧ f.lines = s.kept.lines ∧ f.cells = s.kept.cells ∧
      f.tanks = s.kept.tankSettings ∧ f.plant = s.kept.plant ∧ f.alertMask = s.kept.alertMask ∧
      f.noticeMask = s.kept.noticeMask ∧ f.bitRate = s.link.bitRate)

/-! ### Alerts and notices -/

/-- R162: a latching event latches a clear flag with its time, judges the ALERT output and hands LATCHED to the flag's
key; a flag latched already is left as it is. -/
def Obligations.FlagLatches : Prop :=
  ∀ (f : Flag) (s : State),
    (s.latched f = true → latch f s = s) ∧
    (s.latched f = false →
      ∃ t : State, latch f s = handNotice f.key (.alert (f.kind.val + 1) f.number true (some s.stamp) (s.condition f)) t ∧
        t.latched f = true ∧ t.flags[f.index].time = some s.stamp ∧
        (∀ g : Flag, g ≠ f → t.flags[g.index] = s.flags[g.index]) ∧
        t.alertActive = (allFlags.any fun g => t.latched g && s.kept.alertMask[g.kind]) ∧
        { s with flags := t.flags, alertActive := t.alertActive } = t)

/-- R167 and R168: an event of a disabled key is dropped; an event of a pending key takes its place and adds one to its
merged count, holding at 255; any other joins at the tail, with a merged count of 1, or goes straight from an empty set to an Outbound Queue with room
(R169). -/
def Obligations.NoticeHanded : Prop :=
  ∀ (key : Fin 33) (content : NoticeContent) (s : State),
    (s.kept.noticeMask[key] = false → handNotice key content s = s) ∧
    (s.kept.noticeMask[key] = true → ∀ before after : List Notice, ∀ n : Notice,
      s.link.notices = before ++ n :: after → n.key = key → (∀ m ∈ before ++ after, m.key ≠ key) →
      handNotice key content s = { s with link := { s.link with
        notices := before ++ { key := key, content := content, merged := min (n.merged + 1) 255 } :: after } }) ∧
    (s.kept.noticeMask[key] = true → (∀ m ∈ s.link.notices, m.key ≠ key) →
      s.link.notices ≠ [] ∨ 8 ≤ s.link.outbound.length + s.link.reserved →
      handNotice key content s = { s with link := { s.link with
        notices := s.link.notices ++ [{ key := key, content := content, merged := 1 }] } }) ∧
    (s.kept.noticeMask[key] = true → s.link.notices = [] → s.link.outbound.length + s.link.reserved < 8 →
      handNotice key content s = { s with link := { s.link with
        outbound := s.link.outbound ++ [.notice { key := key, content := content, merged := 1 }] } })

/-- R164: CLEAR ALERT clears each named latched flag whose condition is absent, keeps the others and every latch time,
judges the ALERT output, and hands no notice. R166 and R171: the masks are written whole; the ALERT output is judged at
once; the pending notices of the keys disabled are discarded and counted in the reply. -/
def Obligations.AlertsSetAndCleared : Prop :=
  (∀ (dt : Micros) (tag : Byte) (kind inst : Nat) (s : State), LinkReady 1 s →
     kind ≤ 16 → (kind = 0 → inst = 0) → (kind ≠ 0 → inst ≤ kindCount kind) →
     ∃ flags : Vector FlagRecord 28,
       (∀ f : Flag,
         let named := (kind = 0 ∨ f.kind.val + 1 = kind) ∧ (inst = 0 ∨ f.number = inst)
         flags[f.index].latched = (s.latched f && (!decide named || s.condition f)) ∧
         flags[f.index].time = s.flags[f.index].time) ∧
       exec (.clearAlert dt tag kind inst) s =
         .next (withBody (.clearAlert kind inst) tag
           (.alertsCleared
             ((allFlags.filter fun f => decide ((kind = 0 ∨ f.kind.val + 1 = kind) ∧ (inst = 0 ∨ f.number = inst))).map
               fun f => if s.latched f then (if s.condition f then .kept else .cleared) else .notLatched)
             (allFlags.map fun f => flags[f.index].latched))
           { s.after dt with
             flags := flags
             alertActive := allFlags.any fun f => flags[f.index].latched && s.kept.alertMask[f.kind] })) ∧
  (∀ (dt : Micros) (tag : Byte) (s : State), LinkReady 1 s →
     (∀ v : Vector Nat 16, (∀ i : Fin 16, v[i] ≤ 1) →
       exec (.setAlertMask dt tag v) s =
         .next (withStatus (.setAlertMask v) tag .ok
           { s.after dt with
             kept := { s.kept with alertMask := v.map fun n => decide (n = 1) }
             alertActive := allFlags.any fun f => s.latched f && decide (v[f.kind] = 1) })) ∧
     (∀ v : Vector Nat 16, (∃ i : Fin 16, 1 < v[i]) →
       exec (.setAlertMask dt tag v) s = .next (withStatus (.setAlertMask v) tag .outOfRange (s.after dt))) ∧
     (∀ v : Vector Nat 33, (∀ i : Fin 33, v[i] ≤ 1) →
       exec (.setNoticeMask dt tag v) s =
         .next (withBody (.setNoticeMask v) tag
           (.noticesDiscarded (s.link.notices.countP fun n => decide (v[n.key] = 0)))
           { s.after dt with
             kept := { s.kept with noticeMask := v.map fun n => decide (n = 1) }
             link := { s.link with notices := s.link.notices.filter fun n => decide (v[n.key] = 1) } })) ∧
     (∀ v : Vector Nat 33, (∃ i : Fin 33, 1 < v[i]) →
       exec (.setNoticeMask dt tag v) s = .next (withStatus (.setNoticeMask v) tag .outOfRange (s.after dt))))

/-! ### Settings -/

/-- R24 and R84: SET FILM TYPE writes its entry in every state of the part, or is OUT_OF_RANGE and changes nothing; SET TANK writes the tank's settings while the
tank is EMPTY, or OUT_OF_SERVICE without a lot, and is WRONG_STATE otherwise. -/
def Obligations.FilmAndTankSettings : Prop :=
  ∀ (dt : Micros) (tag : Byte) (s : State), LinkReady 1 s →
    (∀ (e : Fin 16) (load : Nat), load ≤ 10000 →
      exec (.setFilmType dt tag (e.val + 1) load) s =
        .next (withStatus (.setFilmType (e.val + 1) load) tag .ok
          { s.after dt with kept := { s.kept with films := s.kept.films.set e.val load } })) ∧
    (∀ entry load : Nat, entry < 1 ∨ 16 < entry ∨ 10000 < load →
      exec (.setFilmType dt tag entry load) s =
        .next (withStatus (.setFilmType entry load) tag .outOfRange (s.after dt))) ∧
    (∀ (t : Fin 3) (f : TankFields), f.tank = t.val + 1 → f.inRange = true →
      let free := s.kept.tanks[t].state = .empty ∨ (s.kept.tanks[t].state = .outOfService ∧ s.kept.tanks[t].lot = none)
      (free → exec (.setTank dt tag f) s =
        .next (withStatus (.setTank f) tag .ok
          { s.after dt with
            kept := { s.kept with
              tankSettings := s.kept.tankSettings.set t.val
                { capacity := f.capacity, settle := f.settle, maxFill := f.maxFill, drainLimit := f.drainLimit } } })) ∧
      (¬free → exec (.setTank dt tag f) s = .next (withStatus (.setTank f) tag .wrongState (s.after dt))))

/-- R64: SET LINE writes its settings, and its wash loop turns OFF, RUNNING or IDLE with the enabled flag, judges a
running stop timer against the new stop timeout, and computes a new target in RUNNING and TRICKLE. -/
def Obligations.LineSet : Prop :=
  ∀ (dt : Micros) (tag : Byte) (s : State) (l : Fin 4) (f : LineFields),
    LinkReady 1 s → f.line = l.val + 1 → f.inRange = true →
    let was := s.kept.lines[l]
    let written : State :=
      { s.after dt with
        kept := { s.kept with
          lines := s.kept.lines.set l.val
            { enabled := decide (f.enabled = 1), filmType := f.filmType, fixerVolume := f.fixerVolume,
              washRatio := f.washRatio, ratedFlow := f.ratedFlow, trickle := f.trickle, stopTimeout := f.stopTimeout,
              washCycle := f.washCycle } } }
    let becomes (g : WashLoop → WashLoop) : Prop :=
      exec (.setLine dt tag f) s = .next (withStatus (.setLine f) tag .ok (written.modLoop l g))
    let aimed (target : Nat) (k : WashLoop) : WashLoop :=
      { k with
        target := some target
        staged := if k.hold then none else some (min (target * 1000 / f.ratedFlow) 1000) }
    let film := s.lines[l].filmRate * f.washRatio / 1000
    let running := if s.loops[l].backup then min film f.trickle else film
    let idle (k : WashLoop) : WashLoop := { k with state := .idle, target := none, staged := none, applied := 0, stop := none }
    (was.enabled = true → f.enabled = 0 → becomes fun k =>
      { k with state := .off, target := none, staged := none, applied := 0, stop := none, lowFlow := 0, watched := false }) ∧
    (was.enabled = false → f.enabled = 1 → s.lines[l].filmMoving = false → becomes idle) ∧
    (was.enabled = false → f.enabled = 1 → s.lines[l].filmMoving = true →
      becomes fun k => aimed running { k with state := .running, stop := none, lowFlow := 0 }) ∧
    (was.enabled = decide (f.enabled = 1) →
      (s.loops[l].state = .off ∨ s.loops[l].state = .idle → becomes id) ∧
      (s.loops[l].state = .running → becomes (aimed running)) ∧
      (∀ t : Timer, s.loops[l].state = .trickle → s.loops[l].stop = some t →
        (was.stopTimeout = f.stopTimeout → becomes (aimed f.trickle)) ∧
        (was.stopTimeout ≠ f.stopTimeout → t.start + f.stopTimeout * sec ≤ s.now + dt → becomes idle) ∧
        (was.stopTimeout ≠ f.stopTimeout → s.now + dt < t.start + f.stopTimeout * sec →
          becomes fun k => aimed f.trickle { k with stop := some { t with len := f.stopTimeout * sec } })))

/-- R37: SET CELL is WRONG_STATE for a cell that is neither OFF nor FAULT and for a line that another cell holds; else it
writes its settings, and a changed line gives the cell the view of the new line's analyzer input. -/
def Obligations.CellSet : Prop :=
  ∀ (dt : Micros) (tag : Byte) (s : State) (c : Fin 4) (f : CellFields),
    LinkReady 1 s → f.cell = c.val + 1 → f.inRange = true →
    let line : Option (Fin 4) := if h : 1 ≤ f.line ∧ f.line ≤ 4 then some ⟨f.line - 1, by omega⟩ else none
    let stopped := s.cells[c].state = .off ∨ s.cells[c].state = .fault
    let shared := ∃ d : Fin 4, d ≠ c ∧ line.isSome ∧ s.kept.cells[d].line = line
    let written : State :=
      { s.after dt with
        kept := { s.kept with
          cells := s.kept.cells.set c.val
            { line := line, iMax := f.iMax, iFs := f.iFs, kc := f.kc, klim := f.klim, cSet := f.cSet, eff := f.eff,
              standby := f.standby, pwmPeriod := f.pwmPeriod, interval := f.interval
              autostart := decide (f.autostart = 1) } } }
    (¬stopped ∨ shared →
      exec (.setCell dt tag f) s = .next (withStatus (.setCell f) tag .wrongState (s.after dt))) ∧
    (stopped → ¬shared → s.kept.cells[c].line = line →
      exec (.setCell dt tag f) s = .next (withStatus (.setCell f) tag .ok written)) ∧
    (stopped → ¬shared → s.kept.cells[c].line ≠ line →
      exec (.setCell dt tag f) s = .next (withStatus (.setCell f) tag .ok (written.modCell c fun k =>
        { k with
          view := match line with
            | none => { state := .waiting, heldPresent := false }
            | some l =>
              { state := s.analyzers[lineAnalyzer l].state
                heldPresent := s.analyzers[lineAnalyzer l].held.isSome } })))

/-- R8: SET CHANNEL is WRONG_STATE for a role that another channel holds and while the present role is in use; else the
settings are written, the channel starts afresh, a rebound channel's counts are cleared, and the owner of the previous
role of a channel that was MOVING is handed a rate of 0 and STILL. -/
def Obligations.ChannelSet : Prop :=
  ∀ (dt : Micros) (tag : Byte) (s : State) (c : Fin 16) (f : ChannelFields),
    LinkReady 1 s → f.channel = c.val + 1 → f.inRange = true →
    let old := s.kept.channels[c].role
    let role := roleOf f.role
    let shared := role ≠ .noRole ∧ ∃ d : Fin 16, d ≠ c ∧ s.kept.channels[d].role = role
    let inUse := (old = .outlet ∧ s.path.state ≠ .idle) ∨ (old = .transfer ∧ s.sump.pump = true) ∨
      ∃ d : Fin 4, old = .celli d ∧ s.cells[d].state ≠ .off ∧ s.cells[d].state ≠ .fault
    let written : State :=
      { s.after dt with
        kept := { s.kept with
          channels := s.kept.channels.set c.val
            { role := role, falling := decide (f.edge = 1), scale := f.scale, blockSize := f.blockSize, stale := f.stale } }
        channels := s.channels.set c.val
          { count := if role = old then s.channels[c].count else 0
            rejected := if role = old then s.channels[c].rejected else 0
            moving := false, rate := 0, pulseRate := 0, block := none, lastEdge := none, stale := none } }
    (shared ∨ inUse →
      exec (.setChannel dt tag f) s = .next (withStatus (.setChannel f) tag .wrongState (s.after dt))) ∧
    (¬shared → ¬inUse → s.channels[c].moving = false → s.channels[c].rate = 0 →
      exec (.setChannel dt tag f) s = .next (withStatus (.setChannel f) tag .ok written)) ∧
    (¬shared → ¬inUse → s.channels[c].moving = true ∨ s.channels[c].rate ≠ 0 →
      exec (.setChannel dt tag f) s = .next (withStatus (.setChannel f) tag .ok (ownerRate old 0 false written)))

/-- R16: SET ANALYZER is WRONG_STATE for A5 while the Sampler has a lot; else it writes the span and hold time, empties
the record, restarts the silence watch, keeps the state and the readings, and judges a running hold by the new time.
That a hold whose new time is over already stops its timer is the model's choice (assumption 38), so is the restart of
the watch of an input in LOST (assumption 16), and a hold ends when the time passed reaches its span (assumption 22). -/
def Obligations.AnalyzerSet : Prop :=
  ∀ (dt : Micros) (tag : Byte) (s : State) (a : Fin 5) (f : AnalyzerFields),
    LinkReady 1 s → f.input = a.val + 1 → f.inRange = true →
    let busy := a = 4 ∧ s.sampler.state ≠ .idle
    let written (held : Option Nat) (hold : Option Timer) : State :=
      { s.after dt with
        kept := { s.kept with analyzers := s.kept.analyzers.set a.val { span := f.span, hold := f.hold } }
        analyzers := s.analyzers.set a.val
          { s.analyzers[a] with
            record := [], silence := some { start := s.now + dt, len := 3 * sec }, held := held, hold := hold } }
    (busy → exec (.setAnalyzer dt tag f) s =
      .next (withStatus (.setAnalyzer f) tag .wrongState (s.after dt))) ∧
    (¬busy → s.analyzers[a].hold = none → exec (.setAnalyzer dt tag f) s =
      .next (withStatus (.setAnalyzer f) tag .ok (written s.analyzers[a].held none))) ∧
    (∀ t : Timer, ¬busy → s.analyzers[a].hold = some t → s.now + dt < t.start + f.hold * sec →
      exec (.setAnalyzer dt tag f) s =
        .next (withStatus (.setAnalyzer f) tag .ok
          (written s.analyzers[a].held (some { t with len := f.hold * sec })))) ∧
    (∀ t : Timer, ¬busy → s.analyzers[a].hold = some t → t.start + f.hold * sec ≤ s.now + dt →
      exec (.setAnalyzer dt tag f) s =
        .next (withStatus (.setAnalyzer f) tag .ok (handHoldExpired a (written none none))))

/-- R103, R155 and R187: SET PLANT writes its nine settings together and judges every cartridge against the new exhaust
percent; a changed threshold is judged at once against the supply. -/
def Obligations.PlantSet : Prop :=
  ∀ (dt : Micros) (tag : Byte) (s : State) (f : PlantSettings),
    LinkReady 1 s → f.inRange = true →
    let spent (c : Cartridge) : Bool := decide (c.capacity * f.exhaustPercent / 100 ≤ c.loaded)
    let written : State :=
      latchIf (s.kept.train.any fun c => !c.exhausted && spent c) .cartridgeExhausted
        { s.after dt with
          kept := { s.kept with
            plant := f
            train := s.kept.train.map fun c => { c with exhausted := c.exhausted || spent c } } }
    let becomes (supply : Supply) : Prop :=
      Answers (.setPlant dt tag f) (.setPlant f) tag .empty { written with supply := supply } s
    (f.threshold = s.kept.plant.threshold → becomes s.supply) ∧
    (f.threshold ≠ s.kept.plant.threshold →
      (s.supply.hold = false → thresholdOf f.threshold ≤ s.supply.level → becomes s.supply) ∧
      (s.supply.hold = false → s.supply.level < thresholdOf f.threshold →
        ∃ t, exec (.setPlant dt tag f) s = .next t ∧ t.supply = { level := s.supply.level, hold := true, recovery := none } ∧
          t.kept.plant = f ∧ t.latched .supplyLow = true ∧ HasReply (.setPlant f) tag .ok .empty t) ∧
      (s.supply.hold = true → s.supply.level ≤ thresholdOf f.threshold + 10 →
        becomes { s.supply with recovery := none }) ∧
      (s.supply.hold = true → thresholdOf f.threshold + 10 < s.supply.level →
        becomes { s.supply with
          recovery := some (s.supply.recovery.getD { start := s.now + dt, len := 100 * ms }) }))

/-- R107 and R108: SET PERMIT stages the permit while a usable active permit stands. Otherwise it is activated: it becomes
active with its digest, not corrupt, nothing pending, its day start in force, the check timer started, PERMIT_CORRUPT
clear, and the window state judged. -/
def Obligations.PermitSet : Prop :=
  ∀ (dt : Micros) (tag : Byte) (s : State) (f : PermitFields),
    LinkReady 1 s → f.inRange = true →
    (s.kept.permit.corrupt = false ∧ s.kept.permit.active.isSome →
      exec (.setPermit dt tag f) s = .next (withBody (.setPermit f) tag .staged
        { s.after dt with kept := { s.kept with permit := { s.kept.permit with next := some f.permit } } })) ∧
    (s.kept.permit.corrupt = true ∨ s.kept.permit.active = none →
      ∃ t, exec (.setPermit dt tag f) s = .next t ∧
        HasReply (.setPermit f) tag .ok (.activated (digestOf f.permit)) t ∧
        t.kept.permit = { active := some f.permit, digest := some (digestOf f.permit), corrupt := false, next := none } ∧
        t.kept.day.dayStart = f.dayStart ∧ t.kept.day.number = s.kept.day.number ∧
        t.permit.check = some { start := s.now + dt, len := 60 * sec } ∧
        t.latched .permitCorrupt = false ∧
        t.permit.windowOpen =
          (s.clock.running && (permitWindows f.permit).any (windowOpenAt · (s.clock.second / 60))) ∧
        t.clock = s.clock ∧ t.kept.accounts = s.kept.accounts)

/-- R115: SET CLOCK sets the clock RUNNING. It establishes an unestablished permit day, keeps the day of the same number,
refuses an earlier one, and makes a rollover to a later one. -/
def Obligations.ClockSet : Prop :=
  ∀ (dt : Micros) (tag : Byte) (s : State) (dayCount second : Nat),
    LinkReady 1 s → 1 ≤ dayCount → dayCount ≤ 65535 → second ≤ 86399 →
    let given := if s.kept.day.dayStart * 60 ≤ second then dayCount else dayCount - 1
    let r : Request := .setClock dayCount second
    let set (t : State) : Prop := t.clock = { running := true, second := second, dayCount := dayCount }
    (s.kept.day.established = false →
      ∃ t, exec (.setClock dt tag dayCount second) s = .next t ∧ set t ∧
        HasReply r tag .ok (.clockSet given false) t ∧ t.kept.day.number = given ∧ t.kept.day.established = true ∧
        t.kept.day.total = s.kept.day.total ∧ t.kept.dayHistory = s.kept.dayHistory) ∧
    (s.kept.day.established = true →
      (given < s.kept.day.number →
        exec (.setClock dt tag dayCount second) s = .next (withStatus r tag .wrongState (s.after dt))) ∧
      (given = s.kept.day.number →
        ∃ t, exec (.setClock dt tag dayCount second) s = .next t ∧ set t ∧
          HasReply r tag .ok (.clockSet given false) t ∧ t.kept.day.number = given ∧
          t.kept.day.total = s.kept.day.total ∧ t.kept.dayHistory = s.kept.dayHistory) ∧
      (s.kept.day.number < given →
        ∃ t, exec (.setClock dt tag dayCount second) s = .next t ∧ set t ∧
          HasReply r tag .ok (.clockSet given true) t ∧ t.kept.day.number = given ∧
          t.kept.day.total = { mg := 0, residue := 0 } ∧ t.kept.day.volume = 0 ∧ t.kept.day.wash = 0 ∧
          t.kept.day.plated = 0 ∧ t.kept.day.unknown = false ∧
          t.kept.dayHistory = (s.kept.dayHistory ++ [s.dayRecord]).drop (s.kept.dayHistory.length + 1 - 8) ∧
          t.store.inFlight.isSome = true))

/-! ### Recovery cells -/

/-- R39, R40, R46 and R48: START CELL takes an OFF cell with a bound line to PRIMING, and with its flow covered, its
analyzer VALID and no hold mark on to the first tick of REGULATING; STOP CELL and CLEAR CELL FAULT take the cell OFF with
a forced zero. What each refuses is WRONG_STATE, and what each finds done already changes nothing. -/
def Obligations.CellCommands : Prop :=
  ∀ (dt : Micros) (tag : Byte) (s : State) (c : Fin 4), LinkReady 1 s →
    let n := c.val + 1
    let x := s.after dt
    let k := s.cells[c]
    let primed := k.hold = false ∧ k.flowCovered = true ∧ k.view.state = .valid
    let priming (k : Cell) : Cell :=
      { k with
        state := .priming, mismatch := 0, staged := none, appliedDuty := 0, target := 0, limit := .noLimit,
        control := none, priming := if k.hold then none else some { start := x.now, len := 60 * sec } }
    let off (fault : Option CellFault) (k : Cell) : Cell :=
      { k with
        state := .off, fault := fault, staged := none, appliedDuty := 0, appliedTarget := 0, appliedSince := x.now,
        priming := none, control := none, mismatch := 0, target := 0, limit := .noLimit }
    (s.supply.hold = false → k.state = .fault ∨ (k.state = .off ∧ s.kept.cells[c].line = none) →
      exec (.startCell dt tag n) s = .next (withStatus (.startCell n) tag .wrongState x)) ∧
    (s.supply.hold = false → k.state ≠ .fault → k.state ≠ .off →
      exec (.startCell dt tag n) s = .next (withStatus (.startCell n) tag .ok x)) ∧
    (s.supply.hold = false → k.state = .off → s.kept.cells[c].line.isSome → ¬primed →
      exec (.startCell dt tag n) s = .next (withStatus (.startCell n) tag .ok (x.modCell c priming))) ∧
    (s.supply.hold = false → k.state = .off → s.kept.cells[c].line.isSome → primed →
      Answers (.startCell dt tag n) (.startCell n) tag .empty
        (cellTick c (x.modCell c fun k =>
          { priming k with
            state := .regulating, priming := none
            control := some { start := x.now, len := s.kept.cells[c].interval * sec } })) s) ∧
    (k.state = .fault →
      exec (.stopCell dt tag n) s = .next (withStatus (.stopCell n) tag .wrongState x)) ∧
    (k.state = .off → exec (.stopCell dt tag n) s = .next (withStatus (.stopCell n) tag .ok x)) ∧
    (k.state ≠ .off → k.state ≠ .fault →
      exec (.stopCell dt tag n) s = .next (withStatus (.stopCell n) tag .ok (x.modCell c (off k.fault)))) ∧
    (k.state = .fault →
      exec (.clearCellFault dt tag n) s = .next (withStatus (.clearCellFault n) tag .ok (x.modCell c (off none)))) ∧
    (k.state ≠ .fault →
      exec (.clearCellFault dt tag n) s = .next (withStatus (.clearCellFault n) tag .wrongState x))

/-- R41, R45, R47 and R55 to R57: the priming timer, a lost flow, a measured current above 110 % of I_max, and the third
tick in a row that finds the current too far from the applied target each put a cell into FAULT with its reason, a
forced zero and its CELL_FAULT flag. That the record's time is that of the µs clock is assumption 39, that it carries
the applied target assumption 43, and that the check counts the PWM period in the settings assumption 40. -/
def Obligations.CellFaults : Prop :=
  (∀ (dt : Micros) (s : State) (c : Fin 4), s.awake = true →
     let x := s.after dt
     let faulted (reason : CellFault) (k : Cell) : Cell :=
       { k with
         state := .fault, fault := some reason, staged := none, appliedDuty := 0, appliedTarget := 0,
         appliedSince := x.now, priming := none, control := none, mismatch := 0, target := 0, limit := .noLimit }
     let w := switchIndex (.cellFlow c)
     let accepted : State := x.modSwitch w fun k => { k with accepted := some k.pin, debounce := none }
     (timerDue s.cells[c].priming x.now = true →
       exec (.cellPrimingTimeout dt c) s =
         .next (latch (.cellFault c)
           (x.modCell c (faulted (if s.cells[c].flowCovered then .noAnalyzer else .noFlow))))) ∧
     (timerDue s.switches[w].debounce x.now = true → s.switches[w].pin = false →
       (s.cells[c].state = .regulating ∨ s.cells[c].state = .holding ∨ s.cells[c].state = .standby →
         s.cells[c].hold = false →
         exec (.debounceExpired dt (.cellFlow c)) s =
           .next (latch (.cellFault c)
             (accepted.modCell c fun k => faulted .noFlow { k with flowCovered := false }))) ∧
       (s.cells[c].state = .off ∨ s.cells[c].state = .priming ∨ s.cells[c].state = .fault ∨ s.cells[c].hold = true →
         exec (.debounceExpired dt (.cellFlow c)) s =
           .next (accepted.modCell c fun k => { k with flowCovered := false })))) ∧
  (∀ (dt : Micros) (s : State) (c : Fin 4),
     let x := s.after dt
     let k := s.kept.cells[c]
     let cell := s.cells[c]
     let measured := match s.channelOf (.celli c) with
       | none => 0
       | some i => s.channels[i].pulseRate * s.kept.channels[i].scale / 60000
     let mismatched := cell.appliedSince + k.pwmPeriod * ms ≤ x.now ∧
       (cell.appliedTarget + k.iFs / 10 < measured ∨ measured + k.iFs / 10 < cell.appliedTarget)
     let faulted (reason : CellFault) (check : TickCheck) : State :=
       latch (.cellFault c) (x.modCell c fun cell =>
         { cell with
           state := .fault, fault := some reason, staged := none, appliedDuty := 0, appliedTarget := 0,
           appliedSince := x.now, priming := none, control := none, mismatch := 0, target := 0, limit := .noLimit
           lastTick := some
             { time := x.now, measured := measured, applied := cell.appliedTarget, check := check, outcome := none } })
     s.awake = true → timerDue cell.control x.now = true →
     (k.iMax * 110 / 100 < measured →
       exec (.cellControlTick dt c) s = .next (faulted .overcurrent .overcurrent)) ∧
     (measured ≤ k.iMax * 110 / 100 → mismatched → 2 ≤ cell.mismatch →
       exec (.cellControlTick dt c) s = .next (faulted .driveMismatch .mismatch)) ∧
     (measured ≤ k.iMax * 110 / 100 → mismatched → cell.mismatch < 2 →
       ∃ t, exec (.cellControlTick dt c) s = .next t ∧ t.cells[c].mismatch = cell.mismatch + 1 ∧
         t.cells[c].appliedDuty = cell.appliedDuty ∧ { x with cells := t.cells } = t))

/-- R49 to R52 and R43: a tick that finds neither overcurrent nor mismatch stages a duty and restarts the control timer.
In REGULATING and HOLDING, and in STANDBY with the analyzer VALID again, the target comes from demand and concentration,
clamped; a STANDBY cell stages its standby current. That the record's time is that of the µs clock is assumption 39, and
that the check counts the PWM period in the settings assumption 40. A held value that is absent counts as 0 (assumption
27). -/
def Obligations.ControlTick : Prop :=
  ∀ (dt : Micros) (s : State) (c : Fin 4),
    let x := s.after dt
    let k := s.kept.cells[c]
    let cell := s.cells[c]
    let measured := s.measuredCurrent c
    s.awake = true → timerDue cell.control x.now = true →
    measured ≤ k.iMax * 110 / 100 →
    (x.now < cell.appliedSince + k.pwmPeriod * ms ∨
      (measured ≤ cell.appliedTarget + k.iFs / 10 ∧ cell.appliedTarget ≤ measured + k.iFs / 10)) →
    let conc := ((s.cellInput c).bind fun a => (s.reading a).1).getD 0 / 1000
    let demand := match k.line with
      | none => 0
      | some l => if s.kept.lines[l].enabled && s.lines[l].filmMoving then s.lines[l].filmRate * s.lineLoad l else 0
    let raw : Int := (demand * 10000 / (6708 * k.eff) : Nat) + (k.kc : Int) * ((conc : Int) - (k.cSet : Int))
    let ticked (state : CellState) (target : Nat) (limit : LimitReason) : Prop :=
      ∃ record : TickRecord, record.time = x.now ∧ record.measured = measured ∧
        exec (.cellControlTick dt c) s = .next (x.modCell c fun cell =>
          { cell with
            state := state, target := target, limit := limit
            staged := some { duty := min (target * 1024 / k.iFs) 1023, target := target }
            mismatch := if x.now < cell.appliedSince + k.pwmPeriod * ms then cell.mismatch else 0
            control := some { start := x.now, len := k.interval * sec }
            lastTick := some record })
    (cell.state = .regulating ∨ cell.state = .holding ∨ (cell.state = .standby ∧ cell.view.state = .valid) →
      let state := if cell.view.state = .valid then .regulating else cell.state
      (raw ≤ 0 → ticked state 0 .zero) ∧
      (0 < raw → raw ≤ min k.iMax (k.klim * conc) → ticked state raw.toNat .noLimit) ∧
      (0 < raw → (min k.iMax (k.klim * conc) : Nat) < raw → k.klim * conc < k.iMax →
        ticked state (k.klim * conc) .guarded) ∧
      (0 < raw → (k.iMax : Int) < raw → k.iMax ≤ k.klim * conc → ticked state k.iMax .rated)) ∧
    (cell.state = .standby → cell.view.state ≠ .valid → ticked .standby (min k.standby k.iMax) .noLimit)

/-- R53: at a PWM period start a staged duty becomes the applied duty, with its target and, when the duty differs, the
time it took effect; with none staged the applied duty stays. The period takes the setting in force. -/
def Obligations.PwmPeriodStart : Prop :=
  ∀ (dt : Micros) (s : State) (c : Fin 4), s.awake = true → s.cells[c].pwm.due (s.now + dt) = true →
    let start := s.cells[c].pwm.start + s.cells[c].pwm.len
    let next (k : Cell) : Cell := { k with pwm := { start := start, len := s.kept.cells[c].pwmPeriod * ms } }
    (s.cells[c].staged = none → exec (.cellPwmPeriodStart dt c) s = .next ((s.after dt).modCell c next)) ∧
    ∀ d : StagedDuty, s.cells[c].staged = some d →
      exec (.cellPwmPeriodStart dt c) s = .next ((s.after dt).modCell c fun k =>
        { next k with
          staged := none, appliedDuty := d.duty, appliedTarget := d.target
          appliedSince := if d.duty = k.appliedDuty then k.appliedSince else start })

/-! ### Wash water -/

/-- R63, R66, R67, R70 and R71: a cycle start judges the cycle before it when it was watched, applies a staged fraction,
and begins a cycle of the length in force; the stop timeout closes the loop into IDLE. A rate update of the FOOTAGE
channel gives the Line Unit its film rate and motion, and the loop one event: film started runs it, film stopped leaves
it in TRICKLE, or IDLE with a stop timeout of 0, and a changed rate gives a running loop a new target. PulseAccepted and
RateEnds say when an update comes. R73: the rate of the WASH channel's latest update becomes the loop's measured flow in
every state of the loop, 0 when the channel falls STILL, and READ LINE reports it. -/
def Obligations.WashCycle : Prop :=
  (∀ (dt : Micros) (s : State) (l : Fin 4), s.awake = true →
    let x := s.after dt
    let k := s.loops[l]
    let commanded := s.kept.lines[l].ratedFlow * k.applied * (k.cycle.len / sec) / 60000
    let short := k.watched = true ∧ k.cycleVolume * 2 < commanded
    let fraction := k.staged.getD k.applied
    let started (lowFlow : Nat) (k : WashLoop) : WashLoop :=
      { k with
        lowFlow := lowFlow, applied := fraction, staged := none, cycleVolume := 0
        watched := decide (k.state = .running ∧ k.hold = false ∧ 100 ≤ fraction)
        cycle := { start := x.now, len := s.kept.lines[l].washCycle * sec } }
    (k.cycle.due x.now = true →
      (k.watched = false → exec (.washCycleStart dt l) s = .next (x.modLoop l (started k.lowFlow))) ∧
      (k.watched = true → ¬short → exec (.washCycleStart dt l) s = .next (x.modLoop l (started 0))) ∧
      (short → k.lowFlow ≠ 2 →
        exec (.washCycleStart dt l) s = .next (x.modLoop l (started (min (k.lowFlow + 1) 3)))) ∧
      (short → k.lowFlow = 2 →
        exec (.washCycleStart dt l) s =
          .next ((latch (.washLow l) (x.modLoop l fun k => { k with lowFlow := 3 })).modLoop l (started 3)))) ∧
    (timerDue k.stop x.now = true →
      exec (.washStopTimeout dt l) s = .next (x.modLoop l fun k =>
        { k with state := .idle, target := none, staged := none, applied := 0, stop := none }))) ∧
  ∀ (s : State) (l : Fin 4) (rate : Nat) (moving : Bool),
    let was := s.lines[l].filmMoving
    let state := s.loops[l].state
    let line := s.kept.lines[l]
    let heard : State := s.modLine l fun _ => { filmRate := rate, filmMoving := moving }
    let becomes (f : WashLoop → WashLoop) : Prop := ownerRate (.footage l) rate moving s = heard.modLoop l f
    let aimed (target : Nat) (k : WashLoop) : WashLoop :=
      { k with
        target := some target
        staged := if k.hold then none else some (min (target * 1000 / line.ratedFlow) 1000) }
    let film := rate * line.washRatio / 1000
    let running := if s.loops[l].backup then min film line.trickle else film
    (was = false → moving = true → state = .idle ∨ state = .trickle →
      becomes fun k => aimed running { k with state := .running, stop := none, lowFlow := 0 }) ∧
    (was = true → moving = false → state = .running →
      (line.stopTimeout ≠ 0 → becomes fun k => aimed line.trickle { k with
        state := .trickle, lowFlow := 0, watched := false
        stop := some { start := s.now, len := line.stopTimeout * sec } }) ∧
      (line.stopTimeout = 0 → becomes fun k =>
        { k with
          state := .idle, target := none, staged := none, applied := 0, stop := none, lowFlow := 0, watched := false })) ∧
    (was = true → moving = true → state = .running → becomes (aimed running)) ∧
    ((was = false ∧ moving = false) ∨ (was = false ∧ (state = .off ∨ state = .running)) ∨ (was = true ∧ state ≠ .running) →
      ownerRate (.footage l) rate moving s = heard) ∧
    ownerRate (.wash l) rate moving s = s.modLoop l (fun k => { k with measuredFlow := rate }) ∧
    (lineFigures s l).measuredFlow = s.loops[l].measuredFlow ∧
    ∀ (dt : Micros) (c : Fin 16), s.awake = true → s.kept.channels[c].role = .wash l →
      timerDue s.channels[c].stale (s.now + dt) = true →
      exec (.channelStale dt c) s = .next (((s.after dt).modChannel c fun ch =>
        { ch with moving := false, rate := 0, pulseRate := 0, block := none, stale := none }).modLoop l fun k =>
          { k with measuredFlow := 0 })

/-! ### Pulses -/

/-- R3 to R7: an edge of the other polarity does nothing; one within 25 µs of the last accepted edge is only counted as
rejected; an accepted pulse is counted, restarts the stale timer, opens, continues or closes a block, and reaches its
owner, with a rate update when the channel begins to move and when a block closes. -/
def Obligations.PulseAccepted : Prop :=
  ∀ (dt : Micros) (s : State) (c : Fin 16) (rising : Bool), s.awake = true →
    let x := s.after dt
    let k := s.kept.channels[c]
    let ch := s.channels[c]
    let spaced := ∀ e, ch.lastEdge = some e → e + 25 ≤ x.now
    let pulse (rate pulseRate : Nat) (block : OpenBlock) : State :=
      ownerPulse k.role k.scale (x.modChannel c fun _ =>
        { count := (ch.count + 1) % 2 ^ 32, rejected := ch.rejected, moving := true, rate := rate, pulseRate := pulseRate,
          block := some block, lastEdge := some x.now, stale := some { start := x.now, len := k.stale * sec } })
    (rising = k.falling → exec (.pulseEdge dt c rising) s = .next x) ∧
    (rising ≠ k.falling → (∃ e, ch.lastEdge = some e ∧ x.now < e + 25) →
      exec (.pulseEdge dt c rising) s =
        .next (x.modChannel c fun ch => { ch with rejected := (ch.rejected + 1) % 2 ^ 32 })) ∧
    (rising ≠ k.falling → spaced →
      (ch.block = none →
        let opened := pulse ch.rate ch.pulseRate { t0 := x.now, count := 0, last := x.now }
        exec (.pulseEdge dt c rising) s =
          .next (if ch.moving then opened else ownerRate k.role ch.rate true opened)) ∧
      (∀ b : OpenBlock, ch.block = some b → b.count + 1 < k.blockSize →
        let continued := pulse ch.rate ch.pulseRate { b with count := b.count + 1, last := x.now }
        exec (.pulseEdge dt c rising) s =
          .next (if ch.moving then continued else ownerRate k.role ch.rate true continued)) ∧
      (∀ b : OpenBlock, ch.block = some b → k.blockSize ≤ b.count + 1 →
        let rate := (b.count + 1) * k.scale * 60000000 / (x.now - b.t0)
        exec (.pulseEdge dt c rising) s =
          .next (ownerRate k.role rate true
            (pulse rate ((b.count + 1) * 60000000 / (x.now - b.t0)) { t0 := x.now, count := 0, last := x.now }))))

/-- R5 to R7: the 60-second limit closes a block on its last counted pulse; the stale time makes the channel STILL with
rates of 0 and no block. Each hands its owner a rate update. A span is over when the time passed reaches it (assumption
22). -/
def Obligations.RateEnds : Prop :=
  ∀ (dt : Micros) (s : State) (c : Fin 16), s.awake = true →
    let x := s.after dt
    let k := s.kept.channels[c]
    (∀ b : OpenBlock, s.channels[c].block = some b → 1 ≤ b.count → b.t0 + 60 * sec ≤ x.now →
      let rate := b.count * k.scale * 60000000 / (b.last - b.t0)
      exec (.blockTimeLimit dt c) s = .next (ownerRate k.role rate true (x.modChannel c fun ch =>
        { ch with
          rate := rate, pulseRate := b.count * 60000000 / (b.last - b.t0)
          block := some { t0 := b.last, count := 0, last := b.last } }))) ∧
    (timerDue s.channels[c].stale x.now = true →
      exec (.channelStale dt c) s = .next (ownerRate k.role 0 false (x.modChannel c fun ch =>
        { ch with moving := false, rate := 0, pulseRate := 0, block := none, stale := none })))

/-- R25, R26, R73 and R77: a pulse books film silver, plated silver or wash water exactly, through the residues of its
account; a transfer pulse adds to the FILLING lot while the pump runs, holding at 2^32 - 1, and to the stray transfer
count otherwise. A lot that reaches its tank's capacity is closed (R81). The model's readings: the milligrams a CELLI
pulse carries go to the day also while PLATED holds at its top (assumption 30), a loop's cycle volume has no top
(assumption 15), and a lot closes on the capacity it was opened with (assumption 14). That the figures of the permit day
hold at 10^15 - 1 is the model's choice (assumption 45). -/
def Obligations.PulsesBooked : Prop :=
  (∀ (dt : Micros) (s : State) (c : Fin 16), MidBlock c (s.after dt) →
     let k := s.kept.channels[c]
     let x := counted c (s.after dt)
     let top := 10 ^ 15 - 1
     (∀ l : Fin 4, k.role = .footage l →
       (∀ e : Fin 16, s.kept.lines[l].enabled = true → s.kept.lines[l].filmType = e.val + 1 →
         let a := s.kept.accounts.filmIn[l]
         let sum := a.residue + k.scale * s.kept.films[e]
         exec (.pulseEdge dt c (!k.falling)) s = .next { x with
           kept := { x.kept with
             accounts := { x.kept.accounts with
               filmIn := x.kept.accounts.filmIn.set l.val
                 { mg := min (a.mg + sum / 1000) top, residue := sum % 1000 } } } }) ∧
       (s.kept.lines[l].enabled = false ∨ s.kept.lines[l].filmType = 0 →
         exec (.pulseEdge dt c (!k.falling)) s = .next x)) ∧
     (∀ d : Fin 4, k.role = .celli d →
       let a := s.kept.accounts.plated[d]
       let units := a.residue + k.scale * 1118 * s.kept.cells[d].eff
       let micro := a.micro + units / 100000000
       exec (.pulseEdge dt c (!k.falling)) s = .next { x with
         kept := { x.kept with
           accounts := { x.kept.accounts with
             plated := x.kept.accounts.plated.set d.val
               { mg := min (a.mg + micro / 1000) top, micro := micro % 1000, residue := units % 100000000 } }
           day := { x.kept.day with plated := min (x.kept.day.plated + micro / 1000) top } } }) ∧
     (∀ l : Fin 4, k.role = .wash l →
       exec (.pulseEdge dt c (!k.falling)) s = .next { (x.modLoop l fun w =>
           { w with washVolume := min (w.washVolume + k.scale) top, cycleVolume := w.cycleVolume + k.scale }) with
         kept := { x.kept with day := { x.kept.day with wash := min (x.kept.day.wash + k.scale) top } } })) ∧
  (∀ (dt : Micros) (s : State) (c : Fin 16), MidBlock c (s.after dt) → s.kept.channels[c].role = .transfer →
     let k := s.kept.channels[c]
     let x := counted c (s.after dt)
     (s.sump.pump = false ∨ s.fillingTank = none →
       exec (.pulseEdge dt c (!k.falling)) s = .next { x with
         sump := { x.sump with strayTransfer := (x.sump.strayTransfer + k.scale) % 2 ^ 32 } }) ∧
     (∀ (t : Fin 3) (l : Lot), s.sump.pump = true → s.fillingTank = some t → s.lotIn t = some l →
       let current := min (l.current + k.scale) (2 ^ 32 - 1)
       (current < l.settings.capacity →
         exec (.pulseEdge dt c (!k.falling)) s = .next (x.modLot t fun l =>
           { l with filled := min (l.filled + k.scale) (2 ^ 32 - 1), current := current })) ∧
       (l.settings.capacity ≤ current →
         ∃ u l', exec (.pulseEdge dt c (!k.falling)) s = .next u ∧ u.lotIn t = some l' ∧
           u.kept.tanks[t].state = .closed ∧ l'.number = l.number ∧ l'.current = current ∧
           l'.closed = some s.stamp ∧ l'.state ≠ .filling)))

/-- R27, R134, R135 and R145: an outlet pulse draws on the lot on the path and is charged to the day total and to
DISCHARGED; the grant, and a polish pass, end at the pulse that meets them. The model's choices: the lot's discharged
mass holds at 10^15 - 1 mg, and the metered and the polish volume have no top (assumption 15); a lot without a
concentration is charged 0 (assumption 27). That the figures of the permit day hold at 10^15 - 1 is the model's choice
(assumption 45). -/
def Obligations.OutletPulses : Prop :=
  ∀ (dt : Micros) (s : State) (c : Fin 16) (t : Fin 3) (l : Lot),
    MidBlock c (s.after dt) → s.kept.channels[c].role = .outlet → s.path.tank = some t → s.lotIn t = some l →
    let q := s.kept.channels[c].scale
    let i : Instr := .pulseEdge dt c (!s.kept.channels[c].falling)
    let ng := q * l.concentration.getD 0
    let metered : State := { (((counted c (s.after dt)).modLot t fun l =>
        { l with
          dischargedVolume := min (l.dischargedVolume + q) (2 ^ 32 - 1)
          current := l.current - q
          excess := min (l.excess + (q - l.current)) (2 ^ 32 - 1)
          dischargedMass := l.dischargedMass.add ng }).modDay fun d =>
        { d with total := d.total.add ng, volume := min (d.volume + q) (10 ^ 15 - 1) }).modAccounts fun a =>
        { a with discharged := a.discharged.add ng } with
      path := { s.path with metered := s.path.metered + q } }
    let passed : State :=
      { counted c (s.after dt) with path := { s.path with polishVolume := s.path.polishVolume + q } }
    (s.path.state = .discharge →
      (s.path.grant = some .unbounded ∨ (∃ g, s.path.grant = some (.volume g) ∧ s.path.metered + q < g) →
        exec i s = .next metered) ∧
      (∀ g, s.path.grant = some (.volume g) → g ≤ s.path.metered + q →
        ∃ u, exec i s = .next u ∧ u.path.state = .stopping ∧ u.path.stopCause = some .grantMet ∧
          u.path.metered = s.path.metered + q ∧ u.kept.day.total = s.kept.day.total.add ng ∧
          u.kept.accounts.discharged = s.kept.accounts.discharged.add ng ∧
          u.kept.dischargeQueue = l.number :: s.kept.dischargeQueue ∧ u.kept.tanks[t].state = .closed ∧
          u.path.closing = some { start := s.now + dt, len := s.kept.plant.closing * sec })) ∧
    (s.path.state = .polish → ∀ target, s.path.passTarget = some target →
      (s.path.polishVolume + q < target → exec i s = .next passed) ∧
      (target ≤ s.path.polishVolume + q →
        ∃ u l', exec i s = .next u ∧ u.path.state = .stopping ∧ u.path.stopCause = some .passComplete ∧
          u.lotIn t = some l' ∧ l'.passes = min (l.passes + 1) 5 ∧ l'.hostPass = false ∧
          u.kept.tanks[t].state = .closed ∧ u.kept.accounts = s.kept.accounts))

/-- R27, R28, R118, R141 and R143: flow in STOPPING is overrun of the lot just stopped, charged like its discharge: the
metered volume, the day's volume and total, DISCHARGED, and the discharged volume and mass of the live lot, or of its
record when it has left the table. Flow in IDLE is stray, charged at the permit's limit, and latches OUTLET_LEAK. The
model's choices: the lot's and the record's discharged mass holds at 10^15 - 1 mg, and the path's volumes have no top
(assumption 15); the record of a lot is the newest of its number, and the path keeps it when Lot History drops it
(assumption 21); a lot or record without a concentration is charged 0 (assumption 27). That the figures of the permit
day hold at 10^15 - 1 is the model's choice (assumption 45). -/
def Obligations.OverrunAndStray : Prop :=
  ∀ (dt : Micros) (s : State) (c : Fin 16), MidBlock c (s.after dt) → s.kept.channels[c].role = .outlet →
    let q := s.kept.channels[c].scale
    let i : Instr := .pulseEdge dt c (!s.kept.channels[c].falling)
    let x := counted c (s.after dt)
    (∀ (n : Nat) (t : Fin 3) (l : Lot), s.path.state = .stopping → s.path.use = some .discharge →
      s.path.lot = some n → s.tankOfLot n = some t → s.lotIn t = some l →
      let ng := q * l.concentration.getD 0
      exec i s = .next { ((x.modLot t fun l =>
          { l with
            dischargedVolume := min (l.dischargedVolume + q) (2 ^ 32 - 1)
            current := l.current - q
            excess := min (l.excess + (q - l.current)) (2 ^ 32 - 1)
            dischargedMass := l.dischargedMass.add ng }).modDay fun d =>
          { d with total := d.total.add ng, volume := min (d.volume + q) (10 ^ 15 - 1) }).modAccounts fun a =>
          { a with discharged := a.discharged.add ng } with
        path := { s.path with overrun := s.path.overrun + q, metered := s.path.metered + q } }) ∧
    (∀ (n : Nat) (r : LotRecord), s.path.state = .stopping → s.path.use = some .discharge → s.path.lot = some n →
      s.tankOfLot n = none →
      let ng := q * r.concentration.getD 0
      let r' : LotRecord := { r with
        dischargedVolume := min (r.dischargedVolume + q) (2 ^ 32 - 1), dischargedMass := r.dischargedMass.add ng }
      let path : Path := { s.path with overrun := s.path.overrun + q, metered := s.path.metered + q }
      let day := { s.kept.day with
        total := s.kept.day.total.add ng, volume := min (s.kept.day.volume + q) (10 ^ 15 - 1) }
      let accounts := { s.kept.accounts with discharged := s.kept.accounts.discharged.add ng }
      (s.recordOf n = some r →
        ∃ u, exec i s = .next u ∧ u.path = path ∧ u.kept.day = day ∧ u.kept.accounts = accounts ∧
          u.kept.tanks = s.kept.tanks ∧ u.recordOf n = some r' ∧ u.kept.history.length = s.kept.history.length) ∧
      (s.recordOf n = none → s.path.dropped = some r → r.number = n →
        exec i s = .next { x with
          path := { path with dropped := some r' }, kept := { s.kept with day := day, accounts := accounts } })) ∧
    (s.path.state = .stopping → s.path.use = some .polish →
      exec i s = .next { x with path := { s.path with
        overrun := s.path.overrun + q, polishVolume := s.path.polishVolume + q } }) ∧
    (s.path.state = .idle →
      let stray : State := { x with
        path := { s.path with stray := (s.path.stray + q) % 2 ^ 32 }
        kept := { s.kept with day := { s.kept.day with volume := min (s.kept.day.volume + q) (10 ^ 15 - 1) } } }
      (s.usablePermit = none → exec i s = .next (latch .outletLeak stray)) ∧
      (∀ p : Permit, s.usablePermit = some p →
        exec i s = .next (latch .outletLeak ((stray.modDay fun d => { d with total := d.total.add (q * p.limit) }).modAccounts
          fun a => { a with discharged := a.discharged.add (q * p.limit) }))))

/-! ### Analyzer inputs -/

/-- R9 to R12: the first falling edge of a period is kept; a rising edge ends the period and begins the next. A period
of 5,000 to 2,000,000 µs decodes its duty in basis points; a valid result is appended, and the mean of the valid
results of the last four is published and held. Two results in a row that are too low or too high make an input leave
VALID; with a hold time of 0 "hold expired" follows "left VALID" (assumption 31), and both come before ANALYZER_FAULT
latches, an order that is the model's choice (assumption 10). That the hold timer stands stopped once the hold time is
over, also with a hold time of 0, is assumption 38. -/
def Obligations.AnalyzerPeriods : Prop :=
  ∀ (dt : Micros) (s : State) (a : Fin 5), s.awake = true →
    let x := s.after dt
    let k := s.analyzers[a]
    let begun : State := x.modAnalyzer a fun k => { k with period := some { rise := x.now, fall := none } }
    (exec (.analyzerFallingEdge dt a) s = .next (x.modAnalyzer a fun k =>
      { k with period := k.period.map fun p => { p with fall := some (p.fall.getD x.now) } })) ∧
    (k.period = none → exec (.analyzerRisingEdge dt a) s = .next begun) ∧
    (∀ p : Period, k.period = some p →
      let length := x.now - p.rise
      let duty := (p.fall.getD x.now - p.rise) * 10000 / length
      let span := s.kept.analyzers[a].span
      (length < 5000 ∨ 2000000 < length → exec (.analyzerRisingEdge dt a) s = .next begun) ∧
      (5000 ≤ length → length ≤ 2000000 → 300 ≤ duty → duty ≤ 9700 →
        let value := if duty < 400 then 0 else if duty ≤ 9600 then (duty - 400) * span / 9200 else span
        let record := (k.record ++ [PeriodResult.reading value]).drop (k.record.length + 1 - 4)
        let mean := (record.filterMap PeriodResult.value).sum / (record.filterMap PeriodResult.value).length
        let published : State := begun.modAnalyzer a fun k =>
          { k with
            record := record, silence := some { start := x.now, len := 3 * sec }
            state := .valid, published := some mean, held := some mean, hold := none }
        (k.state = .valid → exec (.analyzerRisingEdge dt a) s = .next (handPublished a mean published)) ∧
        (k.state ≠ .valid →
          exec (.analyzerRisingEdge dt a) s = .next (handPublished a mean (handEnteredValid a published)))) ∧
      (5000 ≤ length → length ≤ 2000000 → duty < 300 ∨ 9700 < duty →
        let result : PeriodResult := if duty < 300 then .low else .high
        let appended : State := begun.modAnalyzer a fun k =>
          { k with
            record := (k.record ++ [result]).drop (k.record.length + 1 - 4)
            silence := some { start := x.now, len := 3 * sec } }
        (k.record.getLast? ≠ some result → exec (.analyzerRisingEdge dt a) s = .next appended) ∧
        (k.record.getLast? = some result → k.state = .valid →
          let hold := s.kept.analyzers[a].hold
          let left (held : Option Nat) (timer : Option Timer) : State :=
            handLeftValid a (appended.modAnalyzer a fun k =>
              { k with
                state := if duty < 300 then .faultLow else .faultHigh, published := none, held := held, hold := timer })
          (hold ≠ 0 → exec (.analyzerRisingEdge dt a) s =
            .next (latch (.analyzerFault a) (left k.held (some { start := x.now, len := hold * sec })))) ∧
          (hold = 0 → exec (.analyzerRisingEdge dt a) s =
            .next (latch (.analyzerFault a) (handHoldExpired a (left none none))))) ∧
        (k.record.getLast? = some result → k.state ≠ .valid →
          let state : AnalyzerState := if duty < 300 then .faultLow else .faultHigh
          exec (.analyzerRisingEdge dt a) s =
            .next (latchIf (k.state ≠ state) (.analyzerFault a) (appended.modAnalyzer a fun k => { k with state := state })))))

/-- R13 to R15 and R42 to R43: 3 s of silence make an input LOST with an emptied record and latch its flag; at the end
of the hold time the held value is absent. A REGULATING cell whose input leaves VALID goes to HOLDING while a held value
is present, and to STANDBY without one, as a HOLDING cell does at the end of the hold. With a hold time of 0 "hold
expired" follows "left VALID" (assumption 31); that both come before ANALYZER_FAULT latches is the model's choice
(assumption 10). That the hold timer stops at the end of the hold is assumption 38. A span is over when the time passed
reaches it (assumption 22). -/
def Obligations.AnalyzerTimers : Prop :=
  (∀ (dt : Micros) (s : State) (a : Fin 5), s.awake = true →
     let x := s.after dt
     let k := s.analyzers[a]
     let emptied (k : Analyzer) : Analyzer := { k with record := [], silence := none, state := .lost }
     (timerDue k.silence x.now = true →
       (k.state = .valid →
         let hold := s.kept.analyzers[a].hold
         let left (held : Option Nat) (timer : Option Timer) : State :=
           handLeftValid a (x.modAnalyzer a fun k => { emptied k with published := none, held := held, hold := timer })
         (hold ≠ 0 → exec (.analyzerSilence dt a) s =
           .next (latch (.analyzerFault a) (left k.held (some { start := x.now, len := hold * sec })))) ∧
         (hold = 0 → exec (.analyzerSilence dt a) s =
           .next (latch (.analyzerFault a) (handHoldExpired a (left none none))))) ∧
       (k.state = .waiting ∨ k.state = .faultLow ∨ k.state = .faultHigh →
         exec (.analyzerSilence dt a) s = .next (latch (.analyzerFault a) (x.modAnalyzer a emptied)))) ∧
     (timerDue k.hold x.now = true →
       let absent : State := x.modAnalyzer a fun k => { k with held := none, hold := none }
       (a = 4 ∨ (∀ c : Fin 4, s.cellInput c ≠ some a) → exec (.analyzerHoldExpired dt a) s = .next absent) ∧
       (∀ c : Fin 4, s.cellInput c = some a → (∀ d : Fin 4, s.cellInput d = some a → d = c) →
         (s.cells[c].state = .holding → s.cells[c].hold = false →
           let target := min s.kept.cells[c].standby s.kept.cells[c].iMax
           exec (.analyzerHoldExpired dt a) s = .next (absent.modCell c fun k =>
             { k with
               view := { k.view with heldPresent := false }, state := .standby, target := target, limit := .noLimit
               staged := some { duty := min (target * 1024 / s.kept.cells[c].iFs) 1023, target := target } })) ∧
         (s.cells[c].state ≠ .holding ∨ s.cells[c].hold = true →
           exec (.analyzerHoldExpired dt a) s = .next (absent.modCell c fun k =>
             { k with view := { k.view with heldPresent := false } }))))) ∧
  (∀ (s : State) (a : Fin 5) (c : Fin 4),
     s.cellInput c = some a → (∀ d : Fin 4, s.cellInput d = some a → d = c) →
     let view : AnalyzerView := { state := s.analyzers[a].state, heldPresent := s.analyzers[a].held.isSome }
     let target := min s.kept.cells[c].standby s.kept.cells[c].iMax
     (s.cells[c].state = .regulating → s.cells[c].hold = false → s.analyzers[a].held.isSome →
       handLeftValid a s = s.modCell c fun k => { k with view := view, state := .holding }) ∧
     (s.cells[c].state = .regulating → s.cells[c].hold = false → s.analyzers[a].held = none →
       handLeftValid a s = s.modCell c fun k =>
         { k with
           view := view, state := .standby, target := target, limit := .noLimit
           staged := some { duty := min (target * 1024 / s.kept.cells[c].iFs) 1023, target := target } }) ∧
     (s.cells[c].state ≠ .regulating ∨ s.cells[c].hold = true →
       handLeftValid a s = s.modCell c fun k => { k with view := view }) ∧
     (s.cells[c].state = .holding → s.cells[c].hold = false →
       handHoldExpired a s = s.modCell c fun k =>
         { k with
           view := { k.view with heldPresent := false }, state := .standby, target := target, limit := .noLimit
           staged := some { duty := min (target * 1024 / s.kept.cells[c].iFs) 1023, target := target } }) ∧
     (s.cells[c].state ≠ .holding ∨ s.cells[c].hold = true →
       handHoldExpired a s = s.modCell c fun k => { k with view := { k.view with heldPresent := false } }))

/-! ### Switch inputs -/

/-- R17: a pin that moves away from the accepted level starts the debounce, and a return cancels it; at its expiry the
level is accepted. R76 and R78: while no tank is FILLING, SUMP_HIGH covered sets the call mark and starts the backup
timer, and uncovered stops it; at its expiry SUMP_BACKUP latches and the wash loops are restricted. With a tank FILLING,
SUMP_LOW covered and the call mark set, the transfer pump starts, which stops the backup timer and ends a backup; SUMP_LOW
uncovered stops the pump, with the call mark and the backup timer as SUMP_HIGH stands. -/
def Obligations.SwitchesDebounced : Prop :=
  (∀ (dt : Micros) (s : State) (w : Switch) (level : Bool),
     let x := s.after dt
     let i := switchIndex w
     let k := s.switches[i]
     (k.pin = level → exec (.switchPinChange dt w level) s = .next x) ∧
     (k.pin ≠ level →
       (k.accepted = none →
         exec (.switchPinChange dt w level) s = .next (x.modSwitch i fun k => { k with pin := level })) ∧
       (k.accepted = some level →
         exec (.switchPinChange dt w level) s =
           .next (x.modSwitch i fun k => { k with pin := level, debounce := none })) ∧
       (k.accepted = some (!level) →
         exec (.switchPinChange dt w level) s = .next (x.modSwitch i fun k =>
           { k with pin := level, debounce := some { start := x.now, len := s.kept.plant.debounce * ms } }))) ∧
     (s.awake = true → timerDue k.debounce x.now = true →
       ∃ t, exec (.debounceExpired dt w) s = .next t ∧ t.switches = s.switches.set i.val
         { k with accepted := some k.pin, debounce := none })) ∧
  (∀ (dt : Micros) (s : State), s.awake = true →
     let x := s.after dt
     let i := switchIndex .sumpHigh
     let accepted : State := x.modSwitch i fun k => { k with accepted := some k.pin, debounce := none }
     (timerDue s.switches[i].debounce x.now = true → s.fillingTank = none → s.sump.pump = false →
       (s.switches[i].pin = true → exec (.debounceExpired dt .sumpHigh) s = .next { accepted with
         sump := { s.sump with
           callMark := true, backupTimer := some { start := x.now, len := s.kept.plant.backupDelay * sec } } }) ∧
       (s.switches[i].pin = false →
         exec (.debounceExpired dt .sumpHigh) s = .next { accepted with sump := { s.sump with backupTimer := none } })) ∧
     (let low := switchIndex .sumpLow
      let started (w : Switch) : Prop :=
        ∃ t, exec (.debounceExpired dt w) s = .next t ∧
          t.sump = { s.sump with pump := true, callMark := true, backupTimer := none, backup := false } ∧
          t.kept = s.kept ∧ (s.sump.backup = false → t.loops = s.loops) ∧
          (s.sump.backup = true → ∀ l : Fin 4, t.loops[l].backup = false ∧ t.loops[l].state = s.loops[l].state ∧
            t.loops[l].applied = s.loops[l].applied ∧
            (s.loops[l].state = .running → t.loops[l].target = some (s.filmFlow l)))
      (s.fillingTank.isSome → s.sump.hold = false → s.sump.pump = false →
        (timerDue s.switches[i].debounce x.now = true → s.switches[i].pin = true → s.covered .sumpLow = true →
          started .sumpHigh) ∧
        (timerDue s.switches[low].debounce x.now = true → s.switches[low].pin = true → s.sump.callMark = true →
          started .sumpLow)) ∧
      (timerDue s.switches[low].debounce x.now = true → s.switches[low].pin = false → s.sump.pump = true →
        exec (.debounceExpired dt .sumpLow) s =
          .next { (x.modSwitch low fun k => { k with accepted := some k.pin, debounce := none }) with
            sump := { s.sump with
              pump := false, callMark := s.covered .sumpHigh
              backupTimer := if s.covered .sumpHigh then some { start := x.now, len := s.kept.plant.backupDelay * sec }
                else s.sump.backupTimer } })) ∧
     (timerDue s.sump.backupTimer x.now = true →
       ∃ t, exec (.sumpBackupDelay dt) s = .next t ∧ t.sump = { s.sump with backupTimer := none, backup := true } ∧
         t.latched .sumpBackup = true ∧ t.kept = s.kept ∧
         ∀ l : Fin 4, t.loops[l].backup = true ∧ t.loops[l].state = s.loops[l].state ∧
           t.loops[l].applied = s.loops[l].applied ∧
           (s.loops[l].state = .running → t.loops[l].target = some (min (s.filmFlow l) s.kept.lines[l].trickle))))

/-- R82, R92 and R138: HIGH covered over an uncovered LOW, found by either switch's change, takes the tank OUT_OF_SERVICE,
latches its flag, and puts its lot into HELD with SWITCH_FAULT: a lot that fills, settles or waits leaves its lists, a lot
that is sampled ends the Sampler's attempt, and a lot that drains stops its drain, a discharge with a checkpoint order; its
tank stays OUT_OF_SERVICE. A lot HELD already takes the new reason, and LOT_HELD latches again (assumption 19). R83, R136
and R146: LOW uncovered puts the lot of a CLOSED tank into HELD with LEVEL_LOST, but for a lot HELD already; a discharge has
run dry, so that the volume left is shortfall, which has no top (assumption 15), and the lot goes to Lot History as
DISCHARGED; a polish stops with the lot HELD; and in the other tank states nothing follows. -/
def Obligations.SwitchFault : Prop :=
  (∀ (dt : Micros) (s : State) (t : Fin 3) (l : Lot) (i : Instr),
    let due (f : Switch) : Prop := timerDue s.switches[switchIndex f].debounce (s.now + dt) = true
    (i = .debounceExpired dt (.tankHigh t) ∧ due (.tankHigh t) ∧ s.switches[switchIndex (.tankHigh t)].pin = true ∧
        s.covered (.tankLow t) = false) ∨
      (i = .debounceExpired dt (.tankLow t) ∧ due (.tankLow t) ∧ s.switches[switchIndex (.tankLow t)].pin = false ∧
        s.covered (.tankHigh t) = true) →
    s.awake = true → s.kept.tanks[t].state ≠ .outOfService → s.lotIn t = some l →
    let faulted (u : State) : Prop :=
      u.kept.tanks[t].state = .outOfService ∧ u.latched (.tankSwitchFault t) = true ∧ u.latched .lotHeld = true ∧
        u.kept.accounts = s.kept.accounts ∧ ∃ l', u.lotIn t = some l' ∧ l'.state = .held ∧
          l'.holdReason = some .switchFault ∧ l'.number = l.number ∧ l'.current = l.current
    let waits := l.state = .sampleWait ∨ l.state = .queued ∨ l.state = .polishWait
    (waits ∨ (l.state = .filling ∧ l.number ∉ s.kept.sampleWait) ∨ l.state = .settling ∨ l.state = .held ∨
        (l.state = .sampling ∧ s.kept.sampleWait = []) →
      ∃ u, exec i s = .next u ∧ faulted u ∧ u.path = s.path ∧ (l.state = .sampling → u.sampler.state = .idle) ∧
        (l.state = .settling → u.timers[t].settle = none) ∧ (l.state = .filling → u.timers[t].maxFill = none) ∧
        (waits → l.number ∉ u.kept.dischargeQueue ++ u.kept.polishWait ++ u.kept.sampleWait)) ∧
    (l.state = .discharging ∨ l.state = .polishing → s.path.draining = true → s.path.tank = some t →
      ∃ u, exec i s = .next u ∧ faulted u ∧
        u.path = { s.path with
          state := .stopping, drain := none, stopCause := some .switchFault, overrun := 0
          closing := some { start := s.now + dt, len := s.kept.plant.closing * sec } } ∧
        u.kept.day.total = s.kept.day.total ∧ (s.path.state = .discharge → u.store.inFlight.isSome = true))) ∧
  ∀ (dt : Micros) (s : State) (t : Fin 3) (l : Lot),
    let low := switchIndex (.tankLow t)
    s.awake = true → timerDue s.switches[low].debounce (s.now + dt) = true → s.switches[low].pin = false →
    s.covered (.tankHigh t) = false → s.lotIn t = some l →
    let i : Instr := .debounceExpired dt (.tankLow t)
    let tank := s.kept.tanks[t].state
    let accepted : State :=
      (s.after dt).modSwitch low fun k => { k with accepted := some k.pin, debounce := none }
    let held (u : State) : Prop :=
      u.kept.tanks[t].state = .closed ∧ u.kept.accounts = s.kept.accounts ∧ u.latched .lotHeld = true ∧
        ∃ l', u.lotIn t = some l' ∧ l'.state = .held ∧ l'.holdReason = some .levelLost ∧ l'.number = l.number ∧
          l'.current = l.current
    let stopped (cause : StopCause) (u : State) : Prop :=
      u.path.state = .stopping ∧ u.path.stopCause = some cause ∧ u.path.drain = none ∧
        u.path.closing = some { start := s.now + dt, len := s.kept.plant.closing * sec }
    (tank = .empty ∨ tank = .filling ∨ tank = .outOfService ∨ (tank = .closed ∧ l.state = .held) →
      exec i s = .next accepted) ∧
    (tank = .closed →
      l.state = .settling ∨ l.state = .sampleWait ∨ l.state = .queued ∨ l.state = .polishWait ∨
        (l.state = .sampling ∧ s.kept.sampleWait = []) →
      ∃ u, exec i s = .next u ∧ held u ∧ u.path = s.path ∧
        (l.state = .settling → u.timers[t].settle = none) ∧ (l.state = .sampling → u.sampler.state = .idle) ∧
        (l.state = .sampleWait ∨ l.state = .queued ∨ l.state = .polishWait →
          l.number ∉ u.kept.dischargeQueue ++ u.kept.polishWait ++ u.kept.sampleWait)) ∧
    (tank = .draining → s.path.tank = some t →
      (s.path.state = .discharge →
        ∃ u, exec i s = .next u ∧ stopped .drained u ∧ u.store.inFlight.isSome = true ∧
          u.kept.accounts = s.kept.accounts ∧ u.kept.day.lots = min (s.kept.day.lots + 1) 65535 ∧
          u.kept.history =
            (s.kept.history ++
              [{ l with shortfall := l.shortfall + l.current, current := 0 }.record t .discharged s.stamp 0 false]).drop
              (s.kept.history.length + 1 - 16) ∧
          ((∃ v : Fin 3, v ≠ t ∧ s.kept.tanks[v].state = .filling) →
            u.kept.tanks[t] = { state := .empty, lot := none })) ∧
      (s.path.state = .polish → ∃ u, exec i s = .next u ∧ stopped .levelLost u ∧ held u))

/-! ### Lots and tanks -/

/-- R81, R85 and R88: CLOSE LOT, the max fill timer and HIGH covered close the FILLING lot: its tank is CLOSED, its timer
stops, its closing time is written, and it settles, or waits for its sample with a settle time of 0. A closing by HIGH with
less than half of the capacity filled sets VOLUME_SUSPECT. CLOSE LOT is WRONG_STATE with no FILLING lot and for a lot
without volume. -/
def Obligations.LotClosed : Prop :=
  ∀ (dt : Micros) (s : State),
    let x := s.after dt
    let closes (byHigh : Bool) (t : Fin 3) (l : Lot) (u : State) : Prop :=
      ∃ l', u.lotIn t = some l' ∧ u.kept.tanks[t].state = .closed ∧ u.timers[t].maxFill = none ∧
        l'.number = l.number ∧ l'.filled = l.filled ∧ l'.current = l.current ∧ l'.closed = some s.stamp ∧
        l'.volumeSuspect = (l.volumeSuspect || (byHigh && decide (l.filled * 2 < l.settings.capacity))) ∧
        (l.settings.settle ≠ 0 → (l.number ∉ s.kept.sampleWait → l'.state = .settling) ∧
          u.timers[t].settle = some { start := x.now, len := l.settings.settle * sec }) ∧
        (l.settings.settle = 0 → l'.state = .sampleWait ∨ l'.state = .sampling)
    (∀ tag : Byte, LinkReady 1 s → s.supply.hold = false →
      (s.sump.levelsTaken = false ∨ s.fillingTank = none ∨
          (∃ t l, s.fillingTank = some t ∧ s.lotIn t = some l ∧ l.filled = 0) →
        exec (.closeLot dt tag) s = .next (withStatus .closeLot tag .wrongState x)) ∧
      (∀ (t : Fin 3) (l : Lot), s.sump.levelsTaken = true → s.fillingTank = some t → s.lotIn t = some l →
        l.filled ≠ 0 →
        ∃ u, exec (.closeLot dt tag) s = .next u ∧ closes false t l u ∧
          HasReply .closeLot tag .ok (.lotClosed l.number t) u)) ∧
    (∀ (t : Fin 3) (l : Lot), s.awake = true → timerDue s.timers[t].maxFill x.now = true →
      s.kept.tanks[t].state = .filling → s.lotIn t = some l →
      ∃ u, exec (.maxFillTimeout dt t) s = .next u ∧ closes false t l u) ∧
    (∀ (t : Fin 3) (l : Lot), s.awake = true → timerDue s.switches[switchIndex (.tankHigh t)].debounce x.now = true →
      s.switches[switchIndex (.tankHigh t)].pin = true → s.covered (.tankLow t) = true →
      s.kept.tanks[t].state = .filling → s.lotIn t = some l →
      ∃ u, exec (.debounceExpired dt (.tankHigh t)) s = .next u ∧ closes true t l u)

/-- R95 and R100: HOLD LOT takes a waiting, queued or settling lot out of its list and holds it; on the path it stops the
drain with the lot held. It is WRONG_STATE for a lot in FILLING or HELD and for a number that no live lot has. -/
def Obligations.LotHeld : Prop :=
  ∀ (dt : Micros) (tag : Byte) (s : State) (n : Nat), LinkReady 1 s → 1 ≤ n → n ≤ 65535 →
    let x := s.after dt
    let held (t : Fin 3) (s : State) : State :=
      latch .lotHeld (s.modLot t fun l => { l with state := .held, holdReason := some .byRequest })
    (s.sump.levelsTaken = false ∨ s.tankOfLot n = none →
      exec (.holdLot dt tag n) s = .next (withStatus (.holdLot n) tag .wrongState x)) ∧
    (∀ (t : Fin 3) (l : Lot), s.sump.levelsTaken = true → s.tankOfLot n = some t → s.lotIn t = some l →
      (l.state = .filling ∨ l.state = .held →
        exec (.holdLot dt tag n) s = .next (withStatus (.holdLot n) tag .wrongState x)) ∧
      (l.state = .settling →
        Answers (.holdLot dt tag n) (.holdLot n) tag (.lotHeld l.state)
          (held t (x.modTimers t fun k => { k with settle := none })) s) ∧
      (l.state = .sampleWait ∨ l.state = .queued ∨ l.state = .polishWait →
        Answers (.holdLot dt tag n) (.holdLot n) tag (.lotHeld l.state)
          (held t { x with
            kept := { s.kept with
              dischargeQueue := s.kept.dischargeQueue.filter (· ≠ n)
              polishWait := s.kept.polishWait.filter (· ≠ n)
              sampleWait := s.kept.sampleWait.filter (· ≠ n) } }) s) ∧
      (l.state = .sampling → s.kept.sampleWait = [] →
        Answers (.holdLot dt tag n) (.holdLot n) tag (.lotHeld l.state)
          (held t { x with
            sampler :=
              { s.sampler with state := .idle, lot := none, flush := none, window := none, count := 0, sum := 0 } }) s) ∧
      (l.state = .discharging ∨ l.state = .polishing → s.path.draining = true → s.path.tank = some t →
        ∃ u l', exec (.holdLot dt tag n) s = .next u ∧ HasReply (.holdLot n) tag .ok (.lotHeld l.state) u ∧
          u.path.state = .stopping ∧ u.path.stopCause = some .byRequest ∧
          u.path.closing = some { start := x.now, len := s.kept.plant.closing * sec } ∧
          u.lotIn t = some l' ∧ l'.state = .held ∧ l'.holdReason = some .byRequest ∧ l'.current = l.current ∧
          u.kept.accounts = s.kept.accounts ∧ u.kept.day.total = s.kept.day.total))

/-- R96 and R97: RETURN LOT sends a HELD lot back to Sample Wait, to be taken at once by an idle Sampler with an empty
list; POLISH LOT sends a HELD or QUEUED lot with a concentration to Polish Wait with its host pass. Both are WRONG_STATE
in any other state and for a lot in a tank out of service. -/
def Obligations.LotReturned : Prop :=
  ∀ (dt : Micros) (tag : Byte) (s : State) (n : Nat) (t : Fin 3) (l : Lot),
    LinkReady 1 s → s.supply.hold = false → 1 ≤ n → n ≤ 65535 → s.sump.levelsTaken = true →
    s.tankOfLot n = some t → s.lotIn t = some l →
    let x := s.after dt
    let out := s.kept.tanks[t].state = .outOfService
    (l.state ≠ .held ∨ out →
      exec (.returnLot dt tag n) s = .next (withStatus (.returnLot n) tag .wrongState x)) ∧
    (l.state = .held → ¬out → s.sampler.state ≠ .idle ∨ s.sampler.hold = true →
      exec (.returnLot dt tag n) s = .next (withStatus (.returnLot n) tag .ok
        ((x.modLot t fun l => { l with state := .sampleWait, holdReason := none, attempts := 0 }).modKept fun k =>
          { k with sampleWait := k.sampleWait ++ [n] }))) ∧
    (l.state = .held → ¬out → s.sampler.state = .idle → s.sampler.hold = false → s.kept.sampleWait = [] →
      exec (.returnLot dt tag n) s = .next (withStatus (.returnLot n) tag .ok
        { (x.modLot t fun l => { l with state := .sampling, holdReason := none, attempts := 0 }) with
          sampler :=
            { state := .flushing, lot := some n
              flush := some { start := x.now, len := s.kept.plant.flush * sec }
              window := none, count := 0, sum := 0, hold := false } })) ∧
    ((l.state ≠ .held ∧ l.state ≠ .queued) ∨ l.concentration = none ∨ out →
      exec (.polishLot dt tag n) s = .next (withStatus (.polishLot n) tag .wrongState x)) ∧
    (l.state = .held ∨ l.state = .queued → l.concentration.isSome → ¬out → s.path.state ≠ .idle →
      exec (.polishLot dt tag n) s = .next (withStatus (.polishLot n) tag .ok
        ((x.modLot t fun l => { l with state := .polishWait, holdReason := none, hostPass := true }).modKept fun k =>
          { k with
            dischargeQueue := k.dischargeQueue.filter (· ≠ n)
            polishWait := k.polishWait.filter (· ≠ n) ++ [n]
            sampleWait := k.sampleWait.filter (· ≠ n) })))

/-- R31, R98 and R99: DECLARE HAULED takes a HELD lot whose LOW is uncovered, books its content to HAULED, and moves it
to Lot History. R80 and R86: RETURN TANK returns a tank that is out of service, whose switches agree: with a lot it is
CLOSED, without one EMPTY; and while no tank is FILLING, the lowest EMPTY tank takes a new lot. A lot without a
concentration is hauled with a mass of 0. The path keeps the record of the lot it has stopped when Lot History drops it,
which is the model's own figure (assumption 21). -/
def Obligations.TanksEmptied : Prop :=
  (∀ (dt : Micros) (tag : Byte) (s : State) (n : Nat) (t : Fin 3) (l : Lot),
     LinkReady 1 s → 1 ≤ n → n ≤ 65535 → s.sump.levelsTaken = true → s.tankOfLot n = some t → s.lotIn t = some l →
     let x := s.after dt
     let ng := l.concentration.getD 0 * l.current
     let history := (s.kept.history ++
       [l.record t .hauled s.stamp (ng / 1000000) l.concentration.isNone]).drop (s.kept.history.length + 1 - 16)
     let gone := s.kept.history.take (s.kept.history.length + 1 - 16)
     (l.state ≠ .held ∨ s.covered (.tankLow t) = true →
       exec (.declareHauled dt tag n) s = .next (withStatus (.declareHauled n) tag .wrongState x)) ∧
     (l.state = .held → s.covered (.tankLow t) = false →
       ∃ u, exec (.declareHauled dt tag n) s = .next u ∧ HasReply (.declareHauled n) tag .ok (.hauled (ng / 1000000)) u ∧
         u.kept.accounts = { s.kept.accounts with hauled := s.kept.accounts.hauled.add ng } ∧
         u.kept.history = history ∧ u.kept.day.lots = min (s.kept.day.lots + 1) 65535) ∧
     (l.state = .held → s.covered (.tankLow t) = false →
       s.kept.tanks[t].state = .outOfService ∨ (∃ u, u ≠ t ∧ s.fillingTank = some u) →
       Answers (.declareHauled dt tag n) (.declareHauled n) tag (.hauled (ng / 1000000))
         { x with
           kept := { s.kept with
             accounts := { s.kept.accounts with hauled := s.kept.accounts.hauled.add ng }
             history := history
             day := { s.kept.day with lots := min (s.kept.day.lots + 1) 65535 }
             tanks := s.kept.tanks.set t.val
               { state := if s.kept.tanks[t].state = .outOfService then .outOfService else .empty, lot := none } }
           path := { s.path with dropped := (gone.reverse.find? fun r => s.path.lot = some r.number).or s.path.dropped } }
         s)) ∧
  (∀ (dt : Micros) (tag : Byte) (s : State) (t : Fin 3), LinkReady 1 s →
     let x := s.after dt
     let r : Request := .returnTank (t.val + 1)
     let ready := s.sump.levelsTaken = true ∧ s.kept.tanks[t].state = .outOfService ∧ s.switchesDisagree t = false
     let back (state : TankState) : State := x.modTank t fun k => { k with state := state }
     (¬ready → exec (.returnTank dt tag (t.val + 1)) s = .next (withStatus r tag .wrongState x)) ∧
     (ready → (s.lotIn t).isSome →
       exec (.returnTank dt tag (t.val + 1)) s = .next (withStatus r tag .ok (back .closed))) ∧
     (ready → s.lotIn t = none → s.fillingTank.isSome →
       exec (.returnTank dt tag (t.val + 1)) s = .next (withStatus r tag .ok (back .empty))) ∧
     (ready → s.lotIn t = none → s.fillingTank = none → (∀ u : Fin 3, s.kept.tanks[u].state ≠ .empty) →
       s.covered (.tankHigh t) = false →
       ∃ v, exec (.returnTank dt tag (t.val + 1)) s = .next v ∧ HasReply r tag .ok .empty v ∧
         v.kept.tanks[t] = {
           state := .filling, lot := some (Lot.opening s.freshNumber s.stamp s.kept.tankSettings[t]) } ∧
         v.kept.nextLot = (if 65535 ≤ s.freshNumber then 1 else s.freshNumber + 1) ∧
         v.timers[t].maxFill = (if s.kept.tankSettings[t].maxFill = 0 then none
           else some { start := x.now, len := s.kept.tankSettings[t].maxFill * 3600 * sec })))

/-! ### The Sampler -/

/-- R88 to R90: the settle timer sends a lot to Sample Wait; the flush opens the window when A5 is VALID, and fails the
attempt when it is not, as do a window with fewer than 3 readings and an A5 that leaves VALID in it; the window counts and
adds A5's readings. The third failed attempt holds the lot; attempts that stand at 3 stay there (assumption 32). That the
lot event comes before LOT_HELD latches is the model's choice (assumption 10). -/
def Obligations.SamplerTimers : Prop :=
  (∀ (dt : Micros) (s : State) (t : Fin 3) (l : Lot), s.awake = true → s.lotIn t = some l →
    let x := s.after dt
    let idle : Sampler :=
      { s.sampler with state := .idle, lot := none, flush := none, window := none, count := 0, sum := 0 }
    let heldBack := x.modLot t fun l =>
      { l with attempts := min (l.attempts + 1) 3, state := .held, holdReason := some .sampleFailed }
    let failed : State := { (latch .lotHeld (lotEvent .held t heldBack)) with sampler := idle }
    (timerDue s.timers[t].settle x.now = true → s.sampler.state ≠ .idle ∨ s.sampler.hold = true →
      exec (.settleTimerExpired dt t) s = .next (((x.modTimers t fun k => { k with settle := none }).modLot t fun l =>
        { l with state := .sampleWait, holdReason := none }).modKept fun k =>
          { k with sampleWait := k.sampleWait ++ [l.number] })) ∧
    (timerDue s.sampler.flush x.now = true → s.analyzers[(4 : Fin 5)].state = .valid →
      exec (.sampleFlushEnd dt) s = .next { x with
        sampler := { s.sampler with
          state := .window, flush := none
          window := some { start := x.now, len := s.kept.plant.window * sec }, count := 0, sum := 0 } }) ∧
    (s.samplerTank = some t → s.kept.sampleWait = [] →
      (timerDue s.sampler.flush x.now = true → s.analyzers[(4 : Fin 5)].state ≠ .valid → 2 ≤ l.attempts →
        exec (.sampleFlushEnd dt) s = .next failed) ∧
      (timerDue s.sampler.window x.now = true → s.sampler.count < 3 → 2 ≤ l.attempts →
        exec (.sampleWindowEnd dt) s = .next failed) ∧
      (timerDue s.sampler.window x.now = true → s.sampler.count < 3 → l.attempts < 2 →
        ∃ u l', exec (.sampleWindowEnd dt) s = .next u ∧ u.lotIn t = some l' ∧ l'.attempts = l.attempts + 1 ∧
          (l'.state = .sampleWait ∨ l'.state = .sampling) ∧ l'.concentration = l.concentration ∧
          u.kept.accounts = s.kept.accounts))) ∧
  (∀ (s : State) (value : Nat),
    (s.sampler.state = .window → handPublished 4 value s =
      { s with sampler := { s.sampler with count := s.sampler.count + 1, sum := s.sampler.sum + value } }) ∧
    (s.sampler.state ≠ .window → handPublished 4 value s = s ∧ handLeftValid 4 s = s)) ∧
  ∀ (s : State) (t : Fin 3) (l : Lot),
    s.sampler.state = .window → s.samplerTank = some t → s.lotIn t = some l → s.kept.sampleWait = [] →
    (2 ≤ l.attempts →
      handLeftValid 4 s =
        { (latch .lotHeld (lotEvent .held t (s.modLot t fun l =>
            { l with attempts := min (l.attempts + 1) 3, state := .held, holdReason := some .sampleFailed }))) with
          sampler :=
            { s.sampler with state := .idle, lot := none, flush := none, window := none, count := 0, sum := 0 } }) ∧
    (l.attempts < 2 →
      ∃ l', (handLeftValid 4 s).lotIn t = some l' ∧ l'.attempts = l.attempts + 1 ∧
        (l'.state = .sampleWait ∨ l'.state = .sampling) ∧ l'.concentration = l.concentration ∧
        (handLeftValid 4 s).kept.accounts = s.kept.accounts)

/-- R29, R30, R90, R91, R153 and R154: a window with 3 or more readings gives the lot their mean, rounded down. After a
polish the removed mass is booked: with no cartridge in the train, to CARTRIDGE_REMOVED; else to CARTRIDGE_LOADED and in
shares onto the train, where in train order each ACTIVE cartridge with an ACTIVE one behind it takes up to its room, the
last ACTIVE the rest, and with none ACTIVE the lag all. A cartridge that receives mass is judged for exhaustion. A lot
within the limit, or with no usable permit, joins the Discharge Queue; one above it goes to Polish Wait while passes are
left, and is held after that. That an account and a cartridge hold at 10^15 - 1 mg each on its own is assumption 36; that a
lot without a concentration loses no silver to the train is assumption 27. -/
def Obligations.LotSampled : Prop :=
  ∀ (dt : Micros) (s : State) (t : Fin 3) (l : Lot),
    s.awake = true → timerDue s.sampler.window (s.now + dt) = true → 3 ≤ s.sampler.count →
    s.samplerTank = some t → s.lotIn t = some l → s.path.state ≠ .idle → s.kept.sampleWait = [] →
    let c := s.sampler.sum / s.sampler.count
    let before := l.concentration.getD c
    let mass := if l.removalPending = true then (before - c) * l.current / 1000000 else 0
    let top := 10 ^ 15 - 1
    let train := s.kept.train
    let active (k : Cartridge) : Prop := k.exhausted = false
    let given (k : Cartridge) (q : Nat) : Cartridge :=
      if q = 0 then k
      else
        { k with
          loaded := min (k.loaded + q) top
          exhausted := k.exhausted || decide (k.capacity * s.kept.plant.exhaustPercent / 100 ≤ min (k.loaded + q) top) }
    ∃ u l', exec (.sampleWindowEnd dt) s = .next u ∧ u.lotIn t = some l' ∧ l'.number = l.number ∧
      l'.concentration = some c ∧ l'.attempts = 0 ∧ l'.removalPending = false ∧ l'.current = l.current ∧
      l'.previous = (if l.removalPending = true then l.concentration else l.previous) ∧
      u.sampler.state = .idle ∧
      (mass = 0 → u.kept.accounts = s.kept.accounts ∧ u.kept.train = train) ∧
      (mass ≠ 0 → train = [] → u.kept.train = [] ∧ u.kept.accounts =
        { s.kept.accounts with cartridgeRemoved := min (s.kept.accounts.cartridgeRemoved + mass) top }) ∧
      (mass ≠ 0 → train ≠ [] →
        u.kept.accounts =
          { s.kept.accounts with cartridgeLoaded := min (s.kept.accounts.cartridgeLoaded + mass) top } ∧
        (∃ shares : List Nat, shares.length = train.length ∧ shares.sum = mass ∧
          u.kept.train = List.zipWith given train shares ∧
          ∀ (front back : List Cartridge) (k : Cartridge), train = front ++ k :: back →
            let share := shares.getD front.length 0
            ((∃ d ∈ train, active d) → ¬active k → share = 0) ∧
            (active k → (∃ d ∈ back, active d) →
              share = min (k.capacity - k.loaded) (mass - (shares.take front.length).sum)) ∧
            ((∀ d ∈ train, ¬active d) → back ≠ [] → share = 0)) ∧
        ((∃ p ∈ train.zip u.kept.train, active p.1 ∧ ¬active p.2) → u.latched .cartridgeExhausted = true)) ∧
      (s.usablePermit = none ∨ (∃ p, s.usablePermit = some p ∧ c ≤ p.limit) →
        l'.state = .queued ∧ u.kept.dischargeQueue = s.kept.dischargeQueue ++ [l.number]) ∧
      (∀ p, s.usablePermit = some p → p.limit < c →
        (l.passes < s.kept.plant.maxPasses ∨ l.hostPass = true →
          l'.state = .polishWait ∧ u.kept.polishWait = s.kept.polishWait ++ [l.number]) ∧
        (s.kept.plant.maxPasses ≤ l.passes → l.hostPass = false →
          l'.state = .held ∧ l'.holdReason = some .polishExhausted ∧ u.latched .lotHeld = true))

/-! ### The Cartridge Train -/

/-- R154, R157 and R158: a cartridge joins at the lag, ACTIVE unless its threshold is 0; the lead leaves with its loaded
mass, which moves from CARTRIDGE_LOADED to CARTRIDGE_REMOVED. A full train, a serial already there, an empty train, a
polish and a serial that is not the lead's are WRONG_STATE. That CARTRIDGE_LOADED stops at 0 at a removal is the model's
choice (assumption 36). -/
def Obligations.CartridgesChanged : Prop :=
  ∀ (dt : Micros) (tag : Byte) (s : State) (serial : Nat), LinkReady 1 s → 1 ≤ serial → serial ≤ 65535 →
    let x := s.after dt
    let present := ∃ c ∈ s.kept.train, c.serial = serial
    (∀ capacity : Nat, 1 ≤ capacity → capacity ≤ 10000000 →
      let r : Request := .installCartridge serial capacity
      let threshold := capacity * s.kept.plant.exhaustPercent / 100
      let train := s.kept.train ++
        [{ serial := serial, capacity := capacity, loaded := 0, installed := s.stamp, exhausted := decide (threshold = 0) }]
      (3 ≤ s.kept.train.length ∨ present →
        exec (.installCartridge dt tag serial capacity) s = .next (withStatus r tag .wrongState x)) ∧
      (s.kept.train.length < 3 → ¬present →
        ∃ t, exec (.installCartridge dt tag serial capacity) s = .next t ∧
          HasReply r tag .ok (.cartridgeInstalled (s.kept.train.length + 1) (decide (threshold = 0)) threshold) t ∧
          t.kept.train = train ∧ t.kept.accounts = s.kept.accounts ∧
          (s.path.state ≠ .idle → AlikeButFrames
            (latchIf (decide (threshold = 0)) .cartridgeExhausted { x with kept := { s.kept with train := train } }) t))) ∧
    (s.kept.train = [] ∨ s.path.state = .polish ∨ (∃ lead rest, s.kept.train = lead :: rest ∧ lead.serial ≠ serial) →
      exec (.removeCartridge dt tag serial) s = .next (withStatus (.removeCartridge serial) tag .wrongState x)) ∧
    (∀ (lead : Cartridge) (rest : List Cartridge), s.kept.train = lead :: rest → lead.serial = serial →
      s.path.state ≠ .polish →
      exec (.removeCartridge dt tag serial) s =
        .next (withBody (.removeCartridge serial) tag (.cartridgeRemoved lead rest.length)
          { x with kept := { s.kept with
            train := rest
            accounts := { s.kept.accounts with
              cartridgeLoaded := s.kept.accounts.cartridgeLoaded - lead.loaded
              cartridgeRemoved := min (s.kept.accounts.cartridgeRemoved + lead.loaded) (10 ^ 15 - 1) } } }))

/-! ### The Outlet Path -/

/-- R130 and R137: after every step, a discharge in progress stands under a usable permit, a clock that runs, an open
window, discharge enabled, a self-test passed and a known day. -/
def Obligations.DischargeGuardedKept : Prop :=
  ∀ s t : State, DischargeGuarded s → step s = .next t → DischargeGuarded t

/-- R110, R112, R129 to R133, R136, R142 and R144: when the closing timer ends a drain and every release condition
holds, the queue head is taken for discharge with its grant, and with LOW uncovered it drains at once. When the
allowance alone is wanting, CAP_REACHED latches with its day flag; when another condition fails, the grant's minimum and
the usable permit among them, nothing changes at the head and no CAP_REACHED latches. A digest that does not match at
the decision's own check is found corrupt, and a pending permit is activated. A head above the limit is moved aside, to
Polish Wait while passes are left and else to HELD. With no lot queued, or no usable permit, the oldest Polish Wait lot
is taken for polish, with its pass target and valve set, while a cartridge is ACTIVE; with LOW uncovered it is held at
once. That each take makes the other use's figure absent is assumption 17. A lot without a concentration counts as 0
(assumption 27), and a shortfall has no top (assumption 15). -/
def Obligations.ReleaseJudged : Prop :=
  ∀ (dt : Micros) (s : State) (n : Nat) (rest : List Nat) (t : Fin 3) (l : Lot),
    s.awake = true → timerDue s.path.closing (s.now + dt) = true → s.path.hold = false → s.path.started = true →
    s.tankOfLot n = some t → s.lotIn t = some l →
    let c := l.concentration.getD 0
    let day := s.kept.day
    let i : Instr := .closingTimerExpired dt
    let drain : Option Timer := some { start := s.now + dt, len := s.kept.tankSettings[t].drainLimit * sec }
    (∀ p : Permit, s.kept.dischargeQueue = n :: rest → s.usablePermit = some p →
      s.kept.permit.digest = some (digestOf p) → c ≤ p.limit →
      let opened := s.clock.running = true ∧ s.permit.windowOpen = true ∧ s.permit.enable = true ∧
        s.startUp.selfTestPassed = true ∧ day.unknown = false
      let allowance := (p.cap - day.total.mg - p.reserve) * 1000000 / c
      let grant : Grant :=
        if l.current = 0 then if c = 0 then .unbounded else .volume allowance
        else .volume (if c = 0 then l.current else min l.current allowance)
      (opened → p.reserve + day.total.mg < p.cap → s.covered (.tankLow t) = true →
        (∀ v, grant = .volume v → p.minDischarge ≤ v ∨ (0 < l.current ∧ v = l.current)) →
        ∃ u l', exec i s = .next u ∧
          u.path = { s.path with
            state := .discharge, lot := some n, use := some .discharge, tank := some t, grant := some grant, metered := 0,
            passTarget := none, overrun := 0, stopCause := none, closing := none, dropped := none, drain := drain } ∧
          u.kept.tanks[t].state = .draining ∧ u.lotIn t = some l' ∧ l'.state = .discharging ∧ l'.current = l.current ∧
          u.kept.dischargeQueue = rest.filter (· ≠ n) ∧ u.kept.day = s.kept.day ∧
          u.outletOutputs =
            { outlet := some t, pump := true, dischargeValve := true, polishValve := false, returnValve := none }) ∧
      (opened → p.reserve + day.total.mg < p.cap → s.covered (.tankLow t) = false →
        (∀ v, grant = .volume v → p.minDischarge ≤ v ∨ (0 < l.current ∧ v = l.current)) →
        ∃ u, exec i s = .next u ∧ u.path.state = .stopping ∧ u.path.stopCause = some .drained ∧ u.path.drain = none ∧
          u.path.closing = some { start := s.now + dt, len := s.kept.plant.closing * sec } ∧
          u.path.lot = some n ∧ u.path.grant = some grant ∧ u.path.metered = 0 ∧
          u.kept.dischargeQueue = rest.filter (· ≠ n) ∧ u.kept.accounts = s.kept.accounts ∧
          u.kept.history =
            (s.kept.history ++
              [{ l with shortfall := l.shortfall + l.current, current := 0 }.record t .discharged s.stamp 0 false]).drop
              (s.kept.history.length + 1 - 16)) ∧
      (s.kept.polishWait = [] →
        (opened → p.reserve + day.total.mg < p.cap →
          (∃ v, grant = .volume v ∧ v < p.minDischarge ∧ ¬(0 < l.current ∧ v = l.current)) →
          ∃ u, exec i s = .next u ∧ u.path.state = .idle ∧ u.kept = s.kept ∧ u.flags = s.flags) ∧
        (opened → p.cap ≤ p.reserve + day.total.mg →
          ∃ u, exec i s = .next u ∧ u.path.state = .idle ∧ u.latched .capReached = true ∧
            u.kept = { s.kept with day := { day with flags := { day.flags with capReached := true } } }) ∧
        (¬opened → ∃ u, exec i s = .next u ∧ u.path.state = .idle ∧ u.kept = s.kept ∧ u.flags = s.flags))) ∧
    (∀ p : Permit, s.kept.dischargeQueue = n :: rest → s.usablePermit = some p →
      s.kept.permit.digest = some (digestOf p) → p.limit < c → s.kept.tanks[t].state = .closed →
      s.covered (.tankLow t) = true →
      ∃ u l', exec i s = .next u ∧ u.lotIn t = some l' ∧ l'.number = n ∧ l'.hostPass = false ∧ l'.current = l.current ∧
        n ∉ u.kept.dischargeQueue ∧
        (l.passes < s.kept.plant.maxPasses ∨ l.hostPass = true → l'.state = .polishWait ∨ l'.state = .polishing) ∧
        (s.kept.plant.maxPasses ≤ l.passes → l.hostPass = false →
          l'.state = .held ∧ l'.holdReason = some .polishExhausted ∧ u.latched .lotHeld = true)) ∧
    (s.kept.dischargeQueue = n :: rest → s.kept.polishWait = [] →
      (s.usablePermit = none →
        ∃ u, exec i s = .next u ∧ u.path.state = .idle ∧ u.kept = s.kept ∧ u.flags = s.flags) ∧
      (∀ p : Permit, s.usablePermit = some p → s.kept.permit.digest ≠ some (digestOf p) → s.kept.permit.next = none →
        ∃ u, exec i s = .next u ∧ u.path.state = .idle ∧ u.latched .permitCorrupt = true ∧
          u.permit = { check := none, enable := s.permit.enable, windowOpen := false } ∧
          u.kept = { s.kept with
            permit := { s.kept.permit with corrupt := true }
            day := { day with flags := { day.flags with permitCorrupt := true } } }) ∧
      (∀ p q : Permit, s.usablePermit = some p → s.kept.permit.digest ≠ some (digestOf p) →
        s.kept.permit.next = some q →
        ∃ u, exec i s = .next u ∧ u.latched .permitCorrupt = false ∧ u.kept.day.flags.permitCorrupt = true ∧
          u.kept.day.dayStart = q.dayStart ∧
          u.kept.permit = { active := some q, digest := some (digestOf q), corrupt := false, next := none })) ∧
    (s.kept.dischargeQueue = [] ∨ s.usablePermit = none → s.kept.polishWait = n :: rest →
      ((∃ k ∈ s.kept.train, k.exhausted = false) → s.covered (.tankLow t) = false →
        ∃ u l', exec i s = .next u ∧ u.path.state = .stopping ∧ u.path.stopCause = some .levelLost ∧
          u.path.drain = none ∧ u.path.lot = some n ∧ u.kept.polishWait = rest.filter (· ≠ n) ∧
          u.kept.accounts = s.kept.accounts ∧ u.lotIn t = some l' ∧ l'.state = .held ∧
          l'.holdReason = some .levelLost ∧ l'.current = l.current ∧ u.latched .lotHeld = true) ∧
      ((∃ k ∈ s.kept.train, k.exhausted = false) → s.covered (.tankLow t) = true →
        ∃ u l', exec i s = .next u ∧
          u.path = { s.path with
            state := .polish, lot := some n, use := some .polish, tank := some t, grant := none
            passTarget := some (s.kept.plant.turnovers *
              if l.current = 0 then s.kept.tankSettings[t].capacity else l.current)
            polishVolume := 0, overrun := 0, stopCause := none, closing := none, dropped := none, drain := drain } ∧
          u.kept.tanks[t].state = .draining ∧ u.lotIn t = some l' ∧ l'.state = .polishing ∧ l'.removalPending = true ∧
          l'.current = l.current ∧ l'.concentration = l.concentration ∧ u.kept.polishWait = rest.filter (· ≠ n) ∧
          u.kept.accounts = s.kept.accounts ∧
          u.outletOutputs =
            { outlet := some t, pump := true, dischargeValve := false, polishValve := true, returnValve := some t }) ∧
      ((∀ k ∈ s.kept.train, k.exhausted = true) →
        ∃ u, exec i s = .next u ∧ u.path.state = .idle ∧ u.kept = s.kept ∧ u.flags = s.flags))

/-- R123, R137, R139 and R142: discharge enable is set and cleared, and clearing it returns the lot in discharge; the drain
timer holds the lot that drains; with no lot waiting, the closing timer leaves the path IDLE. -/
def Obligations.DrainEnds : Prop :=
  ∀ (dt : Micros) (tag : Byte) (s : State),
    let x := s.after dt
    let closing : Option Timer := some { start := x.now, len := s.kept.plant.closing * sec }
    let answer (n : Nat) (t : State) : Prop :=
      exec (.setDischargeEnable dt tag n) s = .next (withStatus (.setDischargeEnable n) tag .ok t)
    (LinkReady 1 s →
      (s.permit.enable = false → answer 0 x) ∧
      (s.permit.enable = true → s.path.state ≠ .discharge →
        answer 0 { x with permit := { s.permit with enable := false } }) ∧
      (∀ (t : Fin 3) (l : Lot), s.permit.enable = true → s.path.state = .discharge → s.path.tank = some t →
        s.lotIn t = some l →
        ∃ u, exec (.setDischargeEnable dt tag 0) s = .next u ∧ HasReply (.setDischargeEnable 0) tag .ok .empty u ∧
          u.permit.enable = false ∧ u.path.state = .stopping ∧ u.path.stopCause = some .disabled ∧
          u.path.closing = closing ∧ u.kept.dischargeQueue = l.number :: s.kept.dischargeQueue ∧
          u.kept.tanks[t].state = .closed ∧ u.store.inFlight.isSome = true) ∧
      (s.supply.hold = false → s.permit.enable = true → answer 1 x) ∧
      (s.supply.hold = false → s.permit.enable = false → s.path.state ≠ .idle →
        answer 1 { x with permit := { s.permit with enable := true } }) ∧
      (s.supply.hold = false → ∃ u, exec (.setDischargeEnable dt tag 1) s = .next u ∧
        HasReply (.setDischargeEnable 1) tag .ok .empty u ∧ u.permit.enable = true)) ∧
    (∀ (t : Fin 3) (l : Lot), s.awake = true → timerDue s.path.drain x.now = true →
      s.path.state = .discharge ∨ s.path.state = .polish → s.path.tank = some t → s.lotIn t = some l →
      ∃ u l', exec (.drainTimerExpired dt) s = .next u ∧ u.path.state = .stopping ∧
        u.path.stopCause = some .drainTimeout ∧ u.path.drain = none ∧ u.path.closing = closing ∧
        u.lotIn t = some l' ∧ l'.state = .held ∧ l'.holdReason = some .drainTimeout ∧ l'.current = l.current ∧
        u.latched .drainTimeout = true ∧ u.latched .lotHeld = true) ∧
    (s.awake = true → timerDue s.path.closing x.now = true → s.kept.dischargeQueue = [] → s.kept.polishWait = [] →
      ∃ u, exec (.closingTimerExpired dt) s = .next u ∧ AlikeButFrames { x with
        path := { s.path with
          state := .idle, lot := none, tank := none, use := none, drain := none, closing := none, dropped := none } } u)

/-! ### Permit, clock and day -/

/-- R108 and R110: the check timer restarts and compares the digest; with no usable active permit it is stopped. A mismatch
marks the permit corrupt, stops the timer, ends a discharge, latches PERMIT_CORRUPT with its day flag, closes the window,
and activates a pending permit. That PERMIT_MEMORY_FAULT carries the fields and the digest that the memory comes to hold,
and alters only the working copy, is the model's choice (assumption 25). -/
def Obligations.PermitChecked : Prop :=
  ∀ (dt : Micros) (s : State), s.awake = true →
    let x := s.after dt
    let restarted : State := { x with permit := { s.permit with check := some { start := x.now, len := 60 * sec } } }
    let due := timerDue s.permit.check x.now = true
    (∀ (p : Permit) (digest : BitVec 32), s.kept.permit.active.isSome →
      exec (.permitMemoryFault dt p digest) s = .next { x with
        kept := { s.kept with permit := { s.kept.permit with active := some p, digest := some digest } } }) ∧
    (due → s.usablePermit = none →
      exec (.permitCheckTimer dt) s = .next { x with permit := { s.permit with check := none } }) ∧
    (∀ p : Permit, due → s.usablePermit = some p →
      (s.kept.permit.digest = some (digestOf p) → exec (.permitCheckTimer dt) s = .next restarted) ∧
      (s.kept.permit.digest ≠ some (digestOf p) → s.kept.permit.next = none →
        ∃ u, exec (.permitCheckTimer dt) s = .next u ∧ u.kept.permit = { s.kept.permit with corrupt := true } ∧
          u.permit = { check := none, enable := s.permit.enable, windowOpen := false } ∧
          u.latched .permitCorrupt = true ∧ u.kept.day.flags = { s.kept.day.flags with permitCorrupt := true } ∧
          (s.path.state = .discharge → u.path.state = .stopping ∧ u.path.stopCause = some .permitCorrupt) ∧
          (s.path.state ≠ .discharge → u.path = s.path)) ∧
      (∀ q : Permit, s.kept.permit.digest ≠ some (digestOf p) → s.kept.permit.next = some q →
        ∃ u, exec (.permitCheckTimer dt) s = .next u ∧ u.kept.permit =
            { active := some q, digest := some (digestOf q), corrupt := false, next := none } ∧
          u.kept.day.dayStart = q.dayStart ∧ u.kept.day.flags.permitCorrupt = true ∧
          u.latched .permitCorrupt = false))

/-- R111, R113, R116 and R117: an UNSET clock stands; a RUNNING one advances a second, from 86,399 to 0 of the next day
count, which holds at 65,535. A minute change judges the window: one that closes ends a discharge, and one that opens
brings a decision of the arbiter, which an IDLE path takes. When the second gives a later permit day, a rollover records
the day now ending, clears its figures and orders a write. That the day number is the one given with the day start
before the rollover activates a pending permit is the model's reading (assumption 18); CLOCK_SECOND is an event of its
own (assumption 11). -/
def Obligations.ClockAdvances : Prop :=
  ∀ (dt : Micros) (s : State), s.awake = true →
    let x := s.after dt
    let clock : Clock := { s.clock with
      second := if s.clock.second = 86399 then 0 else s.clock.second + 1
      dayCount := if s.clock.second = 86399 then min (s.clock.dayCount + 1) 65535 else s.clock.dayCount }
    let given := if s.kept.day.dayStart * 60 ≤ clock.second then clock.dayCount else clock.dayCount - 1
    let advanced : State := { x with clock := clock }
    let due := s.kept.day.established = true ∧ s.kept.day.number < given
    (s.clock.running = false → exec (.clockSecond dt) s = .next x) ∧
    (s.clock.running = true → s.clock.second / 60 = clock.second / 60 → ¬due →
      exec (.clockSecond dt) s = .next advanced) ∧
    (s.clock.running = true → ¬due → advanced.windowNow = s.permit.windowOpen →
      ∃ t, exec (.clockSecond dt) s = .next t ∧ AlikeButFrames advanced t) ∧
    (s.clock.running = true → s.clock.second / 60 ≠ clock.second / 60 → ¬due → s.permit.windowOpen = true →
      advanced.windowNow = false →
      ∃ t, exec (.clockSecond dt) s = .next t ∧ t.clock = clock ∧ t.permit.windowOpen = false ∧
        (s.path.state ≠ .discharge → t.path = s.path ∧ t.kept = s.kept) ∧
        (s.path.state = .discharge → t.path.state = .stopping ∧ t.path.stopCause = some .windowClosed)) ∧
    (s.clock.running = true → s.clock.second / 60 ≠ clock.second / 60 → ¬due → s.permit.windowOpen = false →
      advanced.windowNow = true →
      (s.path.state ≠ .idle ∨ s.path.hold = true ∨ s.path.started = false →
        ∃ t, exec (.clockSecond dt) s = .next t ∧
          AlikeButFrames { advanced with permit := { s.permit with windowOpen := true } } t) ∧
      (∀ p : Permit, s.usablePermit = some p → s.kept.permit.digest = some (digestOf p) →
        ∃ t, exec (.clockSecond dt) s = .next t ∧ t.clock = clock ∧
          t.permit = { s.permit with windowOpen := true })) ∧
    (s.clock.running = true → due → advanced.windowNow = s.permit.windowOpen →
      ∃ t, exec (.clockSecond dt) s = .next t ∧ t.clock = clock ∧ t.kept.day.number = given ∧
        t.kept.day.total = { mg := 0, residue := 0 } ∧ t.kept.day.volume = 0 ∧ t.kept.day.wash = 0 ∧
        t.kept.day.plated = 0 ∧ t.kept.day.unknown = false ∧
        t.kept.dayHistory = (s.kept.dayHistory ++ [s.dayRecord]).drop (s.kept.dayHistory.length + 1 - 8) ∧
        t.store.inFlight.isSome = true ∧ t.kept.accounts = s.kept.accounts)

/-! ### Supply, start-up and FACTORY RESET -/

/-- R58, R74, R101, R147 and R187: a supply below its threshold enters HOLD, which turns the outputs off; recovery waits
100 ms above the threshold by more than 0.10 V, and returns the blocks. That the judgement runs from SELF_TEST_END on,
so that a part held or in its self-test only takes the new level, and that a part held below 3.0 V starts by POWER_ON,
are the model's choices (assumptions 5 and 12). The Sampler ends its attempt in a hold in every state, also in one that
no run reaches, where it runs without a live lot. -/
def Obligations.SupplyHold : Prop :=
  ∀ (dt : Micros) (s : State) (level : Nat) (i : Instr), i = .supplyFall dt level ∨ i = .supplyRise dt level →
    let x := s.after dt
    let set (supply : Supply) : Prop := exec i s = .next { x with supply := supply }
    let threshold := thresholdOf s.kept.plant.threshold
    (300 ≤ level → s.awake = false → set { s.supply with level := level }) ∧
    (300 ≤ level → s.awake = true →
      (s.supply.hold = false → threshold ≤ level → set { s.supply with level := level }) ∧
      (s.supply.hold = false → level < threshold → CellsAtRest s →
        ∃ t, exec i s = .next t ∧ t.supply = { level := level, hold := true, recovery := none } ∧ OutputsOff t ∧
          t.path.state = .idle ∧ t.path.hold = true ∧ t.latched .supplyLow = true ∧ t.store.inFlight.isSome = true ∧
          t.sump.hold = true ∧ t.sampler.hold = true ∧ t.sampler.state = .idle ∧ t.kept.accounts = s.kept.accounts ∧ t.kept.day.total = s.kept.day.total ∧
          (∀ c : Fin 4, t.cells[c].hold = true) ∧ ∀ l : Fin 4, t.loops[l].hold = true) ∧
      (s.supply.hold = true → level ≤ threshold + 10 → set { s.supply with level := level, recovery := none }) ∧
      (s.supply.hold = true → threshold + 10 < level → set { s.supply with
        level := level, recovery := some (s.supply.recovery.getD { start := x.now, len := 100 * ms }) })) ∧
    (s.awake = true → timerDue s.supply.recovery x.now = true →
      ∃ t, exec (.supplyRecovery dt) s = .next t ∧ t.supply = { s.supply with hold := false, recovery := none } ∧
        (∀ c : Fin 4, t.cells[c].hold = false) ∧ (∀ l : Fin 4, t.loops[l].hold = false) ∧ t.sump.hold = false ∧
        t.sampler.hold = false ∧ t.path.hold = false ∧
        ∀ c : Fin 4, s.cells[c].state = .regulating → s.cells[c].flowCovered = false →
          t.cells[c].state = .priming ∧ t.cells[c].priming = some { start := x.now, len := 60 * sec })

/-- R173, R187 and R189: below 3.0 V and with RESET low the part is held, its running state and a write in flight lost and
its stored image kept; a release of RESET and power-on begin the self-test, with the bit rate of the straps, unless the
pin or the supply still holds the part. -/
def Obligations.PartHeldAndStarted : Prop :=
  ∀ (dt : Micros) (s : State) (level : Nat) (sel1 sel0 : Bool),
    let rate := match sel1, sel0 with
      | false, false => 9600
      | false, true => 19200
      | true, false => 57600
      | true, true => 115200
    let cleared (phase : Phase) (t : State) : Prop :=
      t.phase = phase ∧ t.store = { image := s.store.image, inFlight := none, waiting := none } ∧
      t.path.state = .idle ∧ t.alertActive = false ∧ t.link.inbound = [] ∧ t.link.outbound = [] ∧ t.link.notices = [] ∧
      t.link.faulted = false ∧ t.supply.hold = false ∧ t.clock.running = false ∧ t.permit.enable = false ∧
      (∀ f : Flag, t.latched f = false) ∧ (∀ c : Fin 4, t.cells[c].state = .off ∧ t.driveHigh c = false) ∧
      (∀ i : Fin 12, t.switches[i] = { pin := s.switches[i].pin, accepted := none, debounce := none }) ∧
      t.pending = s.pending
    (∃ t, exec (.supplyBelowReset dt level) s = .next t ∧ cleared .held t ∧ t.supply.level = level ∧
      t.resetLow = s.resetLow) ∧
    (level < 300 → ∃ t, exec (.supplyFall dt level) s = .next t ∧ cleared .held t) ∧
    (∃ t, exec (.resetPinLow dt) s = .next t ∧ cleared .held t ∧ t.resetLow = true ∧
      t.supply.level = s.supply.level) ∧
    (∃ t, exec (.resetPin dt sel1 sel0) s = .next t ∧ t.resetLow = false ∧
      cleared (if s.supply.level < 300 then .held else .selfTest) t ∧
      (300 ≤ s.supply.level → t.link.bitRate = rate ∧ t.now = 0)) ∧
    (∃ t, exec (.powerOn dt level sel1 sel0) s = .next t ∧ t.supply.level = level ∧
      cleared (if s.resetLow = true ∨ level < 300 then .held else .selfTest) t ∧
      (s.resetLow = false → 300 ≤ level → t.link.bitRate = rate ∧ t.now = 0))

/-- R60, R125, R166, R187 to R191: at the end of the self-test a readable image whose CRC matches is restored, and else
every setting and account takes its default and RESTORE_FAILED latches; the clock is UNSET, discharge off, and the
flags latch as the results stand. The supply is judged before the blocks begin: below the restored threshold every hold
mark is set, SUPPLY_LOW latches and no write is ordered. A cell with autostart and a bound line begins in PRIMING, its
priming timer stopped in a hold. What the self-test finds and how the image reads back are operands (assumption 6), the
permit day number of a failed restore is 0 (assumption 33), and that these parts of the start-up come with
SELF_TEST_END is assumption 5. -/
def Obligations.ImageRestored : Prop :=
  ∀ (dt : Micros) (s : State) (memoryGood storeReadable imageMatches : Bool),
    let i : Instr := .selfTestEnd dt memoryGood storeReadable imageMatches
    let good := storeReadable = true ∧ imageMatches = true
    (s.phase ≠ .selfTest → exec i s = .next (s.after dt)) ∧
    (s.phase = .selfTest → ∃ t, exec i s = .next t ∧ t.phase = .restoring ∧ t.clock.running = false ∧
      t.permit.enable = false ∧ t.path.state = .idle ∧ t.latched .clockUnset = true ∧
      t.latched .selfTestFailed = (!memoryGood || !storeReadable) ∧
      (let low := decide (s.supply.level < thresholdOf t.kept.plant.threshold)
       t.supply = { level := s.supply.level, hold := low, recovery := none } ∧ t.latched .supplyLow = low ∧
       t.sump.hold = low ∧ t.sampler.hold = low ∧ t.path.hold = low ∧ (∀ l : Fin 4, t.loops[l].hold = low) ∧
       t.store.inFlight = s.store.inFlight ∧ t.store.waiting = s.store.waiting ∧
       ∀ c : Fin 4, t.cells[c].hold = low ∧
         (t.kept.cells[c].autostart = true ∧ t.kept.cells[c].line.isSome →
           t.cells[c].state = .priming ∧
           t.cells[c].priming = if low then none else some { start := s.now + dt, len := 60 * sec }) ∧
         (t.kept.cells[c].autostart = false ∨ t.kept.cells[c].line = none → t.cells[c].state = .off)) ∧
      (¬good ∨ s.store.image = none ∨ (∃ i, s.store.image = some i ∧ i.crc ≠ crc32 (Config.imageBytes i.content)) →
        t.kept = Kept.fresh ∧ t.store.image = none ∧ t.latched .restoreFailed = true) ∧
      (∀ k : Kept, good → s.store.image = some { content := k, crc := crc32 (Config.imageBytes k) } →
        t.latched .restoreFailed = false ∧ t.kept.accounts = k.accounts ∧ t.kept.channels = k.channels ∧
        t.kept.analyzers = k.analyzers ∧ t.kept.films = k.films ∧ t.kept.lines = k.lines ∧ t.kept.cells = k.cells ∧
        t.kept.tankSettings = k.tankSettings ∧ t.kept.plant = k.plant ∧ t.kept.alertMask = k.alertMask ∧
        t.kept.noticeMask = k.noticeMask ∧ t.kept.train = k.train ∧ t.kept.history = k.history ∧
        t.kept.dayHistory = k.dayHistory ∧ t.kept.day.total = k.day.total ∧ t.kept.day.number = k.day.number ∧
        ∀ (u : Fin 3) (l : Lot), k.tanks[u].lot = some l → t.lotIn u = some { l with
          state := match l.state with
            | .discharging => .queued
            | .polishing => .polishWait
            | .sampling => .sampleWait
            | state => state }))

/-- R18, R102, R149, R187, R188, R189 and R191: the restore ends in the NORMAL or the HOLD that the supply's judgement
has found; the switches are sampled one debounce time later, and Tank Control, the cells and the arbiter begin with
those levels. Tank Control finds switch faults, sets the call mark and the backup timer by SUMP_HIGH, closes or times a
restored FILLING lot by the max fill time and the capacity it was opened with (assumption 14), makes UNKNOWN_CONTENT
lots after a failed restore, and runs the fill selection and the pump's judgement. A write of the image leaves it in the
store with its CRC, and a waiting one starts. The model's choices: the supply is judged from SELF_TEST_END on, so that a
HOLD found before the restore's end stands until it recovers, and a state that no run reaches, NORMAL below the
threshold, is judged here without a write (assumption 5); LOT_HELD latches again for a lot HELD already whose tank's
switches disagree (assumption 19); Tank Control acts before the cells take their flow levels (assumption 10); the switch
fault tests take T1 first, the cells C1 (assumption 42); and the fill selection of a faulted FILLING tank comes before
the next tank is tested (assumption 44). -/
def Obligations.StartUpEnds : Prop :=
  (∀ (dt : Micros) (s : State),
    let x := s.after dt
    let levels : Option Timer := some { start := x.now, len := s.kept.plant.debounce * ms }
    let threshold := thresholdOf s.kept.plant.threshold
    (s.phase = .restoring → s.link.inbound = [] →
      (s.supply.hold = true ∨ threshold ≤ s.supply.level → exec (.restoreEnd dt) s = .next { x with
        phase := .running, startUp := { s.startUp with levels := levels } }) ∧
      (s.supply.hold = false → s.supply.level < threshold → s.path.state = .idle →
        ∃ t, exec (.restoreEnd dt) s = .next t ∧ t.phase = .running ∧ t.startUp.levels = levels ∧
          t.supply.hold = true ∧ t.path.hold = true ∧ t.latched .supplyLow = true ∧ t.store = s.store ∧
          (∀ c : Fin 4, t.cells[c].hold = true) ∧ ∀ l : Fin 4, t.loops[l].hold = true)) ∧
    (s.awake = true → timerDue s.startUp.levels x.now = true →
      ∃ t, exec (.switchStartingLevels dt) s = .next t ∧ t.startUp.levels = none ∧ t.sump.levelsTaken = true ∧
        t.path.started = true ∧
        ∀ i : Fin 12, t.switches[i] =
          { pin := s.switches[i].pin, accepted := some s.switches[i].pin, debounce := none }) ∧
    (s.awake = true → timerDue s.startUp.levels x.now = true →
      exec (.switchStartingLevels dt) s =
        .next (firstDecision ((List.finRange 4).foldl (fun u c => startingFlow c u) (takeLevels { x with
          switches := s.switches.map fun k => { k with accepted := some k.pin, debounce := none }
          startUp := { s.startUp with levels := none } })))) ∧
    (s.awake = true →
      (s.store.inFlight = none → exec (.imageWriteComplete dt) s = .next x) ∧
      ∀ w : ImageWrite, s.store.inFlight = some w →
        (s.store.waiting = none → exec (.imageWriteComplete dt) s = .next { x with
          store :=
            { image := some { content := w.content, crc := crc32 (Config.imageBytes w.content) }
              inFlight := none, waiting := none }
          startUp := { s.startUp with restoreStands := false } }) ∧
        ∀ kind : WriteKind, s.store.waiting = some kind → exec (.imageWriteComplete dt) s = .next { x with
          store := { image := none, inFlight := some { kind := kind, content := s.kept }, waiting := none }
          startUp := { s.startUp with restoreStands := false } })) ∧
  ∀ s : State, s.path.state = .idle →
    let u := takeLevels s
    let low (t : Fin 3) : Bool := s.covered (.tankLow t)
    let high (t : Fin 3) : Bool := s.covered (.tankHigh t)
    let call := s.covered .sumpHigh
    (∀ t : Fin 3, high t = true → low t = false →
      u.kept.tanks[t].state = .outOfService ∧ u.latched (.tankSwitchFault t) = true ∧
        ∀ l : Lot, s.lotIn t = some l → s.kept.tanks[t].state ≠ .outOfService → s.kept.tanks[t].state ≠ .empty →
          l.state ≠ .discharging ∧ l.state ≠ .polishing →
          u.latched .lotHeld = true ∧ ∃ l', u.lotIn t = some l' ∧ l'.number = l.number ∧ l'.current = l.current ∧
            l'.holdReason = some .switchFault) ∧
    (s.sump.pump = false → s.sump.callMark = false → s.sump.backupTimer = none →
      u.sump.callMark = call ∧
        u.sump.pump = (u.fillingTank.isSome && call && s.covered .sumpLow && !s.sump.hold) ∧
        u.sump.backupTimer = if call && !u.sump.pump then
          some { start := s.now, len := s.kept.plant.backupDelay * sec } else none) ∧
    ((∃ t : Fin 3, u.kept.tanks[t].state = .empty) → u.fillingTank.isSome) ∧
    (∀ (t : Fin 3) (l : Lot), s.startUp.restored = true → s.fillingTank = some t → s.lotIn t = some l →
      (high t = false → u.kept.tanks[t].state = .filling ∧ u.timers[t].maxFill =
        if l.settings.maxFill = 0 then none
        else some { start := s.now, len := l.settings.maxFill * 3600 * sec }) ∧
      (high t = true → low t = true → u.kept.tanks[t].state = .closed ∧ ∃ l', u.lotIn t = some l' ∧
        l'.number = l.number ∧ l'.closed = some s.stamp ∧
        l'.volumeSuspect = (l.volumeSuspect || decide (l.filled * 2 < l.settings.capacity)))) ∧
    (s.startUp.restored = false → (∀ t : Fin 3, s.kept.tanks[t] = { state := .empty, lot := none }) →
      s.kept.sampleWait = [] → s.kept.nextLot = 1 → ∀ t : Fin 3,
      (low t = true → u.kept.tanks[t].state = .closed ∧ u.latched .lotHeld = true ∧ ∃ l, u.lotIn t = some l ∧
        l.number = ((List.finRange 3).filter fun v => decide (v < t) && low v).length + 1 ∧ l.state = .held ∧
        l.holdReason = some .unknownContent ∧ l.filled = 0 ∧ l.current = 0 ∧ l.volumeSuspect = true ∧
        l.concentration = none ∧ l.opened = { day := 0, second := none } ∧
        l.closed = some { day := 0, second := none }) ∧
      (low t = false → high t = false → (∀ v : Fin 3, v < t → low v = true ∨ high v = true) →
        u.kept.tanks[t].state = .filling))

/-- R192: FACTORY RESET is taken with no lot but an unfilled FILLING one, the path IDLE and every cell OFF. It returns the
settings, accounts, Lot History and train to their defaults, keeps the permit, the day, the lots and the lot number, and
orders a write. -/
def Obligations.FactoryReset : Prop :=
  ∀ (dt : Micros) (tag : Byte) (s : State), LinkReady 1 s →
    let quiet := (∀ t l, s.lotIn t = some l → l.state = .filling ∧ l.filled = 0) ∧ s.path.state = .idle ∧
      ∀ c : Fin 4, s.cells[c].state = .off
    (¬quiet → exec (.factoryReset dt tag) s = .next (withStatus .factoryReset tag .wrongState (s.after dt))) ∧
    (quiet → s.supply.hold = true ∨ 450 ≤ s.supply.level →
      ∃ t, exec (.factoryReset dt tag) s = .next t ∧ HasReply .factoryReset tag .ok .empty t ∧
        t.kept = { s.kept with
          channels := Vector.replicate 16 ChannelSettings.default
          analyzers := Vector.ofFn AnalyzerSettings.default
          films := Vector.replicate 16 0
          lines := Vector.replicate 4 LineSettings.default
          cells := Vector.ofFn CellSettings.default
          tankSettings := Vector.replicate 3 TankSettings.default
          plant := PlantSettings.default
          alertMask := Vector.replicate 16 true
          noticeMask := Vector.replicate 33 true
          accounts := Accounts.zero
          history := []
          train := [] } ∧
        t.store.inFlight.isSome = true ∧ t.clock = s.clock ∧ t.permit = s.permit ∧ t.path = s.path ∧
        t.flags = s.flags ∧ t.alertActive = (allFlags.any fun f => s.latched f) ∧
        (∀ l : Fin 4, t.loops[l].state = .off) ∧
        (∀ c : Fin 16, t.channels[c].moving = false ∧ t.channels[c].rate = 0 ∧ t.channels[c].block = none ∧
          (s.kept.channels[c].role ≠ .noRole → t.channels[c].count = 0) ∧
          (s.kept.channels[c].role = .noRole → t.channels[c].count = s.channels[c].count)) ∧
        ∀ a : Fin 5, t.analyzers[a].record = [] ∧ t.analyzers[a].state = s.analyzers[a].state)
end

