-- ==== Sys2Proof/Machine/Line.lean ====
section
/-! DEFINITION. The serial line under the Plant Link: a character as bits, the bits that LINK_TX sends, and how a
character's bits are read (R173). A bit is the line's level for one bit time: `true` is high. -/

namespace Sys2Proof.Machine

open Sys2Proof

/-- The level of an idle line. -/
def idleLevel : Bool := true

/-- The bits of a character in the order of the line: a start bit, low; eight data bits, least significant first; no
parity; one stop bit, high. -/
def charBits (b : Byte) : List Bool :=
  false :: (List.range 8).map b.getLsbD ++ [true]

/-- The byte that data bits carry, least significant first. -/
def byteOfBits (bits : List Bool) : Byte :=
  BitVec.ofNat 8 (bits.foldr (fun b n => bit b + 2 * n) 0)

/-- The character that ten received bits make: its byte, and whether its stop bit is low, a framing error. -/
def readChar (bits : List Bool) : Byte × Bool :=
  (byteOfBits ((bits.drop 1).take 8), !(bits.getD 9 idleLevel))

/-- The bits of a frame: its characters back to back. -/
def OutFrame.bits (f : OutFrame) : List Bool :=
  f.bytes.flatMap charBits

/-- The bits that LINK_TX is to send: the frames of the Outbound Queue back to back. -/
def State.txBits (s : State) : List Bool :=
  s.link.outbound.flatMap OutFrame.bits

/-- The level of LINK_TX in bit time `i` from the start of the oldest frame; idle behind the last frame, and idle in
reset and in the self-test, when no block runs. -/
def State.linkTx (s : State) (i : Nat) : Bool :=
  if s.awake then s.txBits.getD i idleLevel else idleLevel

end Sys2Proof.Machine
end

