-- ==== Sys2Proof/Laws/Bytes.lean ====
section
/-! SUPPORT. Byte order and the layout of fields: what is written most significant byte first is read back (R174). -/

namespace Sys2Proof

open Machine

@[simp] theorem Machine.beBytes_length (k n : Nat) : (beBytes k n).length = k := by
  induction k with
  | zero => rfl
  | succ k ih => simp [beBytes, ih]

theorem Machine.beNat_cons (b : Byte) (bs : List Byte) : beNat (b :: bs) = b.toNat * 256 ^ bs.length + beNat bs := by
  have key : ∀ (l : List Byte) (a : Nat),
      l.foldl (fun a b => a * 256 + b.toNat) a = a * 256 ^ l.length + l.foldl (fun a b => a * 256 + b.toNat) 0 := by
    intro l
    induction l with
    | nil => intro a; simp
    | cons c l ih =>
      intro a
      simp only [List.foldl_cons, List.length_cons]
      rw [ih (a * 256 + c.toNat), ih (0 * 256 + c.toNat)]
      ring
  simp only [beNat, List.foldl_cons]
  rw [key]
  simp

/-- A number is read back from its bytes modulo what they can hold. -/
theorem Machine.beNat_beBytes_mod (k n : Nat) : beNat (beBytes k n) = n % 256 ^ k := by
  induction k with
  | zero => simp [beBytes, beNat, Nat.mod_one]
  | succ k ih =>
    have parts : n % 256 ^ (k + 1) = n % 256 ^ k + 256 ^ k * (n / 256 ^ k % 256) := by
      rw [pow_succ 256 k]
      exact Nat.mod_mul
    have byte : (BitVec.ofNat 8 (n / 256 ^ k)).toNat = n / 256 ^ k % 256 := BitVec.toNat_ofNat _ _
    rw [beBytes, beNat_cons, ih, beBytes_length, byte, parts, Nat.add_comm, Nat.mul_comm]

/-- A number that fits is read back. -/
theorem Machine.beNat_beBytes (k n : Nat) (h : n < 256 ^ k) : beNat (beBytes k n) = n := by
  rw [beNat_beBytes_mod, Nat.mod_eq_of_lt h]

/-- One byte is read back as itself. -/
theorem Machine.beBytes_one (b : Byte) : beBytes 1 b.toNat = [b] := by
  simp [beBytes]

theorem pack_length (ws vs : List Nat) (h : ws.length = vs.length) : (pack ws vs).length = ws.sum := by
  induction ws generalizing vs with
  | nil => simp [pack]
  | cons w ws ih =>
    cases vs with
    | nil => simp at h
    | cons v vs => simp [pack, ih vs (by simpa using h)]

/-- Fields that fit their widths are read back. -/
theorem unpack_pack (ws vs : List Nat) (h : ws.length = vs.length)
    (hv : ∀ p ∈ ws.zip vs, p.2 < 256 ^ p.1) : unpack ws (pack ws vs) = vs := by
  induction ws generalizing vs with
  | nil => cases vs with
    | nil => rfl
    | cons v vs => simp at h
  | cons w ws ih =>
    cases vs with
    | nil => simp at h
    | cons v vs =>
      have hw : v < 256 ^ w := hv (w, v) (by simp)
      have hlen : (beBytes w v).length = w := beBytes_length w v
      simp only [unpack, pack]
      rw [List.take_left' hlen, List.drop_left' hlen, beNat_beBytes w v hw,
        ih vs (by simpa using h) (fun p hp => hv p (by simp [hp]))]

/-- A signed number that fits eight bytes is read back in two's complement (R33). -/
theorem Machine.signedBytes_read (n : Int) (h : -2 ^ 63 ≤ n ∧ n < 2 ^ 63) :
    (BitVec.ofNat 64 (beNat (signedBytes 8 n))).toInt = n := by
  have hn : (BitVec.ofInt 64 n).toNat < 256 ^ 8 := (BitVec.ofInt 64 n).isLt
  rw [signedBytes, beNat_beBytes _ _ hn, BitVec.ofNat_toNat, BitVec.setWidth_eq, BitVec.toInt_ofInt]
  exact Int.bmod_eq_of_le (by omega) (by omega)

/-- No frame that the part sends has more payload than R174 allows. -/
theorem Machine.OutFrame.payload_length (f : OutFrame) : f.payload.length ≤ payloadMost := by
  cases f with
  | reply kind tag r segment count =>
    simp [OutFrame.payload, segmentBytes, payloadMost]
    omega
  | notice n =>
    have hc : n.content.bytes.length ≤ segmentBytes := by
      unfold NoticeContent.bytes
      split
      · simp [DayRecord.bytes, segmentBytes]
      · exact List.length_take_le _ _
    simp only [OutFrame.payload, List.length_append, beBytes_length, payloadMost]
    simp only [segmentBytes] at hc
    omega

/-- The length byte of every frame that the part sends is between 2 and 250 (R174). -/
theorem Machine.OutFrame.length_byte (f : OutFrame) :
    (f.bytes.getD 1 0).toNat = f.payload.length + 2 ∧ 2 ≤ f.payload.length + 2 ∧ f.payload.length + 2 ≤ 250 := by
  have h : f.payload.length ≤ 248 := f.payload_length
  refine ⟨?_, by omega, by omega⟩
  simp only [OutFrame.bytes, frameBytes, List.cons_append, List.getD_cons_succ, List.getD_cons_zero,
    BitVec.toNat_ofNat]
  omega

/-- A character's bits are read back as its byte, with no framing error (R173). -/
theorem Machine.readChar_charBits (b : Byte) : readChar (charBits b) = (b, false) := by
  revert b
  decide +kernel

end Sys2Proof
end

