-- ==== Sys2Proof/Laws/State.lean ====
section
/-! SUPPORT. What each named update of `State` leaves in each field: one lemma per field per update, all by `rfl`, so
that no proof unfolds a record update. -/

namespace Sys2Proof.Machine

open Sys2Proof

variable (s : State)

/-! ### `State.modChannel` -/

@[simp] theorem State.modChannel_now (i : Fin 16) (f : Channel → Channel) : (s.modChannel i f).now = s.now := rfl
@[simp] theorem State.modChannel_choices (i : Fin 16) (f : Channel → Channel) : (s.modChannel i f).choices = s.choices := rfl
@[simp] theorem State.modChannel_phase (i : Fin 16) (f : Channel → Channel) : (s.modChannel i f).phase = s.phase := rfl
@[simp] theorem State.modChannel_resetLow (i : Fin 16) (f : Channel → Channel) : (s.modChannel i f).resetLow = s.resetLow := rfl
@[simp] theorem State.modChannel_supply (i : Fin 16) (f : Channel → Channel) : (s.modChannel i f).supply = s.supply := rfl
@[simp] theorem State.modChannel_startUp (i : Fin 16) (f : Channel → Channel) : (s.modChannel i f).startUp = s.startUp := rfl
@[simp] theorem State.modChannel_store (i : Fin 16) (f : Channel → Channel) : (s.modChannel i f).store = s.store := rfl
@[simp] theorem State.modChannel_kept (i : Fin 16) (f : Channel → Channel) : (s.modChannel i f).kept = s.kept := rfl
@[simp] theorem State.modChannel_channels (i : Fin 16) (f : Channel → Channel) : (s.modChannel i f).channels = modAt s.channels i f := rfl
@[simp] theorem State.modChannel_analyzers (i : Fin 16) (f : Channel → Channel) : (s.modChannel i f).analyzers = s.analyzers := rfl
@[simp] theorem State.modChannel_switches (i : Fin 16) (f : Channel → Channel) : (s.modChannel i f).switches = s.switches := rfl
@[simp] theorem State.modChannel_lines (i : Fin 16) (f : Channel → Channel) : (s.modChannel i f).lines = s.lines := rfl
@[simp] theorem State.modChannel_loops (i : Fin 16) (f : Channel → Channel) : (s.modChannel i f).loops = s.loops := rfl
@[simp] theorem State.modChannel_cells (i : Fin 16) (f : Channel → Channel) : (s.modChannel i f).cells = s.cells := rfl
@[simp] theorem State.modChannel_sump (i : Fin 16) (f : Channel → Channel) : (s.modChannel i f).sump = s.sump := rfl
@[simp] theorem State.modChannel_timers (i : Fin 16) (f : Channel → Channel) : (s.modChannel i f).timers = s.timers := rfl
@[simp] theorem State.modChannel_sampler (i : Fin 16) (f : Channel → Channel) : (s.modChannel i f).sampler = s.sampler := rfl
@[simp] theorem State.modChannel_permit (i : Fin 16) (f : Channel → Channel) : (s.modChannel i f).permit = s.permit := rfl
@[simp] theorem State.modChannel_clock (i : Fin 16) (f : Channel → Channel) : (s.modChannel i f).clock = s.clock := rfl
@[simp] theorem State.modChannel_path (i : Fin 16) (f : Channel → Channel) : (s.modChannel i f).path = s.path := rfl
@[simp] theorem State.modChannel_flags (i : Fin 16) (f : Channel → Channel) : (s.modChannel i f).flags = s.flags := rfl
@[simp] theorem State.modChannel_alertActive (i : Fin 16) (f : Channel → Channel) : (s.modChannel i f).alertActive = s.alertActive := rfl
@[simp] theorem State.modChannel_link (i : Fin 16) (f : Channel → Channel) : (s.modChannel i f).link = s.link := rfl
@[simp] theorem State.modChannel_pending (i : Fin 16) (f : Channel → Channel) : (s.modChannel i f).pending = s.pending := rfl

/-! ### `State.modAnalyzer` -/

@[simp] theorem State.modAnalyzer_now (i : Fin 5) (f : Analyzer → Analyzer) : (s.modAnalyzer i f).now = s.now := rfl
@[simp] theorem State.modAnalyzer_choices (i : Fin 5) (f : Analyzer → Analyzer) : (s.modAnalyzer i f).choices = s.choices := rfl
@[simp] theorem State.modAnalyzer_phase (i : Fin 5) (f : Analyzer → Analyzer) : (s.modAnalyzer i f).phase = s.phase := rfl
@[simp] theorem State.modAnalyzer_resetLow (i : Fin 5) (f : Analyzer → Analyzer) : (s.modAnalyzer i f).resetLow = s.resetLow := rfl
@[simp] theorem State.modAnalyzer_supply (i : Fin 5) (f : Analyzer → Analyzer) : (s.modAnalyzer i f).supply = s.supply := rfl
@[simp] theorem State.modAnalyzer_startUp (i : Fin 5) (f : Analyzer → Analyzer) : (s.modAnalyzer i f).startUp = s.startUp := rfl
@[simp] theorem State.modAnalyzer_store (i : Fin 5) (f : Analyzer → Analyzer) : (s.modAnalyzer i f).store = s.store := rfl
@[simp] theorem State.modAnalyzer_kept (i : Fin 5) (f : Analyzer → Analyzer) : (s.modAnalyzer i f).kept = s.kept := rfl
@[simp] theorem State.modAnalyzer_channels (i : Fin 5) (f : Analyzer → Analyzer) : (s.modAnalyzer i f).channels = s.channels := rfl
@[simp] theorem State.modAnalyzer_analyzers (i : Fin 5) (f : Analyzer → Analyzer) : (s.modAnalyzer i f).analyzers = modAt s.analyzers i f := rfl
@[simp] theorem State.modAnalyzer_switches (i : Fin 5) (f : Analyzer → Analyzer) : (s.modAnalyzer i f).switches = s.switches := rfl
@[simp] theorem State.modAnalyzer_lines (i : Fin 5) (f : Analyzer → Analyzer) : (s.modAnalyzer i f).lines = s.lines := rfl
@[simp] theorem State.modAnalyzer_loops (i : Fin 5) (f : Analyzer → Analyzer) : (s.modAnalyzer i f).loops = s.loops := rfl
@[simp] theorem State.modAnalyzer_cells (i : Fin 5) (f : Analyzer → Analyzer) : (s.modAnalyzer i f).cells = s.cells := rfl
@[simp] theorem State.modAnalyzer_sump (i : Fin 5) (f : Analyzer → Analyzer) : (s.modAnalyzer i f).sump = s.sump := rfl
@[simp] theorem State.modAnalyzer_timers (i : Fin 5) (f : Analyzer → Analyzer) : (s.modAnalyzer i f).timers = s.timers := rfl
@[simp] theorem State.modAnalyzer_sampler (i : Fin 5) (f : Analyzer → Analyzer) : (s.modAnalyzer i f).sampler = s.sampler := rfl
@[simp] theorem State.modAnalyzer_permit (i : Fin 5) (f : Analyzer → Analyzer) : (s.modAnalyzer i f).permit = s.permit := rfl
@[simp] theorem State.modAnalyzer_clock (i : Fin 5) (f : Analyzer → Analyzer) : (s.modAnalyzer i f).clock = s.clock := rfl
@[simp] theorem State.modAnalyzer_path (i : Fin 5) (f : Analyzer → Analyzer) : (s.modAnalyzer i f).path = s.path := rfl
@[simp] theorem State.modAnalyzer_flags (i : Fin 5) (f : Analyzer → Analyzer) : (s.modAnalyzer i f).flags = s.flags := rfl
@[simp] theorem State.modAnalyzer_alertActive (i : Fin 5) (f : Analyzer → Analyzer) : (s.modAnalyzer i f).alertActive = s.alertActive := rfl
@[simp] theorem State.modAnalyzer_link (i : Fin 5) (f : Analyzer → Analyzer) : (s.modAnalyzer i f).link = s.link := rfl
@[simp] theorem State.modAnalyzer_pending (i : Fin 5) (f : Analyzer → Analyzer) : (s.modAnalyzer i f).pending = s.pending := rfl

/-! ### `State.modSwitch` -/

@[simp] theorem State.modSwitch_now (i : Fin 12) (f : SwitchInput → SwitchInput) : (s.modSwitch i f).now = s.now := rfl
@[simp] theorem State.modSwitch_choices (i : Fin 12) (f : SwitchInput → SwitchInput) : (s.modSwitch i f).choices = s.choices := rfl
@[simp] theorem State.modSwitch_phase (i : Fin 12) (f : SwitchInput → SwitchInput) : (s.modSwitch i f).phase = s.phase := rfl
@[simp] theorem State.modSwitch_resetLow (i : Fin 12) (f : SwitchInput → SwitchInput) : (s.modSwitch i f).resetLow = s.resetLow := rfl
@[simp] theorem State.modSwitch_supply (i : Fin 12) (f : SwitchInput → SwitchInput) : (s.modSwitch i f).supply = s.supply := rfl
@[simp] theorem State.modSwitch_startUp (i : Fin 12) (f : SwitchInput → SwitchInput) : (s.modSwitch i f).startUp = s.startUp := rfl
@[simp] theorem State.modSwitch_store (i : Fin 12) (f : SwitchInput → SwitchInput) : (s.modSwitch i f).store = s.store := rfl
@[simp] theorem State.modSwitch_kept (i : Fin 12) (f : SwitchInput → SwitchInput) : (s.modSwitch i f).kept = s.kept := rfl
@[simp] theorem State.modSwitch_channels (i : Fin 12) (f : SwitchInput → SwitchInput) : (s.modSwitch i f).channels = s.channels := rfl
@[simp] theorem State.modSwitch_analyzers (i : Fin 12) (f : SwitchInput → SwitchInput) : (s.modSwitch i f).analyzers = s.analyzers := rfl
@[simp] theorem State.modSwitch_switches (i : Fin 12) (f : SwitchInput → SwitchInput) : (s.modSwitch i f).switches = modAt s.switches i f := rfl
@[simp] theorem State.modSwitch_lines (i : Fin 12) (f : SwitchInput → SwitchInput) : (s.modSwitch i f).lines = s.lines := rfl
@[simp] theorem State.modSwitch_loops (i : Fin 12) (f : SwitchInput → SwitchInput) : (s.modSwitch i f).loops = s.loops := rfl
@[simp] theorem State.modSwitch_cells (i : Fin 12) (f : SwitchInput → SwitchInput) : (s.modSwitch i f).cells = s.cells := rfl
@[simp] theorem State.modSwitch_sump (i : Fin 12) (f : SwitchInput → SwitchInput) : (s.modSwitch i f).sump = s.sump := rfl
@[simp] theorem State.modSwitch_timers (i : Fin 12) (f : SwitchInput → SwitchInput) : (s.modSwitch i f).timers = s.timers := rfl
@[simp] theorem State.modSwitch_sampler (i : Fin 12) (f : SwitchInput → SwitchInput) : (s.modSwitch i f).sampler = s.sampler := rfl
@[simp] theorem State.modSwitch_permit (i : Fin 12) (f : SwitchInput → SwitchInput) : (s.modSwitch i f).permit = s.permit := rfl
@[simp] theorem State.modSwitch_clock (i : Fin 12) (f : SwitchInput → SwitchInput) : (s.modSwitch i f).clock = s.clock := rfl
@[simp] theorem State.modSwitch_path (i : Fin 12) (f : SwitchInput → SwitchInput) : (s.modSwitch i f).path = s.path := rfl
@[simp] theorem State.modSwitch_flags (i : Fin 12) (f : SwitchInput → SwitchInput) : (s.modSwitch i f).flags = s.flags := rfl
@[simp] theorem State.modSwitch_alertActive (i : Fin 12) (f : SwitchInput → SwitchInput) : (s.modSwitch i f).alertActive = s.alertActive := rfl
@[simp] theorem State.modSwitch_link (i : Fin 12) (f : SwitchInput → SwitchInput) : (s.modSwitch i f).link = s.link := rfl
@[simp] theorem State.modSwitch_pending (i : Fin 12) (f : SwitchInput → SwitchInput) : (s.modSwitch i f).pending = s.pending := rfl

/-! ### `State.modLine` -/

@[simp] theorem State.modLine_now (i : Fin 4) (f : LineUnit → LineUnit) : (s.modLine i f).now = s.now := rfl
@[simp] theorem State.modLine_choices (i : Fin 4) (f : LineUnit → LineUnit) : (s.modLine i f).choices = s.choices := rfl
@[simp] theorem State.modLine_phase (i : Fin 4) (f : LineUnit → LineUnit) : (s.modLine i f).phase = s.phase := rfl
@[simp] theorem State.modLine_resetLow (i : Fin 4) (f : LineUnit → LineUnit) : (s.modLine i f).resetLow = s.resetLow := rfl
@[simp] theorem State.modLine_supply (i : Fin 4) (f : LineUnit → LineUnit) : (s.modLine i f).supply = s.supply := rfl
@[simp] theorem State.modLine_startUp (i : Fin 4) (f : LineUnit → LineUnit) : (s.modLine i f).startUp = s.startUp := rfl
@[simp] theorem State.modLine_store (i : Fin 4) (f : LineUnit → LineUnit) : (s.modLine i f).store = s.store := rfl
@[simp] theorem State.modLine_kept (i : Fin 4) (f : LineUnit → LineUnit) : (s.modLine i f).kept = s.kept := rfl
@[simp] theorem State.modLine_channels (i : Fin 4) (f : LineUnit → LineUnit) : (s.modLine i f).channels = s.channels := rfl
@[simp] theorem State.modLine_analyzers (i : Fin 4) (f : LineUnit → LineUnit) : (s.modLine i f).analyzers = s.analyzers := rfl
@[simp] theorem State.modLine_switches (i : Fin 4) (f : LineUnit → LineUnit) : (s.modLine i f).switches = s.switches := rfl
@[simp] theorem State.modLine_lines (i : Fin 4) (f : LineUnit → LineUnit) : (s.modLine i f).lines = modAt s.lines i f := rfl
@[simp] theorem State.modLine_loops (i : Fin 4) (f : LineUnit → LineUnit) : (s.modLine i f).loops = s.loops := rfl
@[simp] theorem State.modLine_cells (i : Fin 4) (f : LineUnit → LineUnit) : (s.modLine i f).cells = s.cells := rfl
@[simp] theorem State.modLine_sump (i : Fin 4) (f : LineUnit → LineUnit) : (s.modLine i f).sump = s.sump := rfl
@[simp] theorem State.modLine_timers (i : Fin 4) (f : LineUnit → LineUnit) : (s.modLine i f).timers = s.timers := rfl
@[simp] theorem State.modLine_sampler (i : Fin 4) (f : LineUnit → LineUnit) : (s.modLine i f).sampler = s.sampler := rfl
@[simp] theorem State.modLine_permit (i : Fin 4) (f : LineUnit → LineUnit) : (s.modLine i f).permit = s.permit := rfl
@[simp] theorem State.modLine_clock (i : Fin 4) (f : LineUnit → LineUnit) : (s.modLine i f).clock = s.clock := rfl
@[simp] theorem State.modLine_path (i : Fin 4) (f : LineUnit → LineUnit) : (s.modLine i f).path = s.path := rfl
@[simp] theorem State.modLine_flags (i : Fin 4) (f : LineUnit → LineUnit) : (s.modLine i f).flags = s.flags := rfl
@[simp] theorem State.modLine_alertActive (i : Fin 4) (f : LineUnit → LineUnit) : (s.modLine i f).alertActive = s.alertActive := rfl
@[simp] theorem State.modLine_link (i : Fin 4) (f : LineUnit → LineUnit) : (s.modLine i f).link = s.link := rfl
@[simp] theorem State.modLine_pending (i : Fin 4) (f : LineUnit → LineUnit) : (s.modLine i f).pending = s.pending := rfl

/-! ### `State.modLoop` -/

@[simp] theorem State.modLoop_now (i : Fin 4) (f : WashLoop → WashLoop) : (s.modLoop i f).now = s.now := rfl
@[simp] theorem State.modLoop_choices (i : Fin 4) (f : WashLoop → WashLoop) : (s.modLoop i f).choices = s.choices := rfl
@[simp] theorem State.modLoop_phase (i : Fin 4) (f : WashLoop → WashLoop) : (s.modLoop i f).phase = s.phase := rfl
@[simp] theorem State.modLoop_resetLow (i : Fin 4) (f : WashLoop → WashLoop) : (s.modLoop i f).resetLow = s.resetLow := rfl
@[simp] theorem State.modLoop_supply (i : Fin 4) (f : WashLoop → WashLoop) : (s.modLoop i f).supply = s.supply := rfl
@[simp] theorem State.modLoop_startUp (i : Fin 4) (f : WashLoop → WashLoop) : (s.modLoop i f).startUp = s.startUp := rfl
@[simp] theorem State.modLoop_store (i : Fin 4) (f : WashLoop → WashLoop) : (s.modLoop i f).store = s.store := rfl
@[simp] theorem State.modLoop_kept (i : Fin 4) (f : WashLoop → WashLoop) : (s.modLoop i f).kept = s.kept := rfl
@[simp] theorem State.modLoop_channels (i : Fin 4) (f : WashLoop → WashLoop) : (s.modLoop i f).channels = s.channels := rfl
@[simp] theorem State.modLoop_analyzers (i : Fin 4) (f : WashLoop → WashLoop) : (s.modLoop i f).analyzers = s.analyzers := rfl
@[simp] theorem State.modLoop_switches (i : Fin 4) (f : WashLoop → WashLoop) : (s.modLoop i f).switches = s.switches := rfl
@[simp] theorem State.modLoop_lines (i : Fin 4) (f : WashLoop → WashLoop) : (s.modLoop i f).lines = s.lines := rfl
@[simp] theorem State.modLoop_loops (i : Fin 4) (f : WashLoop → WashLoop) : (s.modLoop i f).loops = modAt s.loops i f := rfl
@[simp] theorem State.modLoop_cells (i : Fin 4) (f : WashLoop → WashLoop) : (s.modLoop i f).cells = s.cells := rfl
@[simp] theorem State.modLoop_sump (i : Fin 4) (f : WashLoop → WashLoop) : (s.modLoop i f).sump = s.sump := rfl
@[simp] theorem State.modLoop_timers (i : Fin 4) (f : WashLoop → WashLoop) : (s.modLoop i f).timers = s.timers := rfl
@[simp] theorem State.modLoop_sampler (i : Fin 4) (f : WashLoop → WashLoop) : (s.modLoop i f).sampler = s.sampler := rfl
@[simp] theorem State.modLoop_permit (i : Fin 4) (f : WashLoop → WashLoop) : (s.modLoop i f).permit = s.permit := rfl
@[simp] theorem State.modLoop_clock (i : Fin 4) (f : WashLoop → WashLoop) : (s.modLoop i f).clock = s.clock := rfl
@[simp] theorem State.modLoop_path (i : Fin 4) (f : WashLoop → WashLoop) : (s.modLoop i f).path = s.path := rfl
@[simp] theorem State.modLoop_flags (i : Fin 4) (f : WashLoop → WashLoop) : (s.modLoop i f).flags = s.flags := rfl
@[simp] theorem State.modLoop_alertActive (i : Fin 4) (f : WashLoop → WashLoop) : (s.modLoop i f).alertActive = s.alertActive := rfl
@[simp] theorem State.modLoop_link (i : Fin 4) (f : WashLoop → WashLoop) : (s.modLoop i f).link = s.link := rfl
@[simp] theorem State.modLoop_pending (i : Fin 4) (f : WashLoop → WashLoop) : (s.modLoop i f).pending = s.pending := rfl

/-! ### `State.modCell` -/

@[simp] theorem State.modCell_now (i : Fin 4) (f : Cell → Cell) : (s.modCell i f).now = s.now := rfl
@[simp] theorem State.modCell_choices (i : Fin 4) (f : Cell → Cell) : (s.modCell i f).choices = s.choices := rfl
@[simp] theorem State.modCell_phase (i : Fin 4) (f : Cell → Cell) : (s.modCell i f).phase = s.phase := rfl
@[simp] theorem State.modCell_resetLow (i : Fin 4) (f : Cell → Cell) : (s.modCell i f).resetLow = s.resetLow := rfl
@[simp] theorem State.modCell_supply (i : Fin 4) (f : Cell → Cell) : (s.modCell i f).supply = s.supply := rfl
@[simp] theorem State.modCell_startUp (i : Fin 4) (f : Cell → Cell) : (s.modCell i f).startUp = s.startUp := rfl
@[simp] theorem State.modCell_store (i : Fin 4) (f : Cell → Cell) : (s.modCell i f).store = s.store := rfl
@[simp] theorem State.modCell_kept (i : Fin 4) (f : Cell → Cell) : (s.modCell i f).kept = s.kept := rfl
@[simp] theorem State.modCell_channels (i : Fin 4) (f : Cell → Cell) : (s.modCell i f).channels = s.channels := rfl
@[simp] theorem State.modCell_analyzers (i : Fin 4) (f : Cell → Cell) : (s.modCell i f).analyzers = s.analyzers := rfl
@[simp] theorem State.modCell_switches (i : Fin 4) (f : Cell → Cell) : (s.modCell i f).switches = s.switches := rfl
@[simp] theorem State.modCell_lines (i : Fin 4) (f : Cell → Cell) : (s.modCell i f).lines = s.lines := rfl
@[simp] theorem State.modCell_loops (i : Fin 4) (f : Cell → Cell) : (s.modCell i f).loops = s.loops := rfl
@[simp] theorem State.modCell_cells (i : Fin 4) (f : Cell → Cell) : (s.modCell i f).cells = modAt s.cells i f := rfl
@[simp] theorem State.modCell_sump (i : Fin 4) (f : Cell → Cell) : (s.modCell i f).sump = s.sump := rfl
@[simp] theorem State.modCell_timers (i : Fin 4) (f : Cell → Cell) : (s.modCell i f).timers = s.timers := rfl
@[simp] theorem State.modCell_sampler (i : Fin 4) (f : Cell → Cell) : (s.modCell i f).sampler = s.sampler := rfl
@[simp] theorem State.modCell_permit (i : Fin 4) (f : Cell → Cell) : (s.modCell i f).permit = s.permit := rfl
@[simp] theorem State.modCell_clock (i : Fin 4) (f : Cell → Cell) : (s.modCell i f).clock = s.clock := rfl
@[simp] theorem State.modCell_path (i : Fin 4) (f : Cell → Cell) : (s.modCell i f).path = s.path := rfl
@[simp] theorem State.modCell_flags (i : Fin 4) (f : Cell → Cell) : (s.modCell i f).flags = s.flags := rfl
@[simp] theorem State.modCell_alertActive (i : Fin 4) (f : Cell → Cell) : (s.modCell i f).alertActive = s.alertActive := rfl
@[simp] theorem State.modCell_link (i : Fin 4) (f : Cell → Cell) : (s.modCell i f).link = s.link := rfl
@[simp] theorem State.modCell_pending (i : Fin 4) (f : Cell → Cell) : (s.modCell i f).pending = s.pending := rfl

/-! ### `State.modTimers` -/

@[simp] theorem State.modTimers_now (t : Fin 3) (f : TankTimers → TankTimers) : (s.modTimers t f).now = s.now := rfl
@[simp] theorem State.modTimers_choices (t : Fin 3) (f : TankTimers → TankTimers) : (s.modTimers t f).choices = s.choices := rfl
@[simp] theorem State.modTimers_phase (t : Fin 3) (f : TankTimers → TankTimers) : (s.modTimers t f).phase = s.phase := rfl
@[simp] theorem State.modTimers_resetLow (t : Fin 3) (f : TankTimers → TankTimers) : (s.modTimers t f).resetLow = s.resetLow := rfl
@[simp] theorem State.modTimers_supply (t : Fin 3) (f : TankTimers → TankTimers) : (s.modTimers t f).supply = s.supply := rfl
@[simp] theorem State.modTimers_startUp (t : Fin 3) (f : TankTimers → TankTimers) : (s.modTimers t f).startUp = s.startUp := rfl
@[simp] theorem State.modTimers_store (t : Fin 3) (f : TankTimers → TankTimers) : (s.modTimers t f).store = s.store := rfl
@[simp] theorem State.modTimers_kept (t : Fin 3) (f : TankTimers → TankTimers) : (s.modTimers t f).kept = s.kept := rfl
@[simp] theorem State.modTimers_channels (t : Fin 3) (f : TankTimers → TankTimers) : (s.modTimers t f).channels = s.channels := rfl
@[simp] theorem State.modTimers_analyzers (t : Fin 3) (f : TankTimers → TankTimers) : (s.modTimers t f).analyzers = s.analyzers := rfl
@[simp] theorem State.modTimers_switches (t : Fin 3) (f : TankTimers → TankTimers) : (s.modTimers t f).switches = s.switches := rfl
@[simp] theorem State.modTimers_lines (t : Fin 3) (f : TankTimers → TankTimers) : (s.modTimers t f).lines = s.lines := rfl
@[simp] theorem State.modTimers_loops (t : Fin 3) (f : TankTimers → TankTimers) : (s.modTimers t f).loops = s.loops := rfl
@[simp] theorem State.modTimers_cells (t : Fin 3) (f : TankTimers → TankTimers) : (s.modTimers t f).cells = s.cells := rfl
@[simp] theorem State.modTimers_sump (t : Fin 3) (f : TankTimers → TankTimers) : (s.modTimers t f).sump = s.sump := rfl
@[simp] theorem State.modTimers_timers (t : Fin 3) (f : TankTimers → TankTimers) : (s.modTimers t f).timers = modAt s.timers t f := rfl
@[simp] theorem State.modTimers_sampler (t : Fin 3) (f : TankTimers → TankTimers) : (s.modTimers t f).sampler = s.sampler := rfl
@[simp] theorem State.modTimers_permit (t : Fin 3) (f : TankTimers → TankTimers) : (s.modTimers t f).permit = s.permit := rfl
@[simp] theorem State.modTimers_clock (t : Fin 3) (f : TankTimers → TankTimers) : (s.modTimers t f).clock = s.clock := rfl
@[simp] theorem State.modTimers_path (t : Fin 3) (f : TankTimers → TankTimers) : (s.modTimers t f).path = s.path := rfl
@[simp] theorem State.modTimers_flags (t : Fin 3) (f : TankTimers → TankTimers) : (s.modTimers t f).flags = s.flags := rfl
@[simp] theorem State.modTimers_alertActive (t : Fin 3) (f : TankTimers → TankTimers) : (s.modTimers t f).alertActive = s.alertActive := rfl
@[simp] theorem State.modTimers_link (t : Fin 3) (f : TankTimers → TankTimers) : (s.modTimers t f).link = s.link := rfl
@[simp] theorem State.modTimers_pending (t : Fin 3) (f : TankTimers → TankTimers) : (s.modTimers t f).pending = s.pending := rfl

/-! ### `State.modFlag` -/

@[simp] theorem State.modFlag_now (i : Fin 28) (f : FlagRecord → FlagRecord) : (s.modFlag i f).now = s.now := rfl
@[simp] theorem State.modFlag_choices (i : Fin 28) (f : FlagRecord → FlagRecord) : (s.modFlag i f).choices = s.choices := rfl
@[simp] theorem State.modFlag_phase (i : Fin 28) (f : FlagRecord → FlagRecord) : (s.modFlag i f).phase = s.phase := rfl
@[simp] theorem State.modFlag_resetLow (i : Fin 28) (f : FlagRecord → FlagRecord) : (s.modFlag i f).resetLow = s.resetLow := rfl
@[simp] theorem State.modFlag_supply (i : Fin 28) (f : FlagRecord → FlagRecord) : (s.modFlag i f).supply = s.supply := rfl
@[simp] theorem State.modFlag_startUp (i : Fin 28) (f : FlagRecord → FlagRecord) : (s.modFlag i f).startUp = s.startUp := rfl
@[simp] theorem State.modFlag_store (i : Fin 28) (f : FlagRecord → FlagRecord) : (s.modFlag i f).store = s.store := rfl
@[simp] theorem State.modFlag_kept (i : Fin 28) (f : FlagRecord → FlagRecord) : (s.modFlag i f).kept = s.kept := rfl
@[simp] theorem State.modFlag_channels (i : Fin 28) (f : FlagRecord → FlagRecord) : (s.modFlag i f).channels = s.channels := rfl
@[simp] theorem State.modFlag_analyzers (i : Fin 28) (f : FlagRecord → FlagRecord) : (s.modFlag i f).analyzers = s.analyzers := rfl
@[simp] theorem State.modFlag_switches (i : Fin 28) (f : FlagRecord → FlagRecord) : (s.modFlag i f).switches = s.switches := rfl
@[simp] theorem State.modFlag_lines (i : Fin 28) (f : FlagRecord → FlagRecord) : (s.modFlag i f).lines = s.lines := rfl
@[simp] theorem State.modFlag_loops (i : Fin 28) (f : FlagRecord → FlagRecord) : (s.modFlag i f).loops = s.loops := rfl
@[simp] theorem State.modFlag_cells (i : Fin 28) (f : FlagRecord → FlagRecord) : (s.modFlag i f).cells = s.cells := rfl
@[simp] theorem State.modFlag_sump (i : Fin 28) (f : FlagRecord → FlagRecord) : (s.modFlag i f).sump = s.sump := rfl
@[simp] theorem State.modFlag_timers (i : Fin 28) (f : FlagRecord → FlagRecord) : (s.modFlag i f).timers = s.timers := rfl
@[simp] theorem State.modFlag_sampler (i : Fin 28) (f : FlagRecord → FlagRecord) : (s.modFlag i f).sampler = s.sampler := rfl
@[simp] theorem State.modFlag_permit (i : Fin 28) (f : FlagRecord → FlagRecord) : (s.modFlag i f).permit = s.permit := rfl
@[simp] theorem State.modFlag_clock (i : Fin 28) (f : FlagRecord → FlagRecord) : (s.modFlag i f).clock = s.clock := rfl
@[simp] theorem State.modFlag_path (i : Fin 28) (f : FlagRecord → FlagRecord) : (s.modFlag i f).path = s.path := rfl
@[simp] theorem State.modFlag_flags (i : Fin 28) (f : FlagRecord → FlagRecord) : (s.modFlag i f).flags = modAt s.flags i f := rfl
@[simp] theorem State.modFlag_alertActive (i : Fin 28) (f : FlagRecord → FlagRecord) : (s.modFlag i f).alertActive = s.alertActive := rfl
@[simp] theorem State.modFlag_link (i : Fin 28) (f : FlagRecord → FlagRecord) : (s.modFlag i f).link = s.link := rfl
@[simp] theorem State.modFlag_pending (i : Fin 28) (f : FlagRecord → FlagRecord) : (s.modFlag i f).pending = s.pending := rfl

/-! ### `State.modKept` -/

@[simp] theorem State.modKept_now (f : Kept → Kept) : (s.modKept f).now = s.now := rfl
@[simp] theorem State.modKept_choices (f : Kept → Kept) : (s.modKept f).choices = s.choices := rfl
@[simp] theorem State.modKept_phase (f : Kept → Kept) : (s.modKept f).phase = s.phase := rfl
@[simp] theorem State.modKept_resetLow (f : Kept → Kept) : (s.modKept f).resetLow = s.resetLow := rfl
@[simp] theorem State.modKept_supply (f : Kept → Kept) : (s.modKept f).supply = s.supply := rfl
@[simp] theorem State.modKept_startUp (f : Kept → Kept) : (s.modKept f).startUp = s.startUp := rfl
@[simp] theorem State.modKept_store (f : Kept → Kept) : (s.modKept f).store = s.store := rfl
@[simp] theorem State.modKept_kept (f : Kept → Kept) : (s.modKept f).kept = f s.kept := rfl
@[simp] theorem State.modKept_channels (f : Kept → Kept) : (s.modKept f).channels = s.channels := rfl
@[simp] theorem State.modKept_analyzers (f : Kept → Kept) : (s.modKept f).analyzers = s.analyzers := rfl
@[simp] theorem State.modKept_switches (f : Kept → Kept) : (s.modKept f).switches = s.switches := rfl
@[simp] theorem State.modKept_lines (f : Kept → Kept) : (s.modKept f).lines = s.lines := rfl
@[simp] theorem State.modKept_loops (f : Kept → Kept) : (s.modKept f).loops = s.loops := rfl
@[simp] theorem State.modKept_cells (f : Kept → Kept) : (s.modKept f).cells = s.cells := rfl
@[simp] theorem State.modKept_sump (f : Kept → Kept) : (s.modKept f).sump = s.sump := rfl
@[simp] theorem State.modKept_timers (f : Kept → Kept) : (s.modKept f).timers = s.timers := rfl
@[simp] theorem State.modKept_sampler (f : Kept → Kept) : (s.modKept f).sampler = s.sampler := rfl
@[simp] theorem State.modKept_permit (f : Kept → Kept) : (s.modKept f).permit = s.permit := rfl
@[simp] theorem State.modKept_clock (f : Kept → Kept) : (s.modKept f).clock = s.clock := rfl
@[simp] theorem State.modKept_path (f : Kept → Kept) : (s.modKept f).path = s.path := rfl
@[simp] theorem State.modKept_flags (f : Kept → Kept) : (s.modKept f).flags = s.flags := rfl
@[simp] theorem State.modKept_alertActive (f : Kept → Kept) : (s.modKept f).alertActive = s.alertActive := rfl
@[simp] theorem State.modKept_link (f : Kept → Kept) : (s.modKept f).link = s.link := rfl
@[simp] theorem State.modKept_pending (f : Kept → Kept) : (s.modKept f).pending = s.pending := rfl

/-! ### `State.modAccounts` -/

@[simp] theorem State.modAccounts_now (f : Accounts → Accounts) : (s.modAccounts f).now = s.now := rfl
@[simp] theorem State.modAccounts_choices (f : Accounts → Accounts) : (s.modAccounts f).choices = s.choices := rfl
@[simp] theorem State.modAccounts_phase (f : Accounts → Accounts) : (s.modAccounts f).phase = s.phase := rfl
@[simp] theorem State.modAccounts_resetLow (f : Accounts → Accounts) : (s.modAccounts f).resetLow = s.resetLow := rfl
@[simp] theorem State.modAccounts_supply (f : Accounts → Accounts) : (s.modAccounts f).supply = s.supply := rfl
@[simp] theorem State.modAccounts_startUp (f : Accounts → Accounts) : (s.modAccounts f).startUp = s.startUp := rfl
@[simp] theorem State.modAccounts_store (f : Accounts → Accounts) : (s.modAccounts f).store = s.store := rfl
@[simp] theorem State.modAccounts_kept (f : Accounts → Accounts) : (s.modAccounts f).kept = { s.kept with accounts := f s.kept.accounts } := rfl
@[simp] theorem State.modAccounts_channels (f : Accounts → Accounts) : (s.modAccounts f).channels = s.channels := rfl
@[simp] theorem State.modAccounts_analyzers (f : Accounts → Accounts) : (s.modAccounts f).analyzers = s.analyzers := rfl
@[simp] theorem State.modAccounts_switches (f : Accounts → Accounts) : (s.modAccounts f).switches = s.switches := rfl
@[simp] theorem State.modAccounts_lines (f : Accounts → Accounts) : (s.modAccounts f).lines = s.lines := rfl
@[simp] theorem State.modAccounts_loops (f : Accounts → Accounts) : (s.modAccounts f).loops = s.loops := rfl
@[simp] theorem State.modAccounts_cells (f : Accounts → Accounts) : (s.modAccounts f).cells = s.cells := rfl
@[simp] theorem State.modAccounts_sump (f : Accounts → Accounts) : (s.modAccounts f).sump = s.sump := rfl
@[simp] theorem State.modAccounts_timers (f : Accounts → Accounts) : (s.modAccounts f).timers = s.timers := rfl
@[simp] theorem State.modAccounts_sampler (f : Accounts → Accounts) : (s.modAccounts f).sampler = s.sampler := rfl
@[simp] theorem State.modAccounts_permit (f : Accounts → Accounts) : (s.modAccounts f).permit = s.permit := rfl
@[simp] theorem State.modAccounts_clock (f : Accounts → Accounts) : (s.modAccounts f).clock = s.clock := rfl
@[simp] theorem State.modAccounts_path (f : Accounts → Accounts) : (s.modAccounts f).path = s.path := rfl
@[simp] theorem State.modAccounts_flags (f : Accounts → Accounts) : (s.modAccounts f).flags = s.flags := rfl
@[simp] theorem State.modAccounts_alertActive (f : Accounts → Accounts) : (s.modAccounts f).alertActive = s.alertActive := rfl
@[simp] theorem State.modAccounts_link (f : Accounts → Accounts) : (s.modAccounts f).link = s.link := rfl
@[simp] theorem State.modAccounts_pending (f : Accounts → Accounts) : (s.modAccounts f).pending = s.pending := rfl

/-! ### `State.modDay` -/

@[simp] theorem State.modDay_now (f : Day → Day) : (s.modDay f).now = s.now := rfl
@[simp] theorem State.modDay_choices (f : Day → Day) : (s.modDay f).choices = s.choices := rfl
@[simp] theorem State.modDay_phase (f : Day → Day) : (s.modDay f).phase = s.phase := rfl
@[simp] theorem State.modDay_resetLow (f : Day → Day) : (s.modDay f).resetLow = s.resetLow := rfl
@[simp] theorem State.modDay_supply (f : Day → Day) : (s.modDay f).supply = s.supply := rfl
@[simp] theorem State.modDay_startUp (f : Day → Day) : (s.modDay f).startUp = s.startUp := rfl
@[simp] theorem State.modDay_store (f : Day → Day) : (s.modDay f).store = s.store := rfl
@[simp] theorem State.modDay_kept (f : Day → Day) : (s.modDay f).kept = { s.kept with day := f s.kept.day } := rfl
@[simp] theorem State.modDay_channels (f : Day → Day) : (s.modDay f).channels = s.channels := rfl
@[simp] theorem State.modDay_analyzers (f : Day → Day) : (s.modDay f).analyzers = s.analyzers := rfl
@[simp] theorem State.modDay_switches (f : Day → Day) : (s.modDay f).switches = s.switches := rfl
@[simp] theorem State.modDay_lines (f : Day → Day) : (s.modDay f).lines = s.lines := rfl
@[simp] theorem State.modDay_loops (f : Day → Day) : (s.modDay f).loops = s.loops := rfl
@[simp] theorem State.modDay_cells (f : Day → Day) : (s.modDay f).cells = s.cells := rfl
@[simp] theorem State.modDay_sump (f : Day → Day) : (s.modDay f).sump = s.sump := rfl
@[simp] theorem State.modDay_timers (f : Day → Day) : (s.modDay f).timers = s.timers := rfl
@[simp] theorem State.modDay_sampler (f : Day → Day) : (s.modDay f).sampler = s.sampler := rfl
@[simp] theorem State.modDay_permit (f : Day → Day) : (s.modDay f).permit = s.permit := rfl
@[simp] theorem State.modDay_clock (f : Day → Day) : (s.modDay f).clock = s.clock := rfl
@[simp] theorem State.modDay_path (f : Day → Day) : (s.modDay f).path = s.path := rfl
@[simp] theorem State.modDay_flags (f : Day → Day) : (s.modDay f).flags = s.flags := rfl
@[simp] theorem State.modDay_alertActive (f : Day → Day) : (s.modDay f).alertActive = s.alertActive := rfl
@[simp] theorem State.modDay_link (f : Day → Day) : (s.modDay f).link = s.link := rfl
@[simp] theorem State.modDay_pending (f : Day → Day) : (s.modDay f).pending = s.pending := rfl

/-! ### `State.modTank` -/

@[simp] theorem State.modTank_now (t : Fin 3) (f : Tank → Tank) : (s.modTank t f).now = s.now := rfl
@[simp] theorem State.modTank_choices (t : Fin 3) (f : Tank → Tank) : (s.modTank t f).choices = s.choices := rfl
@[simp] theorem State.modTank_phase (t : Fin 3) (f : Tank → Tank) : (s.modTank t f).phase = s.phase := rfl
@[simp] theorem State.modTank_resetLow (t : Fin 3) (f : Tank → Tank) : (s.modTank t f).resetLow = s.resetLow := rfl
@[simp] theorem State.modTank_supply (t : Fin 3) (f : Tank → Tank) : (s.modTank t f).supply = s.supply := rfl
@[simp] theorem State.modTank_startUp (t : Fin 3) (f : Tank → Tank) : (s.modTank t f).startUp = s.startUp := rfl
@[simp] theorem State.modTank_store (t : Fin 3) (f : Tank → Tank) : (s.modTank t f).store = s.store := rfl
@[simp] theorem State.modTank_kept (t : Fin 3) (f : Tank → Tank) : (s.modTank t f).kept = { s.kept with tanks := modAt s.kept.tanks t f } := rfl
@[simp] theorem State.modTank_channels (t : Fin 3) (f : Tank → Tank) : (s.modTank t f).channels = s.channels := rfl
@[simp] theorem State.modTank_analyzers (t : Fin 3) (f : Tank → Tank) : (s.modTank t f).analyzers = s.analyzers := rfl
@[simp] theorem State.modTank_switches (t : Fin 3) (f : Tank → Tank) : (s.modTank t f).switches = s.switches := rfl
@[simp] theorem State.modTank_lines (t : Fin 3) (f : Tank → Tank) : (s.modTank t f).lines = s.lines := rfl
@[simp] theorem State.modTank_loops (t : Fin 3) (f : Tank → Tank) : (s.modTank t f).loops = s.loops := rfl
@[simp] theorem State.modTank_cells (t : Fin 3) (f : Tank → Tank) : (s.modTank t f).cells = s.cells := rfl
@[simp] theorem State.modTank_sump (t : Fin 3) (f : Tank → Tank) : (s.modTank t f).sump = s.sump := rfl
@[simp] theorem State.modTank_timers (t : Fin 3) (f : Tank → Tank) : (s.modTank t f).timers = s.timers := rfl
@[simp] theorem State.modTank_sampler (t : Fin 3) (f : Tank → Tank) : (s.modTank t f).sampler = s.sampler := rfl
@[simp] theorem State.modTank_permit (t : Fin 3) (f : Tank → Tank) : (s.modTank t f).permit = s.permit := rfl
@[simp] theorem State.modTank_clock (t : Fin 3) (f : Tank → Tank) : (s.modTank t f).clock = s.clock := rfl
@[simp] theorem State.modTank_path (t : Fin 3) (f : Tank → Tank) : (s.modTank t f).path = s.path := rfl
@[simp] theorem State.modTank_flags (t : Fin 3) (f : Tank → Tank) : (s.modTank t f).flags = s.flags := rfl
@[simp] theorem State.modTank_alertActive (t : Fin 3) (f : Tank → Tank) : (s.modTank t f).alertActive = s.alertActive := rfl
@[simp] theorem State.modTank_link (t : Fin 3) (f : Tank → Tank) : (s.modTank t f).link = s.link := rfl
@[simp] theorem State.modTank_pending (t : Fin 3) (f : Tank → Tank) : (s.modTank t f).pending = s.pending := rfl

/-! ### `State.modLot` -/

@[simp] theorem State.modLot_now (t : Fin 3) (f : Lot → Lot) : (s.modLot t f).now = s.now := rfl
@[simp] theorem State.modLot_choices (t : Fin 3) (f : Lot → Lot) : (s.modLot t f).choices = s.choices := rfl
@[simp] theorem State.modLot_phase (t : Fin 3) (f : Lot → Lot) : (s.modLot t f).phase = s.phase := rfl
@[simp] theorem State.modLot_resetLow (t : Fin 3) (f : Lot → Lot) : (s.modLot t f).resetLow = s.resetLow := rfl
@[simp] theorem State.modLot_supply (t : Fin 3) (f : Lot → Lot) : (s.modLot t f).supply = s.supply := rfl
@[simp] theorem State.modLot_startUp (t : Fin 3) (f : Lot → Lot) : (s.modLot t f).startUp = s.startUp := rfl
@[simp] theorem State.modLot_store (t : Fin 3) (f : Lot → Lot) : (s.modLot t f).store = s.store := rfl
@[simp] theorem State.modLot_kept (t : Fin 3) (f : Lot → Lot) : (s.modLot t f).kept = { s.kept with tanks := modAt s.kept.tanks t fun k => { k with lot := k.lot.map f } } := rfl
@[simp] theorem State.modLot_channels (t : Fin 3) (f : Lot → Lot) : (s.modLot t f).channels = s.channels := rfl
@[simp] theorem State.modLot_analyzers (t : Fin 3) (f : Lot → Lot) : (s.modLot t f).analyzers = s.analyzers := rfl
@[simp] theorem State.modLot_switches (t : Fin 3) (f : Lot → Lot) : (s.modLot t f).switches = s.switches := rfl
@[simp] theorem State.modLot_lines (t : Fin 3) (f : Lot → Lot) : (s.modLot t f).lines = s.lines := rfl
@[simp] theorem State.modLot_loops (t : Fin 3) (f : Lot → Lot) : (s.modLot t f).loops = s.loops := rfl
@[simp] theorem State.modLot_cells (t : Fin 3) (f : Lot → Lot) : (s.modLot t f).cells = s.cells := rfl
@[simp] theorem State.modLot_sump (t : Fin 3) (f : Lot → Lot) : (s.modLot t f).sump = s.sump := rfl
@[simp] theorem State.modLot_timers (t : Fin 3) (f : Lot → Lot) : (s.modLot t f).timers = s.timers := rfl
@[simp] theorem State.modLot_sampler (t : Fin 3) (f : Lot → Lot) : (s.modLot t f).sampler = s.sampler := rfl
@[simp] theorem State.modLot_permit (t : Fin 3) (f : Lot → Lot) : (s.modLot t f).permit = s.permit := rfl
@[simp] theorem State.modLot_clock (t : Fin 3) (f : Lot → Lot) : (s.modLot t f).clock = s.clock := rfl
@[simp] theorem State.modLot_path (t : Fin 3) (f : Lot → Lot) : (s.modLot t f).path = s.path := rfl
@[simp] theorem State.modLot_flags (t : Fin 3) (f : Lot → Lot) : (s.modLot t f).flags = s.flags := rfl
@[simp] theorem State.modLot_alertActive (t : Fin 3) (f : Lot → Lot) : (s.modLot t f).alertActive = s.alertActive := rfl
@[simp] theorem State.modLot_link (t : Fin 3) (f : Lot → Lot) : (s.modLot t f).link = s.link := rfl
@[simp] theorem State.modLot_pending (t : Fin 3) (f : Lot → Lot) : (s.modLot t f).pending = s.pending := rfl

/-! ### `State.modPath` -/

@[simp] theorem State.modPath_now (f : Path → Path) : (s.modPath f).now = s.now := rfl
@[simp] theorem State.modPath_choices (f : Path → Path) : (s.modPath f).choices = s.choices := rfl
@[simp] theorem State.modPath_phase (f : Path → Path) : (s.modPath f).phase = s.phase := rfl
@[simp] theorem State.modPath_resetLow (f : Path → Path) : (s.modPath f).resetLow = s.resetLow := rfl
@[simp] theorem State.modPath_supply (f : Path → Path) : (s.modPath f).supply = s.supply := rfl
@[simp] theorem State.modPath_startUp (f : Path → Path) : (s.modPath f).startUp = s.startUp := rfl
@[simp] theorem State.modPath_store (f : Path → Path) : (s.modPath f).store = s.store := rfl
@[simp] theorem State.modPath_kept (f : Path → Path) : (s.modPath f).kept = s.kept := rfl
@[simp] theorem State.modPath_channels (f : Path → Path) : (s.modPath f).channels = s.channels := rfl
@[simp] theorem State.modPath_analyzers (f : Path → Path) : (s.modPath f).analyzers = s.analyzers := rfl
@[simp] theorem State.modPath_switches (f : Path → Path) : (s.modPath f).switches = s.switches := rfl
@[simp] theorem State.modPath_lines (f : Path → Path) : (s.modPath f).lines = s.lines := rfl
@[simp] theorem State.modPath_loops (f : Path → Path) : (s.modPath f).loops = s.loops := rfl
@[simp] theorem State.modPath_cells (f : Path → Path) : (s.modPath f).cells = s.cells := rfl
@[simp] theorem State.modPath_sump (f : Path → Path) : (s.modPath f).sump = s.sump := rfl
@[simp] theorem State.modPath_timers (f : Path → Path) : (s.modPath f).timers = s.timers := rfl
@[simp] theorem State.modPath_sampler (f : Path → Path) : (s.modPath f).sampler = s.sampler := rfl
@[simp] theorem State.modPath_permit (f : Path → Path) : (s.modPath f).permit = s.permit := rfl
@[simp] theorem State.modPath_clock (f : Path → Path) : (s.modPath f).clock = s.clock := rfl
@[simp] theorem State.modPath_path (f : Path → Path) : (s.modPath f).path = f s.path := rfl
@[simp] theorem State.modPath_flags (f : Path → Path) : (s.modPath f).flags = s.flags := rfl
@[simp] theorem State.modPath_alertActive (f : Path → Path) : (s.modPath f).alertActive = s.alertActive := rfl
@[simp] theorem State.modPath_link (f : Path → Path) : (s.modPath f).link = s.link := rfl
@[simp] theorem State.modPath_pending (f : Path → Path) : (s.modPath f).pending = s.pending := rfl

/-! ### `State.modLink` -/

@[simp] theorem State.modLink_now (f : Link → Link) : (s.modLink f).now = s.now := rfl
@[simp] theorem State.modLink_choices (f : Link → Link) : (s.modLink f).choices = s.choices := rfl
@[simp] theorem State.modLink_phase (f : Link → Link) : (s.modLink f).phase = s.phase := rfl
@[simp] theorem State.modLink_resetLow (f : Link → Link) : (s.modLink f).resetLow = s.resetLow := rfl
@[simp] theorem State.modLink_supply (f : Link → Link) : (s.modLink f).supply = s.supply := rfl
@[simp] theorem State.modLink_startUp (f : Link → Link) : (s.modLink f).startUp = s.startUp := rfl
@[simp] theorem State.modLink_store (f : Link → Link) : (s.modLink f).store = s.store := rfl
@[simp] theorem State.modLink_kept (f : Link → Link) : (s.modLink f).kept = s.kept := rfl
@[simp] theorem State.modLink_channels (f : Link → Link) : (s.modLink f).channels = s.channels := rfl
@[simp] theorem State.modLink_analyzers (f : Link → Link) : (s.modLink f).analyzers = s.analyzers := rfl
@[simp] theorem State.modLink_switches (f : Link → Link) : (s.modLink f).switches = s.switches := rfl
@[simp] theorem State.modLink_lines (f : Link → Link) : (s.modLink f).lines = s.lines := rfl
@[simp] theorem State.modLink_loops (f : Link → Link) : (s.modLink f).loops = s.loops := rfl
@[simp] theorem State.modLink_cells (f : Link → Link) : (s.modLink f).cells = s.cells := rfl
@[simp] theorem State.modLink_sump (f : Link → Link) : (s.modLink f).sump = s.sump := rfl
@[simp] theorem State.modLink_timers (f : Link → Link) : (s.modLink f).timers = s.timers := rfl
@[simp] theorem State.modLink_sampler (f : Link → Link) : (s.modLink f).sampler = s.sampler := rfl
@[simp] theorem State.modLink_permit (f : Link → Link) : (s.modLink f).permit = s.permit := rfl
@[simp] theorem State.modLink_clock (f : Link → Link) : (s.modLink f).clock = s.clock := rfl
@[simp] theorem State.modLink_path (f : Link → Link) : (s.modLink f).path = s.path := rfl
@[simp] theorem State.modLink_flags (f : Link → Link) : (s.modLink f).flags = s.flags := rfl
@[simp] theorem State.modLink_alertActive (f : Link → Link) : (s.modLink f).alertActive = s.alertActive := rfl
@[simp] theorem State.modLink_link (f : Link → Link) : (s.modLink f).link = f s.link := rfl
@[simp] theorem State.modLink_pending (f : Link → Link) : (s.modLink f).pending = s.pending := rfl

/-! ### `State.after` -/

@[simp] theorem State.after_now (dt : Micros) : (s.after dt).now = s.now + dt := rfl
@[simp] theorem State.after_choices (dt : Micros) : (s.after dt).choices = s.choices := rfl
@[simp] theorem State.after_phase (dt : Micros) : (s.after dt).phase = s.phase := rfl
@[simp] theorem State.after_resetLow (dt : Micros) : (s.after dt).resetLow = s.resetLow := rfl
@[simp] theorem State.after_supply (dt : Micros) : (s.after dt).supply = s.supply := rfl
@[simp] theorem State.after_startUp (dt : Micros) : (s.after dt).startUp = s.startUp := rfl
@[simp] theorem State.after_store (dt : Micros) : (s.after dt).store = s.store := rfl
@[simp] theorem State.after_kept (dt : Micros) : (s.after dt).kept = s.kept := rfl
@[simp] theorem State.after_channels (dt : Micros) : (s.after dt).channels = s.channels := rfl
@[simp] theorem State.after_analyzers (dt : Micros) : (s.after dt).analyzers = s.analyzers := rfl
@[simp] theorem State.after_switches (dt : Micros) : (s.after dt).switches = s.switches := rfl
@[simp] theorem State.after_lines (dt : Micros) : (s.after dt).lines = s.lines := rfl
@[simp] theorem State.after_loops (dt : Micros) : (s.after dt).loops = s.loops := rfl
@[simp] theorem State.after_cells (dt : Micros) : (s.after dt).cells = s.cells := rfl
@[simp] theorem State.after_sump (dt : Micros) : (s.after dt).sump = s.sump := rfl
@[simp] theorem State.after_timers (dt : Micros) : (s.after dt).timers = s.timers := rfl
@[simp] theorem State.after_sampler (dt : Micros) : (s.after dt).sampler = s.sampler := rfl
@[simp] theorem State.after_permit (dt : Micros) : (s.after dt).permit = s.permit := rfl
@[simp] theorem State.after_clock (dt : Micros) : (s.after dt).clock = s.clock := rfl
@[simp] theorem State.after_path (dt : Micros) : (s.after dt).path = s.path := rfl
@[simp] theorem State.after_flags (dt : Micros) : (s.after dt).flags = s.flags := rfl
@[simp] theorem State.after_alertActive (dt : Micros) : (s.after dt).alertActive = s.alertActive := rfl
@[simp] theorem State.after_link (dt : Micros) : (s.after dt).link = s.link := rfl
@[simp] theorem State.after_pending (dt : Micros) : (s.after dt).pending = s.pending := rfl

end Sys2Proof.Machine
end

