-- ==== Sys2Proof/Laws/Ops.lean ====
section
/-! SUPPORT. The laws of the shared operations: entries of vectors, timers, bookings, writes of the
image, the record that the path keeps, and the Sampler in a hold. -/

namespace Sys2Proof.Machine

open Sys2Proof

/-! ### Vectors -/

@[simp] theorem modAt_same {α : Type} {n : Nat} (v : Vector α n) (i : Fin n) (f : α → α) :
    (modAt v i f)[i] = f v[i] := by
  simp [modAt]

theorem modAt_other {α : Type} {n : Nat} (v : Vector α n) (i j : Fin n) (f : α → α) (h : i ≠ j) :
    (modAt v i f)[j] = v[j] := by
  have h' : i.val ≠ j.val := fun e => h (Fin.ext e)
  simp [modAt, h']

/-- An entry of a changed vector. -/
theorem modAt_get {α : Type} {n : Nat} (v : Vector α n) (i j : Fin n) (f : α → α) :
    (modAt v i f)[j] = if i = j then f v[i] else v[j] := by
  by_cases h : i = j
  · subst h; rw [if_pos rfl]; exact modAt_same v i f
  · rw [if_neg h]; exact modAt_other v i j f h

theorem modAt_modAt {α : Type} {n : Nat} (v : Vector α n) (i : Fin n) (f g : α → α) :
    modAt (modAt v i f) i g = modAt v i (g ∘ f) := by
  simp [modAt]

/-- A number names the thing before it, counted from 0. -/
theorem numbered_eq_some {k n : Nat} (i : Fin k) : numbered k n = some i ↔ n = i.val + 1 := by
  unfold numbered
  constructor
  · intro h
    split at h
    · rename_i hn
      have := congrArg Fin.val (Option.some.inj h)
      simp at this
      omega
    · cases h
  · intro h
    have hi := i.isLt
    have hn : 1 ≤ n ∧ n ≤ k := by omega
    rw [dif_pos hn]
    congr 1
    apply Fin.ext
    simp [h]

theorem numbered_eq_none {k n : Nat} : numbered k n = none ↔ n = 0 ∨ k < n := by
  unfold numbered
  split <;> simp_all <;> omega

/-! ### Timers -/

theorem timerDue_some (t : Timer) (now : Micros) : timerDue (some t) now = true ↔ t.start + t.len ≤ now := by
  simp [timerDue, Timer.due]

@[simp] theorem timerDue_none (now : Micros) : timerDue none now = false := rfl

@[simp] theorem secondsLeft_none (now : Micros) : secondsLeft none now = 0 := rfl

/-! ### Bookings (R22) -/

/-- Below its top an account with an ng residue keeps every nanogram booked to it. -/
theorem NanoAccount.add_exact (a : NanoAccount) (ng : Nat)
    (h : a.mg + (a.residue + ng) / 1000000 ≤ accountTop) :
    (a.add ng).mg * 1000000 + (a.add ng).residue = a.mg * 1000000 + a.residue + ng := by
  simp only [NanoAccount.add, addTo, Nat.min_eq_left h]
  omega

theorem NanoAccount.add_residue_lt (a : NanoAccount) (ng : Nat) : (a.add ng).residue < 1000000 :=
  Nat.mod_lt _ (by decide)

theorem FilmAccount.add_exact (a : FilmAccount) (micro : Nat)
    (h : a.mg + (a.residue + micro) / 1000 ≤ accountTop) :
    (a.add micro).mg * 1000 + (a.add micro).residue = a.mg * 1000 + a.residue + micro := by
  simp only [FilmAccount.add, addTo, Nat.min_eq_left h]
  omega

theorem FilmAccount.add_residue_lt (a : FilmAccount) (micro : Nat) : (a.add micro).residue < 1000 :=
  Nat.mod_lt _ (by decide)

theorem PlatedAccount.add_exact (a : PlatedAccount) (units : Nat)
    (h : a.mg + a.carriedMg units ≤ accountTop) :
    ((a.add units).mg * 1000 + (a.add units).micro) * 100000000 + (a.add units).residue =
      (a.mg * 1000 + a.micro) * 100000000 + a.residue + units := by
  simp only [PlatedAccount.add, addTo, Nat.min_eq_left h]
  simp only [PlatedAccount.carriedMg, PlatedAccount.carriedMicro] at *
  omega

theorem PlatedAccount.add_micro_lt (a : PlatedAccount) (units : Nat) : (a.add units).micro < 1000 :=
  Nat.mod_lt _ (by decide)

theorem PlatedAccount.add_residue_lt (a : PlatedAccount) (units : Nat) : (a.add units).residue < 100000000 :=
  Nat.mod_lt _ (by decide)

theorem addTo_le (top a b : Nat) : addTo top a b ≤ top :=
  Nat.min_le_right _ _

theorem wrap32_lt (n : Nat) : wrap32 n < 2 ^ 32 :=
  Nat.mod_lt _ (by decide)

/-! ### Writes of the image (R188) -/

/-- An order for a write changes nothing but the store. -/
theorem orderWrite_store (kind : WriteKind) (s : State) : { orderWrite kind s with store := s.store } = s := by
  unfold orderWrite
  split
  · rfl
  · split <;> rfl

/-- An order on a store at rest starts a write, which captures the content. -/
theorem orderWrite_idle (kind : WriteKind) (s : State) (h : s.store.inFlight = none) :
    orderWrite kind s = { s with store :=
      { image := none, inFlight := some { kind := kind, content := s.kept }, waiting := s.store.waiting } } := by
  simp [orderWrite, h, startWrite]

/-- A completed write leaves its captured image in the store, or the next write in flight. -/
theorem completeWrite_image (s : State) (w : ImageWrite) (h : s.store.inFlight = some w)
    (hw : s.store.waiting = none) :
    completeWrite s = { s with
      store := { image := some w.content.stored, inFlight := none, waiting := none }
      startUp := { s.startUp with restoreStands := false } } := by
  simp [completeWrite, h, hw]

@[simp] theorem Kept.stored_content (k : Kept) : k.stored.content = k := rfl

@[simp] theorem Kept.stored_crc (k : Kept) : k.stored.crc = k.crc := rfl

/-- A readable store gives the content of a valid image that reads back and whose CRC matches. -/
theorem Store.readBack_good (st : Store) (i : StoredImage) (h : st.image = some i) (hc : i.crc = i.content.crc) :
    st.readBack true true = some i.content := by
  simp [Store.readBack, h, hc]

/-- In every other case the restore reads nothing. -/
theorem Store.readBack_none (st : Store) (readable matched : Bool)
    (h : (readable && matched) = false ∨ st.image = none ∨ ∃ i, st.image = some i ∧ i.crc ≠ i.content.crc) :
    st.readBack readable matched = none := by
  rcases h with h | h | ⟨i, h, hc⟩ <;> simp_all [Store.readBack]

/-! ### The record of the lot that the path has stopped (R141) -/

/-- `Path.keep` changes the kept record alone. -/
theorem Path.keep_frame (p : Path) (dropped : List LotRecord) : { p.keep dropped with dropped := p.dropped } = p := rfl

/-- The newest dropped record of the path's lot is kept. -/
theorem Path.keep_newest (p : Path) (older : List LotRecord) (r : LotRecord) (h : p.lot = some r.number) :
    (p.keep (older ++ [r])).dropped = some r := by
  simp [Path.keep, h]

/-- Records of other lots leave what the path keeps. -/
theorem Path.keep_others (p : Path) (dropped : List LotRecord) (h : ∀ r ∈ dropped, p.lot ≠ some r.number) :
    p.keep dropped = p := by
  have unkept : (dropped.reverse.find? fun r => p.lot = some r.number) = none :=
    List.find?_eq_none.mpr fun r hr => by simpa using h r (List.mem_reverse.mp hr)
  unfold Path.keep
  rw [unkept, Option.none_or]

theorem State.endedRecord_history (s : State) (n : Nat) (r : LotRecord) (h : s.recordOf n = some r) :
    s.endedRecord n = some r := by
  simp [State.endedRecord, h]

theorem State.endedRecord_kept (s : State) (r : LotRecord) (h : s.recordOf r.number = none)
    (d : s.path.dropped = some r) : s.endedRecord r.number = some r := by
  simp [State.endedRecord, h, d]

/-! ### The Sampler in a supply hold (R101) -/

@[simp] theorem enterSampleWait_sampler (t : Fin 3) (s : State) : (enterSampleWait t s).sampler = s.sampler := by
  unfold enterSampleWait
  split <;> rfl

/-- A hold leaves the Sampler IDLE under its mark, in every state. -/
theorem holdSampler_sampler (s : State) :
    (holdSampler s).sampler =
      { state := .idle, lot := none, flush := none, window := none, count := 0, sum := 0, hold := true } := by
  unfold holdSampler
  split <;> simp [samplerEnd]

end Sys2Proof.Machine
end

