-- ==== Sys2Proof/Laws/Flags.lean ====
section
/-! SUPPORT. What the Alert Unit and the Pending Notice set can do: the fields that handing a notice, judging the ALERT
output, latching and clearing leave unchanged, and what they make of the rest (R162 to R169). -/

namespace Sys2Proof.Machine

open Sys2Proof

variable (s : State)

/-- Handing a notice changes the Plant Link alone. -/
theorem handNotice_eq (key : Fin 33) (content : NoticeContent) :
    handNotice key content s = { s with link := (handNotice key content s).link } := by
  unfold handNotice
  split
  · dsimp only
    split
    · unfold moveNotice
      split <;> rfl
    · rfl
  · rfl

/-- A latching changes the flags, the ALERT output and the Plant Link alone. -/
theorem latch_eq (f : Flag) :
    latch f s = { s with
      flags := (latch f s).flags, alertActive := (latch f s).alertActive, link := (latch f s).link } := by
  unfold latch
  split
  · rfl
  · unfold handAlert
    rw [handNotice_eq]
    rfl

/-- A clearing by the part changes the flags, the ALERT output and the Plant Link alone. -/
theorem clearByPart_eq (f : Flag) :
    clearByPart f s = { s with
      flags := (clearByPart f s).flags, alertActive := (clearByPart f s).alertActive
      link := (clearByPart f s).link } := by
  unfold clearByPart
  split
  · unfold handAlert
    rw [handNotice_eq]
    rfl
  · rfl

/-! ### Fields left unchanged -/

@[simp] theorem handNotice_now (key : Fin 33) (content : NoticeContent) : (handNotice key content s).now = s.now := by rw [handNotice_eq]
@[simp] theorem handNotice_choices (key : Fin 33) (content : NoticeContent) : (handNotice key content s).choices = s.choices := by rw [handNotice_eq]
@[simp] theorem handNotice_phase (key : Fin 33) (content : NoticeContent) : (handNotice key content s).phase = s.phase := by rw [handNotice_eq]
@[simp] theorem handNotice_resetLow (key : Fin 33) (content : NoticeContent) : (handNotice key content s).resetLow = s.resetLow := by rw [handNotice_eq]
@[simp] theorem handNotice_supply (key : Fin 33) (content : NoticeContent) : (handNotice key content s).supply = s.supply := by rw [handNotice_eq]
@[simp] theorem handNotice_startUp (key : Fin 33) (content : NoticeContent) : (handNotice key content s).startUp = s.startUp := by rw [handNotice_eq]
@[simp] theorem handNotice_store (key : Fin 33) (content : NoticeContent) : (handNotice key content s).store = s.store := by rw [handNotice_eq]
@[simp] theorem handNotice_kept (key : Fin 33) (content : NoticeContent) : (handNotice key content s).kept = s.kept := by rw [handNotice_eq]
@[simp] theorem handNotice_channels (key : Fin 33) (content : NoticeContent) : (handNotice key content s).channels = s.channels := by rw [handNotice_eq]
@[simp] theorem handNotice_analyzers (key : Fin 33) (content : NoticeContent) : (handNotice key content s).analyzers = s.analyzers := by rw [handNotice_eq]
@[simp] theorem handNotice_switches (key : Fin 33) (content : NoticeContent) : (handNotice key content s).switches = s.switches := by rw [handNotice_eq]
@[simp] theorem handNotice_lines (key : Fin 33) (content : NoticeContent) : (handNotice key content s).lines = s.lines := by rw [handNotice_eq]
@[simp] theorem handNotice_loops (key : Fin 33) (content : NoticeContent) : (handNotice key content s).loops = s.loops := by rw [handNotice_eq]
@[simp] theorem handNotice_cells (key : Fin 33) (content : NoticeContent) : (handNotice key content s).cells = s.cells := by rw [handNotice_eq]
@[simp] theorem handNotice_sump (key : Fin 33) (content : NoticeContent) : (handNotice key content s).sump = s.sump := by rw [handNotice_eq]
@[simp] theorem handNotice_timers (key : Fin 33) (content : NoticeContent) : (handNotice key content s).timers = s.timers := by rw [handNotice_eq]
@[simp] theorem handNotice_sampler (key : Fin 33) (content : NoticeContent) : (handNotice key content s).sampler = s.sampler := by rw [handNotice_eq]
@[simp] theorem handNotice_permit (key : Fin 33) (content : NoticeContent) : (handNotice key content s).permit = s.permit := by rw [handNotice_eq]
@[simp] theorem handNotice_clock (key : Fin 33) (content : NoticeContent) : (handNotice key content s).clock = s.clock := by rw [handNotice_eq]
@[simp] theorem handNotice_path (key : Fin 33) (content : NoticeContent) : (handNotice key content s).path = s.path := by rw [handNotice_eq]
@[simp] theorem handNotice_flags (key : Fin 33) (content : NoticeContent) : (handNotice key content s).flags = s.flags := by rw [handNotice_eq]
@[simp] theorem handNotice_alertActive (key : Fin 33) (content : NoticeContent) : (handNotice key content s).alertActive = s.alertActive := by rw [handNotice_eq]
@[simp] theorem handNotice_pending (key : Fin 33) (content : NoticeContent) : (handNotice key content s).pending = s.pending := by rw [handNotice_eq]

@[simp] theorem judgeAlert_now : (judgeAlert s).now = s.now := rfl
@[simp] theorem judgeAlert_choices : (judgeAlert s).choices = s.choices := rfl
@[simp] theorem judgeAlert_phase : (judgeAlert s).phase = s.phase := rfl
@[simp] theorem judgeAlert_resetLow : (judgeAlert s).resetLow = s.resetLow := rfl
@[simp] theorem judgeAlert_supply : (judgeAlert s).supply = s.supply := rfl
@[simp] theorem judgeAlert_startUp : (judgeAlert s).startUp = s.startUp := rfl
@[simp] theorem judgeAlert_store : (judgeAlert s).store = s.store := rfl
@[simp] theorem judgeAlert_kept : (judgeAlert s).kept = s.kept := rfl
@[simp] theorem judgeAlert_channels : (judgeAlert s).channels = s.channels := rfl
@[simp] theorem judgeAlert_analyzers : (judgeAlert s).analyzers = s.analyzers := rfl
@[simp] theorem judgeAlert_switches : (judgeAlert s).switches = s.switches := rfl
@[simp] theorem judgeAlert_lines : (judgeAlert s).lines = s.lines := rfl
@[simp] theorem judgeAlert_loops : (judgeAlert s).loops = s.loops := rfl
@[simp] theorem judgeAlert_cells : (judgeAlert s).cells = s.cells := rfl
@[simp] theorem judgeAlert_sump : (judgeAlert s).sump = s.sump := rfl
@[simp] theorem judgeAlert_timers : (judgeAlert s).timers = s.timers := rfl
@[simp] theorem judgeAlert_sampler : (judgeAlert s).sampler = s.sampler := rfl
@[simp] theorem judgeAlert_permit : (judgeAlert s).permit = s.permit := rfl
@[simp] theorem judgeAlert_clock : (judgeAlert s).clock = s.clock := rfl
@[simp] theorem judgeAlert_path : (judgeAlert s).path = s.path := rfl
@[simp] theorem judgeAlert_flags : (judgeAlert s).flags = s.flags := rfl
@[simp] theorem judgeAlert_link : (judgeAlert s).link = s.link := rfl
@[simp] theorem judgeAlert_pending : (judgeAlert s).pending = s.pending := rfl

@[simp] theorem latch_now (f : Flag) : (latch f s).now = s.now := by rw [latch_eq]
@[simp] theorem latch_choices (f : Flag) : (latch f s).choices = s.choices := by rw [latch_eq]
@[simp] theorem latch_phase (f : Flag) : (latch f s).phase = s.phase := by rw [latch_eq]
@[simp] theorem latch_resetLow (f : Flag) : (latch f s).resetLow = s.resetLow := by rw [latch_eq]
@[simp] theorem latch_supply (f : Flag) : (latch f s).supply = s.supply := by rw [latch_eq]
@[simp] theorem latch_startUp (f : Flag) : (latch f s).startUp = s.startUp := by rw [latch_eq]
@[simp] theorem latch_store (f : Flag) : (latch f s).store = s.store := by rw [latch_eq]
@[simp] theorem latch_kept (f : Flag) : (latch f s).kept = s.kept := by rw [latch_eq]
@[simp] theorem latch_channels (f : Flag) : (latch f s).channels = s.channels := by rw [latch_eq]
@[simp] theorem latch_analyzers (f : Flag) : (latch f s).analyzers = s.analyzers := by rw [latch_eq]
@[simp] theorem latch_switches (f : Flag) : (latch f s).switches = s.switches := by rw [latch_eq]
@[simp] theorem latch_lines (f : Flag) : (latch f s).lines = s.lines := by rw [latch_eq]
@[simp] theorem latch_loops (f : Flag) : (latch f s).loops = s.loops := by rw [latch_eq]
@[simp] theorem latch_cells (f : Flag) : (latch f s).cells = s.cells := by rw [latch_eq]
@[simp] theorem latch_sump (f : Flag) : (latch f s).sump = s.sump := by rw [latch_eq]
@[simp] theorem latch_timers (f : Flag) : (latch f s).timers = s.timers := by rw [latch_eq]
@[simp] theorem latch_sampler (f : Flag) : (latch f s).sampler = s.sampler := by rw [latch_eq]
@[simp] theorem latch_permit (f : Flag) : (latch f s).permit = s.permit := by rw [latch_eq]
@[simp] theorem latch_clock (f : Flag) : (latch f s).clock = s.clock := by rw [latch_eq]
@[simp] theorem latch_path (f : Flag) : (latch f s).path = s.path := by rw [latch_eq]
@[simp] theorem latch_pending (f : Flag) : (latch f s).pending = s.pending := by rw [latch_eq]

@[simp] theorem clearByPart_now (f : Flag) : (clearByPart f s).now = s.now := by rw [clearByPart_eq]
@[simp] theorem clearByPart_choices (f : Flag) : (clearByPart f s).choices = s.choices := by rw [clearByPart_eq]
@[simp] theorem clearByPart_phase (f : Flag) : (clearByPart f s).phase = s.phase := by rw [clearByPart_eq]
@[simp] theorem clearByPart_resetLow (f : Flag) : (clearByPart f s).resetLow = s.resetLow := by rw [clearByPart_eq]
@[simp] theorem clearByPart_supply (f : Flag) : (clearByPart f s).supply = s.supply := by rw [clearByPart_eq]
@[simp] theorem clearByPart_startUp (f : Flag) : (clearByPart f s).startUp = s.startUp := by rw [clearByPart_eq]
@[simp] theorem clearByPart_store (f : Flag) : (clearByPart f s).store = s.store := by rw [clearByPart_eq]
@[simp] theorem clearByPart_kept (f : Flag) : (clearByPart f s).kept = s.kept := by rw [clearByPart_eq]
@[simp] theorem clearByPart_channels (f : Flag) : (clearByPart f s).channels = s.channels := by rw [clearByPart_eq]
@[simp] theorem clearByPart_analyzers (f : Flag) : (clearByPart f s).analyzers = s.analyzers := by rw [clearByPart_eq]
@[simp] theorem clearByPart_switches (f : Flag) : (clearByPart f s).switches = s.switches := by rw [clearByPart_eq]
@[simp] theorem clearByPart_lines (f : Flag) : (clearByPart f s).lines = s.lines := by rw [clearByPart_eq]
@[simp] theorem clearByPart_loops (f : Flag) : (clearByPart f s).loops = s.loops := by rw [clearByPart_eq]
@[simp] theorem clearByPart_cells (f : Flag) : (clearByPart f s).cells = s.cells := by rw [clearByPart_eq]
@[simp] theorem clearByPart_sump (f : Flag) : (clearByPart f s).sump = s.sump := by rw [clearByPart_eq]
@[simp] theorem clearByPart_timers (f : Flag) : (clearByPart f s).timers = s.timers := by rw [clearByPart_eq]
@[simp] theorem clearByPart_sampler (f : Flag) : (clearByPart f s).sampler = s.sampler := by rw [clearByPart_eq]
@[simp] theorem clearByPart_permit (f : Flag) : (clearByPart f s).permit = s.permit := by rw [clearByPart_eq]
@[simp] theorem clearByPart_clock (f : Flag) : (clearByPart f s).clock = s.clock := by rw [clearByPart_eq]
@[simp] theorem clearByPart_path (f : Flag) : (clearByPart f s).path = s.path := by rw [clearByPart_eq]
@[simp] theorem clearByPart_pending (f : Flag) : (clearByPart f s).pending = s.pending := by rw [clearByPart_eq]

/-! ### The flags -/

/-- A flag that was clear is latched now, with the time of this moment; every other flag stays as it was (R162). -/
theorem latch_flags (f : Flag) :
    (latch f s).flags =
      if s.latched f then s.flags else modAt s.flags f.index fun _ => { latched := true, time := some s.stamp } := by
  unfold latch
  split
  · rfl
  · simp [handAlert]

theorem clearByPart_flags (f : Flag) :
    (clearByPart f s).flags =
      if s.latched f then modAt s.flags f.index fun r => { r with latched := false } else s.flags := by
  unfold clearByPart
  split
  · simp [handAlert]
  · rfl

/-- A latched flag is latched already; latching it changes nothing (R162). -/
theorem latch_of_latched (f : Flag) (h : s.latched f = true) : latch f s = s := by
  simp [latch, h]

/-- A clear flag is not cleared again (R163). -/
theorem clearByPart_of_clear (f : Flag) (h : s.latched f = false) : clearByPart f s = s := by
  simp [clearByPart, h]

/-- The ALERT output after a latching of a clear flag is the judgement on the new flags (R165). -/
theorem latch_alertActive (f : Flag) (h : s.latched f = false) :
    (latch f s).alertActive = (judgeAlert (s.modFlag f.index fun _ => { latched := true, time := some s.stamp })).alertActive := by
  simp [latch, h, handAlert]

/-! ### Notices (R167 to R169) -/

/-- An event of a disabled key is dropped. -/
theorem handNotice_disabled (key : Fin 33) (content : NoticeContent) (h : s.kept.noticeMask[key] = false) :
    handNotice key content s = s := by
  simp [handNotice, h]

/-- An event of an enabled key that finds an empty set and room leaves as a notice frame at once. -/
theorem handNotice_room (key : Fin 33) (content : NoticeContent) (h : s.kept.noticeMask[key] = true)
    (he : s.link.notices = []) (hr : 0 < s.link.free) :
    handNotice key content s = { s with link :=
      { s.link with outbound := s.link.outbound ++ [.notice { key := key, content := content, merged := 1 }] } } := by
  simp [handNotice, h, he, hr, moveNotice, mergeNotice, State.modLink]

/-- An event of an enabled key that finds no room waits in the set. -/
theorem handNotice_waits (key : Fin 33) (content : NoticeContent) (h : s.kept.noticeMask[key] = true)
    (hr : s.link.free = 0) :
    handNotice key content s =
      { s with link := { s.link with notices := mergeNotice key content s.link.notices } } := by
  simp [handNotice, h, hr, State.modLink]

/-- The set holds at most one notice for a key: an event of a key that waits replaces its content in place. -/
theorem mergeNotice_keys (key : Fin 33) (content : NoticeContent) (set : List Notice) :
    (mergeNotice key content set).map (·.key) =
      if set.any (·.key = key) then set.map (·.key) else set.map (·.key) ++ [key] := by
  unfold mergeNotice
  split
  · rw [List.map_map]
    apply List.map_congr_left
    intro n _
    simp only [Function.comp_apply]
    split <;> rfl
  · simp

end Sys2Proof.Machine
end

