-- ==== Sys2Proof/Laws/Link.lean ====
section
/-! SUPPORT. The Plant Link's shared operations: what a request answered at once does, once for all requests. -/

namespace Sys2Proof.Machine

open Sys2Proof

/-- With no frame waiting and no notice or no freed place, nothing is claimed. -/
theorem settle_done (fuel freed : Nat) (s : State) (hi : s.link.inbound = [])
    (hn : s.link.notices = [] ∨ freed = 0) : settle fuel freed s = s := by
  have hs : s.servable = none := by simp [State.servable, hi]
  cases fuel with
  | zero => rfl
  | succ fuel =>
    rcases hn with hn | hn
    · simp [settle, hs, hn]
    · cases h : s.link.notices <;> simp [settle, hs, h, hn]

theorem placesOf_pos (kind : Byte) : 1 ≤ placesOf kind := by
  revert kind
  decide +kernel

theorem freedAfter_one (f : InFrame) (used : Nat) (t : State) (h : f.wants = used) : freedAfter 0 f used t = 0 := by
  simp [freedAfter, h]

/-- The frame of a request that completes while FAULTED is clear. -/
def clearFrame (kind tag : Byte) (r : Request) : InFrame :=
  { kind := kind, tag := tag, request := r, faulted := false }

/-- The state on which a request taken at once is served: its places are reserved. -/
def serving (dt : Micros) (kind : Byte) (s : State) : State :=
  (s.after dt).modLink fun k => { k with reserved := placesOf kind }

theorem clearFrame_wants (kind tag : Byte) (r : Request) : (clearFrame kind tag r).wants = placesOf kind := by
  simp [InFrame.wants, InFrame.heldBack, clearFrame]

/-- A frame that finds its places is taken at once. -/
theorem settle_take (fuel : Nat) (f : InFrame) (s : State) (hr : s.phase = .running) (hi : s.link.inbound = [f])
    (hp : f.wants ≤ s.link.reserved + s.link.free) :
    settle (fuel + 1) 0 s = settle fuel (freedAfter 0 f (takeHead f s).1 (takeHead f s).2) (takeHead f s).2 := by
  have hs : s.servable = some f := by simp [State.servable, hr, hi]
  cases h : s.link.notices <;> simp [settle, hs, h, hp]

/-- A request that completes while the link is ready is taken and served at once; what notices do then is what the
claims of the freed places give. -/
theorem hostRequest_ready (dt : Micros) (kind tag : Byte) (r : Request) (s : State) (h : LinkReady (placesOf kind) s) :
    hostRequest dt kind tag r s =
      (let t := appendReply s.link.outbound.length
          (replyFrames (clearFrame kind tag r) (serve (clearFrame kind tag r) (serving dt kind s)).1)
          (serve (clearFrame kind tag r) (serving dt kind s)).2
       settle 63 (freedAfter 0 (clearFrame kind tag r)
        (replyFrames (clearFrame kind tag r) (serve (clearFrame kind tag r) (serving dt kind s)).1).length t) t) := by
  obtain ⟨hr, hf, hi, hv, hroom⟩ := h
  have ha : (s.after dt).awake = true := by simp [State.awake, State.after, hr]
  have hoffer : hostRequest dt kind tag r s
      = claims 0 ((s.after dt).modLink fun k => { k with inbound := [clearFrame kind tag r] }) := by
    simp [hostRequest, whenAwake, ha, offerFrame, hi, hf, inboundPlaces, clearFrame, State.modLink]
  rw [hoffer, claims, settleTurns, settle_take 63 (clearFrame kind tag r)]
  · simp [takeHead, clearFrame_wants, serving, State.modLink, State.after, hi]
  · exact hr
  · rfl
  · rw [clearFrame_wants]
    simp [State.modLink, hv, Link.free, outboundPlaces]
    omega

/-- The frames of a refusal, and of every reply of a kind with one place. -/
theorem replyFrames_one (f : InFrame) (r : Reply) (h : f.wants = 1 ∨ r.status ≠ .ok) :
    replyFrames f r = [.reply (replyKind f.kind) f.tag r 1 1] := by
  rcases h with h | h <;> simp [replyFrames, Reply.segments, h, List.range_succ]

/-- A request of one place that hands no notice: the served state, with the reply at the tail of the Outbound Queue. -/
theorem hostRequest_served (dt : Micros) (kind tag : Byte) (r : Request) (s : State)
    (h : LinkReady 1 s) (hp : placesOf kind = 1)
    (hout : (serve (clearFrame kind tag r) (serving dt kind s)).2.link.outbound = s.link.outbound)
    (hin : (serve (clearFrame kind tag r) (serving dt kind s)).2.link.inbound = []) :
    hostRequest dt kind tag r s =
      (serve (clearFrame kind tag r) (serving dt kind s)).2.modLink fun k =>
        { k with
          outbound := s.link.outbound ++
            [.reply (replyKind kind) tag (serve (clearFrame kind tag r) (serving dt kind s)).1 1 1]
          reserved := 0 } := by
  rw [hostRequest_ready dt kind tag r s (by rw [hp]; exact h)]
  have hw : (clearFrame kind tag r).wants = 1 := by rw [clearFrame_wants, hp]
  simp only [replyFrames_one _ _ (Or.inl hw)]
  simp only [appendReply, hout, Nat.le_refl, if_true, List.length_singleton]
  rw [settle_done]
  · rfl
  · simpa [State.modLink] using hin
  · right
    simp [freedAfter, hw]

/-- Appending a reply changes the frames, the reserved places and the count of free choices only, and the reply is then
in the queue. -/
theorem appendReply_alike (before : Nat) (frames : List OutFrame) (s : State) :
    AlikeButFrames (s.modLink fun k => { k with reserved := 0 }) (appendReply before frames s) ∧
      ∀ f ∈ frames, f ∈ (appendReply before frames s).link.outbound := by
  simp only [appendReply]
  split
  · exact ⟨rfl, fun f hf => List.mem_append_right _ hf⟩
  · split
    · exact ⟨rfl, fun f hf => List.mem_append_right _ hf⟩
    · exact ⟨rfl, fun f hf => List.mem_append_left _ (List.mem_append_right _ hf)⟩

/-- Frames that were waiting stay in front of a reply. -/
theorem appendReply_prefix (frames out : List OutFrame) (s : State) (h : out <+: s.link.outbound) :
    out <+: (appendReply out.length frames s).link.outbound := by
  obtain ⟨rest, h⟩ := h
  simp only [appendReply]
  split
  · exact ⟨rest ++ frames, by simp [State.modLink, ← h]⟩
  · split
    · exact ⟨rest ++ frames, by simp [State.modLink, State.choose, ← h]⟩
    · exact ⟨frames ++ rest, by simp [State.modLink, ← h]⟩

/-- Appending a reply leaves the Inbound Queue as it is. -/
theorem appendReply_inbound (before : Nat) (frames : List OutFrame) (s : State) :
    (appendReply before frames s).link.inbound = s.link.inbound := by
  simp only [appendReply]
  split
  · rfl
  · split <;> rfl

/-- A request of one place: the served state but for frames and notices, and the reply in the Outbound Queue. -/
theorem hostRequest_alike (dt : Micros) (kind tag : Byte) (r : Request) (s : State)
    (h : LinkReady 1 s) (hp : placesOf kind = 1)
    (hin : (serve (clearFrame kind tag r) (serving dt kind s)).2.link.inbound = [])
    (hout : s.link.outbound <+: (serve (clearFrame kind tag r) (serving dt kind s)).2.link.outbound) :
    AlikeButFrames ((serve (clearFrame kind tag r) (serving dt kind s)).2.modLink fun k => { k with reserved := 0 })
        (hostRequest dt kind tag r s) ∧
      s.link.outbound <+: (hostRequest dt kind tag r s).link.outbound ∧
      .reply (replyKind kind) tag (serve (clearFrame kind tag r) (serving dt kind s)).1 1 1
        ∈ (hostRequest dt kind tag r s).link.outbound := by
  rw [hostRequest_ready dt kind tag r s (by rw [hp]; exact h)]
  have hw : (clearFrame kind tag r).wants = 1 := by rw [clearFrame_wants, hp]
  simp only [replyFrames_one _ _ (Or.inl hw)]
  rw [settle_done _ _ _ (by rw [appendReply_inbound]; exact hin) (Or.inr (by simp [freedAfter, hw]))]
  refine ⟨(appendReply_alike _ _ _).1, appendReply_prefix _ _ _ hout, (appendReply_alike _ _ _).2 _ ?_⟩
  exact List.mem_singleton.mpr rfl

end Sys2Proof.Machine
end

