-- ==== Sys2Proof/Tests/Slice0.lean ====
section
/-! SUPPORT. Tests of the model, each against the spec's own figures or an example of the spec worked by hand, and one
witness for every obligation that has hypotheses: states that meet them. -/

namespace Sys2Proof.Tests

-- Each theorem here waits for the kernel; one after another they need one thread, all at once they need one each.
set_option Elab.async false

open Sys2Proof Sys2Proof.Machine

/-! ### Helpers -/

/-- A part that runs, with its starting levels taken. -/
def base : State :=
  { State.reset with
    phase := .running
    startUp := { selfTestPassed := true, restored := true, restoreStands := false, levels := none }
    sump := { Sump.atStart with levelsTaken := true }
    path := { Path.atStart with started := true } }

/-- The next state meets `p`. -/
def got (o : Out) (p : State → Bool) : Bool :=
  match o with
  | .next t => p t
  | _ => false

/-- The status of the last frame of the Outbound Queue, a reply. -/
def lastStatus (s : State) : Option Status :=
  match s.link.outbound.getLast? with
  | some (.reply _ _ r _ _) => some r.status
  | _ => none

/-- The body of the last frame of the Outbound Queue, a reply. -/
def lastBody (s : State) : Option ReplyBody :=
  match s.link.outbound.getLast? with
  | some (.reply _ _ r _ _) => some r.body
  | _ => none

/-- The link answers a request of one place at once. -/
def readyNow (s : State) : Bool :=
  s.phase = .running && !s.link.faulted && s.link.inbound.isEmpty && s.link.reserved = 0
    && s.link.outbound.length + 1 ≤ 8

theorem ready (s : State) (h : readyNow s = true) : LinkReady 1 s := by
  simp only [readyNow, Bool.and_eq_true, decide_eq_true_eq, Bool.not_eq_true', List.isEmpty_iff] at h
  obtain ⟨⟨⟨⟨h1, h2⟩, h3⟩, h4⟩, h5⟩ := h
  exact ⟨h1, h2, h3, h4, h5⟩

def filled (s : State) (n : Nat) : State :=
  s.modLink fun k => { k with outbound := List.replicate n (.reply 0x80 0 { status := .ok, body := .empty } 1 1) }

/-- A lot of a number in a state, of 1,800 µg/L and 1,000,000 mL. -/
def lotOf (number : Nat) (state : LotState) : Lot :=
  { Lot.opening number { day := 0, second := none } TankSettings.default with
    state := state, filled := 1000000, current := 1000000, concentration := some 1800 }

def inTank (t : Fin 3) (state : TankState) (l : Lot) (s : State) : State :=
  s.modTank t fun _ => { state := state, lot := some l }

/-- A channel of a role at 10 units a pulse, MOVING, with a block of 3 counted pulses. -/
def moving (c : Fin 16) (role : Role) (s : State) : State :=
  (s.modKept fun k => { k with
    channels := modAt k.channels c fun k => { k with role := role, scale := 10 } }).modChannel c fun ch =>
      { ch with moving := true, block := some { t0 := 0, count := 3, last := 0 }, lastEdge := some 0 }

/-! ### Well-formed terms: each check refuses an ill-formed one -/

theorem test_wellFormed_accepts :
    (Instr.setFilmType 0 1 16 10000).wellFormed = true ∧ (Instr.supplyFall 0 300).wellFormed = true ∧
      (Instr.unknownKindRequest 0 0x30 1 []).wellFormed = true ∧ (Instr.supplyBelowReset 0 299).wellFormed = true := by
  decide +kernel

theorem test_wellFormed_field : (Instr.setFilmType 0 1 256 0).wellFormed = false := by
  decide +kernel

theorem test_wellFormed_echo : (Instr.echo 0 1 (List.replicate 249 0)).wellFormed = false := by
  decide +kernel

theorem test_wellFormed_known : (Instr.unknownKindRequest 0 0x2F 1 []).wellFormed = false := by
  decide +kernel

theorem test_wellFormed_payload : (Instr.unknownKindRequest 0 0x30 1 (List.replicate 249 0)).wellFormed = false := by
  decide +kernel

theorem test_wellFormed_levels :
    (Instr.supplyFall 0 299).wellFormed = false ∧ (Instr.supplyRise 0 299).wellFormed = false ∧
      (Instr.supplyBelowReset 0 300).wellFormed = false ∧ (Instr.powerOn 0 299 true true).wellFormed = false := by
  decide +kernel

/-- The permit of Chapter 6's example "judging the windows", with the figures of its rollover example. -/
def permit : Permit :=
  { limit := 2000, cap := 50000, reserve := 500, minDischarge := 1000000, dayStart := 360
    window1 := { enabled := true, start := 1320, stop := 360 }
    window2 := { enabled := true, start := 720, stop := 780 }
    window3 := { enabled := true, start := 900, stop := 900 }
    window4 := { enabled := false, start := 0, stop := 1439 } }

theorem test_wellFormed_permit :
    (Instr.permitMemoryFault 0 permit 0).wellFormed = true ∧
      (Instr.permitMemoryFault 0 { permit with limit := 2 ^ 32 } 0).wellFormed = false ∧
      (Instr.permitMemoryFault 0 { permit with window1 := { enabled := true, start := 65536, stop := 0 } } 0).wellFormed
        = false := by
  decide +kernel

/-! ### Checks and frames -/

theorem test_checks :
    crc16 [0x31, 0x32, 0x33, 0x34, 0x35, 0x36, 0x37, 0x38, 0x39] = 0x29B1#16 ∧
      crc32 [0x31, 0x32, 0x33, 0x34, 0x35, 0x36, 0x37, 0x38, 0x39] = 0xCBF43926#32 := by
  decide +kernel

/-- A SET CLOCK frame, tag 5, day count 414 and second 30,000, its check computed by hand. -/
theorem test_frame_setClock :
    frameBytes 0x18 5 [0x01, 0x9E, 0x00, 0x00, 0x75, 0x30]
        = [0xA5, 0x08, 0x18, 0x05, 0x01, 0x9E, 0x00, 0x00, 0x75, 0x30, 0x06, 0x39] ∧
      decodeRequest 0x18 [0x01, 0x9E, 0x00, 0x00, 0x75, 0x30] = .setClock 414 30000 := by
  decide +kernel

theorem test_decode_rows :
    decodeRequest 0x11 [3, 0x00, 0x25] = .setFilmType 3 37 ∧ decodeRequest 0x24 [0x00, 0xD5] = .holdLot 213 ∧
      decodeRequest 0x29 [0x04, 0x11, 0x00, 0x00, 0x4E, 0x20] = .installCartridge 1041 20000 ∧
      decodeRequest 0x2F [0x41] = .echo [0x41] ∧ decodeRequest 0x40 [] = .readStatus ∧
      decodeRequest 0x23 [1] = .badLength 0x23 ∧ decodeRequest 0x30 [] = .unknownKind 0x30 := by
  decide +kernel

/-- ECHO of two bytes, character by character, is answered with them. -/
theorem test_receive_echo :
    got (receive 1000 [0xA5, 0x04, 0x2F, 0x09, 0x41, 0x42, 0xB3, 0x40] base) (fun t =>
      t.link.outbound = [.reply 0xAF 9 { status := .ok, body := .echoed [0x41, 0x42] } 1 1] &&
        t.link.receiver = Receiver.hunting) = true := by
  decide +kernel

/-- The damaged CLOSE LOT of Chapter 10's example: 6 bytes, tag 9, BAD_CHECK. -/
theorem test_receive_damaged :
    got (receive 1000 [0xA5, 0x02, 0x23, 0x09, 0x00, 0x00] base) (fun t =>
      t.link.fault = some { cause := .badCheck, bytes := 6, tag := some 9, damaged := 1 } && t.link.faulted &&
        t.latched .linkFault && t.link.damagedFrames = 1) = true := by
  decide +kernel

/-! ### Examples of the spec -/

/-- Chapter 1: 100 pulses of 5 mm in 500,000 µs are 60,000 mm/min and 12,000 pulses a minute. -/
def footageBlock : State :=
  ((base.modKept fun k => { k with
      channels := modAt k.channels 0 fun k => { k with role := .footage 0, scale := 5, blockSize := 100 }
      films := modAt k.films 2 fun _ => 37
      lines := modAt k.lines 0 fun k => { k with enabled := true, filmType := 3 }
      accounts := { k.accounts with filmIn := modAt k.accounts.filmIn 0 fun _ => { mg := 9812440, residue := 870 } } }
    ).modChannel 0 fun ch =>
      { ch with moving := true, block := some { t0 := 0, count := 99, last := 495000 }, lastEdge := some 495000 })

/-- The pulse that closes the block, with the footage booking of Chapter 2: 185 µg carry 1 mg. -/
theorem test_footage_block :
    got (exec (.pulseEdge 500000 0 true) footageBlock) (fun t =>
      t.channels[0].rate = 60000 && t.channels[0].pulseRate = 12000 && t.lines[0].filmRate = 60000
        && t.kept.accounts.filmIn[0] = { mg := 9812441, residue := 55 }) = true := by
  decide +kernel

/-- Chapter 2, "one ampere for one minute": the pulse that completes a milligram. -/
theorem test_plating :
    got (exec (.pulseEdge 1000 1 true) (moving 1 (.celli 0) (base.modKept fun k => { k with
        channels := modAt k.channels 1 fun k => { k with scale := 500 }
        cells := modAt k.cells 0 fun k => { k with eff := 90 } }))) (fun t =>
      t.kept.accounts.plated[0] = { mg := 0, micro := 0, residue := 10 * 1118 * 90 }) = true ∧
    (PlatedAccount.add { mg := 8901220, micro := 999, residue := 80000000 } (platedUnits 500 90)) =
      { mg := 8901221, micro := 0, residue := 30310000 } := by
  decide +kernel

/-- A lot of 1,800 µg/L in DISCHARGE from T1 with a grant of 500 mL of which 480 have been metered, the OUTLET channel
at 10 mL (Chapter 2's charge). -/
def discharging : State :=
  (moving 3 .outlet (inTank 0 .draining (lotOf 210 .discharging) (base.modKept fun k => { k with
      permit := { active := some permit, digest := some (digestOf permit), corrupt := false, next := none }
      accounts := { k.accounts with discharged := { mg := 402117, residue := 990000 } }
      day := { k.day with
        number := 411, established := true, dayStart := 360, total := { mg := 31200, residue := 100000 }
        unknown := false } }))).modPath fun p =>
    { p with
      state := .discharge, lot := some 210, use := some .discharge, tank := some 0, grant := some (.volume 500),
      metered := 480, drain := some { start := 0, len := 3600 * sec } }

/-- The charge of 18,000 ng, and at the next pulse the grant of 500 mL is met. -/
theorem test_discharge_charge :
    got (exec (.pulseEdge 1000 3 true) discharging) (fun t =>
      t.kept.accounts.discharged = { mg := 402118, residue := 8000 }
        && t.kept.day.total = { mg := 31200, residue := 118000 } && t.path.state = .discharge
        && (t.lotIn 0).any (fun l => l.dischargedMass = { mg := 0, residue := 18000 } && l.current = 999990)
        && got (exec (.pulseEdge 1000 3 true) t) (fun u => u.path.state = .stopping
          && u.path.stopCause = some .grantMet && u.kept.dischargeQueue = [210]
          && u.kept.tanks[0].state = .closed)) = true := by
  decide +kernel

/-- Chapter 3's worked tick: a demand of 2,400,000 µg/min and 1,400 mg/L against the guard give 42,000 mA, duty 716. -/
def ticking : State :=
  let settings : CellSettings :=
    { line := some 0, iMax := 50000, iFs := 60000, kc := 20, klim := 30, cSet := 1000, eff := 90, standby := 10000,
      pwmPeriod := 10, interval := 5, autostart := false }
  { (((base.modKept fun k => { k with
        channels := modAt k.channels 0 fun k => { k with role := .celli 0, scale := 500 }
        films := modAt k.films 2 fun _ => 40
        lines := modAt k.lines 0 fun k => { k with enabled := true, filmType := 3 }
        cells := modAt k.cells 0 fun _ => settings }).modChannel 0 fun ch => { ch with moving := true, pulseRate := 4800000 }
      ).modCell 0 fun k =>
        { k with
          state := .regulating, appliedTarget := 40000, appliedDuty := 682, mismatch := 2, flowCovered := true
          view := { state := .valid, heldPresent := true }, control := some { start := 0, len := 5 * sec } }) with
    lines := modAt base.lines 0 fun _ => { filmRate := 60000, filmMoving := true }
    analyzers := modAt base.analyzers 0 fun k =>
      { k with state := .valid, published := some 1400000, held := some 1400000 } }

theorem test_tick_guarded :
    got (exec (.cellControlTick (5 * sec) 0) ticking) (fun t =>
      t.cells[0].target = 42000 && t.cells[0].limit = .guarded
        && t.cells[0].staged = some { duty := 716, target := 42000 } && t.cells[0].mismatch = 0) = true := by
  decide +kernel

/-- Chapter 1's transmitter: db 4,000 on a span of 5,000,000 is 1,956,521, and the mean becomes 1,955,880. -/
def transmitter : State :=
  { base.modKept fun k => { k with analyzers := modAt k.analyzers 2 fun _ => { span := 5000000, hold := 120 } } with
    analyzers := modAt base.analyzers 2 fun k =>
      { k with
        state := .valid, published := some 1954250, held := some 1954250
        record := [.reading 1950000, .reading 1955000, .reading 1960000, .reading 1952000]
        period := some { rise := 0, fall := some 40000 } } }

theorem test_transmitter :
    got (exec (.analyzerRisingEdge 100000 2) transmitter) (fun t =>
      t.analyzers[2].record = [.reading 1955000, .reading 1960000, .reading 1952000, .reading 1956521]
        && t.analyzers[2].published = some 1955880 && t.analyzers[2].held = some 1955880) = true := by
  decide +kernel

/-- Chapter 4: 60,000 mm/min at 1,200 mL/m are 72,000 mL/min, 800 thousandths of a valve of 90,000. -/
def washing : State :=
  { (base.modKept fun k => { k with
      lines := modAt k.lines 0 fun k =>
        { k with
          enabled := true, washRatio := 1200, ratedFlow := 90000, trickle := 9000, stopTimeout := 120, washCycle := 10 }
      channels := modAt k.channels 0 fun k => { k with role := .footage 0, scale := 5, blockSize := 100 } }) with
    channels := modAt base.channels 0 fun ch =>
      { ch with moving := true, block := some { t0 := 0, count := 99, last := 495000 }, lastEdge := some 495000 }
    lines := modAt base.lines 0 fun _ => { filmRate := 0, filmMoving := true }
    loops := modAt base.loops 0 fun k => { k with state := .running, target := some 0, staged := some 0 } }

theorem test_wash_fraction :
    got (exec (.pulseEdge 500000 0 true) washing) (fun t =>
      t.loops[0].target = some 72000 && t.loops[0].staged = some 800
        && got (exec (.washCycleStart (10 * sec) 0) t) (fun u =>
          u.loops[0].applied = 800 && u.loops[0].staged = none && u.loops[0].watched)) = true := by
  decide +kernel

/-- A duty of 682 in a period of 10 ms is 6.660 ms of on-time (R1, R53): its last high microsecond and its first low one. -/
theorem test_drive_onTime :
    let drive (now : Micros) : State :=
      { base.modCell 0 fun k => { k with appliedDuty := 682, pwm := { start := 0, len := 10000 } } with now := now }
    (drive 0).driveHigh 0 = true ∧ (drive 6659).driveHigh 0 = true ∧ (drive 6660).driveHigh 0 = false := by
  decide +kernel

/-- 0xA5, the opening character of a frame, on the line (R173), and -3 mg in a reply (R33). -/
theorem test_line_and_sign :
    charBits 0xA5 = [false, true, false, true, false, false, true, false, true, true] ∧
      readChar [false, true, false, true, false, false, true, false, true, false] = (0xA5, true) ∧
      signedBytes 8 (-3) = [0xFF, 0xFF, 0xFF, 0xFF, 0xFF, 0xFF, 0xFF, 0xFD] := by
  decide +kernel

/-- Chapter 6, "judging the windows". -/
theorem test_windows :
    ([82800, 21540, 21600, 45000, 54000].map fun s => (permitWindows permit).any (windowOpenAt · (s / 60))) =
      [true, true, false, true, false] := by
  decide +kernel

/-- Chapter 6, "setting the clock after an outage": day 411, refused, then a rollover to day 414. -/
def outage : State :=
  base.modKept fun k => { k with
    noticeMask := Vector.replicate 33 false
    day := { k.day with
      number := 411, established := true, dayStart := 360, total := { mg := 12040, residue := 600000 } } }

theorem test_setClock :
    got (exec (.setClock 0 1 411 10000) outage) (fun t => lastStatus t = some .wrongState && !t.clock.running) = true ∧
      got (exec (.setClock 0 1 414 30000) outage) (fun t =>
        t.clock = { running := true, second := 30000, dayCount := 414 } && t.kept.day.number = 414
          && t.kept.day.total = NanoAccount.zero && t.kept.dayHistory.map (fun r => (r.number, r.mass)) = [(411, 12040)])
        = true := by
  decide +kernel

/-- Chapter 7, "grants at a small allowance". -/
theorem test_grants :
    ([(3000000, 0), (3000000, 200), (3000000, 1500), (600000, 1500), (0, 1500), (0, 0)].map fun p =>
        let g := grantFor 1000 p.1 p.2
        (g, g.meets 1000000 p.1)) =
      [(.volume 3000000, true), (.volume 3000000, true), (.volume 666666, false), (.volume 600000, true),
        (.volume 666666, false), (.unbounded, true)] := by
  decide +kernel

/-- Chapter 2, "removal after one pass", onto Chapter 8's train. -/
def train : List Cartridge :=
  [{ serial := 1041, capacity := 20000, loaded := 760, installed := { day := 409, second := none }, exhausted := false },
    { serial := 1042, capacity := 50000, loaded := 0, installed := { day := 409, second := none }, exhausted := false }]

def resampled : State :=
  { inTank 2 .closed { lotOf 212 .sampling with
      concentration := some 5200, removalPending := true, current := 11400000, passes := 1 } (base.modKept fun k =>
        { k with train := train, accounts := { k.accounts with cartridgeLoaded := 760 } }) with
    sampler :=
      { Sampler.atStart with
        state := .window, lot := some 212, window := some { start := 0, len := 30 * sec }, count := 3, sum := 5702 } }

theorem test_removal :
    got (exec (.sampleWindowEnd (30 * sec)) resampled) (fun t =>
      t.kept.accounts.cartridgeLoaded = 38380 && t.kept.train.map (fun c => (c.loaded, c.exhausted)) =
        [(20000, true), (18380, false)] && t.latched .cartridgeExhausted
        && (t.lotIn 2).any (fun l => l.concentration = some 1900 && l.previous = some 5200 && !l.removalPending
          && l.state = .queued)) = true := by
  decide +kernel

/-- Chapter 8, "the host replaces the lead". -/
theorem test_removeCartridge :
    got (exec (.removeCartridge 0 1 1041) (base.modKept fun k => { k with
        train := (train.map fun c => { c with loaded := c.loaded + 19240, exhausted := true })
        accounts := { k.accounts with cartridgeLoaded := 73380, cartridgeRemoved := 112600 } })) (fun t =>
      t.kept.train.map (·.serial) = [1042] && t.kept.accounts.cartridgeLoaded = 53380
        && t.kept.accounts.cartridgeRemoved = 132600) = true := by
  decide +kernel

/-- The permit of the example with a window that stays open past the day start. -/
def longWindow : Permit :=
  { permit with window1 := { enabled := true, start := 1320, stop := 400 } }

/-- Chapter 6, "a rollover under a discharge", its window left open: the Day Record, the pending permit in force, and the
lot back at the head of the queue. -/
theorem test_rollover :
    got (exec (.clockSecond sec) { discharging.modKept fun k => { k with
          permit :=
            { active := some longWindow, digest := some (digestOf longWindow), corrupt := false
              next := some { longWindow with cap := 60000 } }
          day := { k.day with total := { mg := 48580, residue := 340000 }, volume := 26250000, lots := 3, plated := 4213 } } with
        clock := { running := true, second := 21599, dayCount := 412 }
        permit := { check := none, enable := true, windowOpen := true } }) (fun t =>
      t.clock.second = 21600 && t.kept.day.number = 412 && t.kept.day.total = NanoAccount.zero
        && t.kept.day.flags = DayFlags.clear && t.path.state = .stopping && t.kept.dischargeQueue = [210]
        && t.kept.permit.active = some { longWindow with cap := 60000 }
        && t.kept.dayHistory.map (fun r => (r.number, r.cap, r.mass, r.volume, r.lots, r.plated)) =
          [(411, some 50000, 48580, 26250000, 3, 4213)]) = true := by
  decide +kernel

/-- Chapter 1, "rebinding a channel". -/
theorem test_rebind :
    got (exec (.setChannel 0 1 { channel := 7, role := 0, edge := 0, scale := 1, blockSize := 16, stale := 5 })
      (((moving 6 (.wash 1) base).modChannel 6 fun ch => { ch with count := 48113, rejected := 2, rate := 31500 }).modLoop 1
        fun k => { k with measuredFlow := 31500 })) (fun t =>
      t.channels[6] = Channel.atStart && t.kept.channels[6].role = .noRole && t.loops[1].measuredFlow = 0) = true := by
  decide +kernel

/-! ### Witnesses of the obligations' hypotheses, with what the commands then answer -/

theorem base_ready : LinkReady 1 base :=
  ready _ (by decide +kernel)

/-- The same part, the time moved on, in a supply hold. -/
def held : State :=
  { base with supply := { level := 440, hold := true, recovery := none } }

theorem witness_StepRunsFront :
    step State.reset = .next State.reset ∧ State.reset.pending = [] ∧
      got (step { base with pending := [.readLots 7 1, .closeLot 0 2] }) (fun t =>
        t.now = 7 && t.pending = [.closeLot 0 2]) = true :=
  ⟨rfl, rfl, by decide +kernel⟩

/-- Reset meets every invariant, and a step from it answers a next state. -/
theorem witness_invariants :
    AlertAgrees State.reset ∧ LinkBounded State.reset ∧ CellsAtRest State.reset ∧
      Throughout Kept.residuesInRange State.reset ∧ Throughout Kept.trainBounded State.reset ∧
      Throughout Kept.oneFilling State.reset ∧ DischargeGuarded State.reset ∧
      ∃ t, step { State.reset with pending := [.selfTestEnd 0 true true false] } = .next t := by
  have none (P : Kept → Prop) (h : P State.reset.kept) : Throughout P State.reset :=
    ⟨h, (by intro k h; cases h), (by intro k h; cases h)⟩
  refine ⟨by unfold AlertAgrees; decide +kernel, by unfold LinkBounded; decide +kernel, by unfold CellsAtRest; decide +kernel,
    none _ (by unfold Kept.residuesInRange; decide +kernel), none _ (by unfold Kept.trainBounded; decide +kernel),
    none _ (by unfold Kept.oneFilling; decide +kernel), by unfold DischargeGuarded; decide +kernel, _, rfl⟩

/-- A discharge that the release conditions guard. -/
theorem witness_DischargeGuardedKept :
    let s := { discharging with
      clock := { running := true, second := 82800, dayCount := 411 }
      permit := { check := none, enable := true, windowOpen := true }
      pending := [.pulseEdge 1000 3 true] }
    s.path.state = .discharge ∧ DischargeGuarded s ∧ got (step s) (fun t => t.path.state = .discharge) = true := by
  refine ⟨rfl, by unfold DischargeGuarded; decide +kernel, by decide +kernel⟩

theorem witness_RequestRoundTrip :
    (Request.setClock 65535 86399).fits = true ∧ (∀ k, Request.setClock 65535 86399 ≠ .badLength k) ∧
      (Request.echo []).fits = true ∧
      (kindRow 0x18).any (fun row => decide ([0, 0].length ≠ row.widths.sum)) = true :=
  ⟨by decide +kernel, (by intro k h; cases h), by decide +kernel⟩

theorem witness_FrameReceived :
    (List.replicate 248 (0 : Byte)).length ≤ 248 ∧ base.awake = true ∧ base.link.receiver = Receiver.hunting := by
  decide +kernel

def receiving (state : ReceiverState) (bytes : List Byte) : State :=
  { base with link := { base.link with
    receiver := { state := state, bytes := bytes, gap := some { start := 0, len := 50000 } } } }

/-- HUNT at the start byte and at another, LENGTH at 2 and at 250, BODY at the last byte of the body, and CHECK at its
first byte. -/
theorem witness_CharacterTaken :
    base.awake = true ∧ base.link.receiver.state = .hunt ∧
      got (exec (.linkCharacter 0 0xA5 false) base) (fun t => t.link.receiver.state = .length) = true ∧
      got (exec (.linkCharacter 0 0xA5 true) base) (fun t => t.link.huntDiscards = 1) = true ∧
      got (exec (.linkCharacter 0 0x02 false) (receiving .length [0xA5])) (fun t =>
        t.link.receiver.state = .body) = true ∧
      got (exec (.linkCharacter 0 0xFA false) (receiving .length [0xA5])) (fun t =>
        t.link.receiver.state = .body) = true ∧
      got (exec (.linkCharacter 0 0x09 false) (receiving .body [0xA5, 0x02, 0x23])) (fun t =>
        t.link.receiver.state = .check) = true ∧
      got (exec (.linkCharacter 7 0x31 false) (receiving .check [0xA5, 0x02, 0x23, 0x09])) (fun t =>
        t.link.receiver = { state := .check, bytes := [0xA5, 0x02, 0x23, 0x09, 0x31], gap := some { start := 7, len := 50000 } })
          = true := by
  decide +kernel

/-- The last byte of a frame with its lowest bit wrong. -/
def offByOne (bytes : List Byte) : Byte :=
  bytes.getLast?.getD 0 ^^^ 1

/-- A framing error, the bad lengths 1 and 251, a gap of exactly 50 ms, and the last character of a READ STATUS frame
whose check is one bit off; the second frame adds to the record. -/
theorem witness_FrameDamaged :
    got (exec (.linkCharacter 0 0 true) (receiving .body [0xA5, 0x02, 0x23, 0x09])) (fun t =>
        t.link.fault = some { cause := .framing, bytes := 5, tag := some 9, damaged := 1 }
          && got (exec (.linkCharacter 0 0 true) { t with link := { t.link with
            receiver := { state := .length, bytes := [0xA5], gap := none } } }) (fun u =>
              u.link.fault = some { cause := .framing, bytes := 5, tag := some 9, damaged := 2 })) = true ∧
      got (exec (.linkCharacter 0 1 false) (receiving .length [0xA5])) (fun t =>
        t.link.fault = some { cause := .badLengthField, bytes := 2, tag := none, damaged := 1 }) = true ∧
      got (exec (.linkCharacter 0 251 false) (receiving .length [0xA5])) (fun t =>
        t.link.fault = some { cause := .badLengthField, bytes := 2, tag := none, damaged := 1 }) = true ∧
      timerDue (receiving .length [0xA5]).link.receiver.gap 50000 = true ∧
      timerDue (receiving .length [0xA5]).link.receiver.gap 49999 = false ∧
      got (exec (.linkGapTimeout 50000) (receiving .length [0xA5])) (fun t =>
        t.link.fault = some { cause := .gap, bytes := 1, tag := none, damaged := 1 } && t.link.faulted) = true ∧
      (frameBytes 0x40 9 []).length = 2 + 4 ∧ (frameBytes 0x40 9 []).getD 1 0 = 2 ∧
      (frameBytes 0x40 9 []).getLast? ≠ some (offByOne (frameBytes 0x40 9 [])) ∧
      got (exec (.linkCharacter 0 (offByOne (frameBytes 0x40 9 [])) false)
        (receiving .check ((frameBytes 0x40 9 []).take 5))) (fun t =>
          t.link.fault = some { cause := .badCheck, bytes := 6, tag := some 9, damaged := 1 } && t.link.inbound = []) = true := by
  decide +kernel

def waiting (n : Nat) : State :=
  { filled base 8 with link := { (filled base 8).link with
    inbound := List.replicate n { kind := 0x23, tag := 1, request := .closeLot, faulted := false } } }

def someNotice (key : Fin 33) : Notice :=
  { key := key, content := .alert 1 1 true none true, merged := 255 }

/-- A frame sent with and without a notice waiting; a full Inbound Queue with a place free and with none. -/
theorem witness_QueuesServed :
    got (exec (.outboundFrameSent 0) (filled base 8)) (fun t => t.link.outbound.length = 7) = true ∧
      got (exec (.outboundFrameSent 0) { filled base 8 with link := { (filled base 8).link with
        notices := [someNotice 4] } }) (fun t => t.link.outbound.length = 8 && t.link.notices = []) = true ∧
      4 ≤ (waiting 4).link.inbound.length ∧ 8 ≤ (waiting 4).link.outbound.length + (waiting 4).link.reserved ∧
      (hostRequest 0 0x23 9 .closeLot (waiting 4)).link.silentDiscards = 1 ∧
      (hostRequest 0 0x23 9 .closeLot { waiting 4 with link := { (waiting 4).link with
        outbound := [] } }).link.overrunReplies = 1 := by
  decide +kernel

/-- An ECHO, which wants two places, at the head: it comes to one free place; a place frees with 8, and with 7, taken; a
notice claims the place too; and a frame marked FAULTED wants one place. -/
theorem witness_QueuesServed_waiting :
    let echo (faulted : Bool) : InFrame := { kind := 0x2F, tag := 9, request := .echo [5], faulted := faulted }
    let queued (out : Nat) (f : InFrame) (notices : List Notice) : State :=
      { filled base out with link := { (filled base out).link with inbound := [f], notices := notices } }
    placesOf 0x2F = 2 ∧ base.phase = .running ∧
      (hostRequest 0 0x2F 9 (.echo [5]) (filled base 7)).link.inbound = [echo false] ∧
      got (exec (.outboundFrameSent 0) (queued 8 (echo false) [])) (fun t =>
        t.link.outbound.length = 7 && t.link.reserved = 1 && t.link.inbound = [echo false]) = true ∧
      got (exec (.outboundFrameSent 0) (queued 7 (echo false) [])) (fun t =>
        t.link.outbound.length = 7 && t.link.reserved = 0 && t.link.inbound = [] && lastBody t = some (.echoed [5])) = true ∧
      got (exec (.outboundFrameSent 0) (queued 8 (echo true) [])) (fun t =>
        t.link.outbound.length = 8 && lastStatus t = some .held) = true := by
  decide +kernel

/-- Either the notice or the waiting request has the place that frees. -/
theorem witness_QueuesServed_either :
    let s : State := { filled base 8 with link := { (filled base 8).link with
      inbound := [{ kind := 0x2F, tag := 9, request := .echo [5], faulted := false }], notices := [someNotice 4] } }
    s.link.reserved + s.link.outbound.length ≤ 8 ∧ 8 < s.link.outbound.tail.length + placesOf 0x2F := by
  decide +kernel

theorem witness_ResumeLink :
    base.phase = .running ∧ base.link.inbound = [] ∧ base.link.reserved = 0 ∧ (filled base 7).link.outbound.length < 8 ∧
      got (exec (.resumeLink 0 1) { filled base 7 with link := { (filled base 7).link with
        faulted := true, fault := some { cause := .gap, bytes := 1, tag := none, damaged := 3 } } }) (fun t =>
          !t.link.faulted && t.link.fault = none && lastStatus t = some .ok) = true := by
  decide +kernel

theorem witness_HostRowsAreFrames :
    (Instr.setClock 3 5 414 30000).frame = some (3, 0x18, 5, .setClock 414 30000) ∧
      (Instr.setClock 3 5 414 30000).wellFormed = true ∧
      (Instr.unknownKindRequest 0 0x50 5 []).frame = some (0, 0x50, 5, .unknownKind 0x50) ∧
      (Instr.unknownKindRequest 0 0x50 5 []).wellFormed = true := by
  decide +kernel

theorem witness_JudgedBeforeEntry :
    LinkReady 1 base ∧ LinkReady 1 held ∧ held.supply.hold = true ∧ kindKnown 0x00 = false ∧ kindKnown 0xFF = false ∧
      Request.closeLot.kind ≠ 0x2D ∧ LinkReady 5 base ∧ (kindRow 0x45).map (·.widths.sum) = some 0 ∧
      (kindRow 0x2D).map (·.widths.sum) = some 0 ∧
      lastStatus (hostRequest 0 0x45 1 (decodeRequest 0x45 [7]) base) = some .badLength ∧
      lastStatus (hostRequest 0 0x2D 1 (decodeRequest 0x2D [7]) { base with link := { base.link with faulted := true } })
        = some .badLength ∧
      lastStatus (hostRequest 0 0x23 1 .closeLot { base with link := { base.link with faulted := true } }) = some .held ∧
      got (exec (.unknownKindRequest 0 0xFF 1 []) base) (fun t => lastStatus t = some .unknownKind) = true ∧
      got (exec (.setDischargeEnable 0 1 1) held) (fun t => lastStatus t = some .supplyLow) = true ∧
      got (exec (.setDischargeEnable 0 1 0) held) (fun t => lastStatus t = some .ok) = true :=
  ⟨base_ready, ready _ (by decide +kernel), rfl, by decide +kernel, by decide +kernel, by decide +kernel,
    ⟨rfl, rfl, rfl, rfl, by decide⟩, by decide +kernel⟩

def refusedWith (status : Status) (i : Instr) : Bool :=
  got (exec i base) fun t => lastStatus t = some status

def lineFields : LineFields :=
  { line := 1, enabled := 1, filmType := 16, fixerVolume := 0, washRatio := 1000, ratedFlow := 1000, trickle := 1000,
    stopTimeout := 60, washCycle := 2 }

def cellFields : CellFields :=
  { cell := 1, line := 1, iMax := 1000, iFs := 1000, kc := 0, klim := 1, cSet := 0, eff := 50, standby := 1000,
    pwmPeriod := 1, interval := 1, autostart := 1 }

def channelFields : ChannelFields :=
  { channel := 4, role := 13, edge := 1, scale := 65535, blockSize := 1023, stale := 60 }

/-- One field below and one above its range, for each of the settings and the commands. -/
theorem witness_OutOfRange :
    LinkReady 1 base ∧ base.supply.hold = false ∧
      [Instr.setLine 0 1 { lineFields with line := 0 }, .setLine 0 1 { lineFields with trickle := 1001 },
        .setCell 0 1 { cellFields with iFs := 999 }, .setChannel 0 1 { channelFields with scale := 0 }, .setFilmType 0 1 0 0, .setFilmType 0 1 17 0, .setFilmType 0 1 1 10001,
        .setAnalyzer 0 1 { input := 1, span := 999, hold := 0 }, .setAnalyzer 0 1 { input := 1, span := 1000, hold := 601 },
        .setTank 0 1 { tank := 4, capacity := 100000, settle := 0, maxFill := 0, drainLimit := 60 },
        .setPlant 0 1 { PlantSettings.default with threshold := 4 }, .setClock 0 1 0 0, .setClock 0 1 1 86400,
        .startCell 0 1 0, .readLine 0 1 5, .holdLot 0 1 0, .removeCartridge 0 1 65536, .setDischargeEnable 0 1 2,
        .clearAlert 0 1 17 0, .clearAlert 0 1 0 1, .clearAlert 0 1 4 6].all (refusedWith .outOfRange) = true :=
  ⟨base_ready, by decide +kernel⟩

theorem witness_ReadsChangeNothing : LinkReady 5 base ∧ base.link.notices = [] :=
  ⟨⟨by decide +kernel, by decide +kernel, by decide +kernel, by decide +kernel, by decide +kernel⟩, by decide +kernel⟩

/-- The worked balance of 02_silver_accounting.md. -/
def balanced : State :=
  let held (n volume : Nat) (c : Option Nat) (state : LotState) : Lot :=
    { lotOf n state with current := volume, concentration := c }
  let film (mg : Nat) : FilmAccount := { mg := mg, residue := 999 }
  let plated (mg : Nat) : PlatedAccount := { mg := mg, micro := 999, residue := 0 }
  let s := inTank 0 .closed (held 1 12000000 (some 1800) .queued) (inTank 1 .filling (held 2 5 none .filling)
    (inTank 2 .closed (held 3 10500000 (some 2350) .settling) base))
  { s with
    analyzers := (s.analyzers.set 0 { s.analyzers[0] with state := .valid, published := some 1955880 }).set 1
      { s.analyzers[1] with state := .lost, held := some 1400000 }
    kept := { s.kept with
      lines := (s.kept.lines.set 0 { s.kept.lines[0] with fixerVolume := 200000 }).set 1
        { s.kept.lines[1] with fixerVolume := 200000 }
      accounts :=
        { filmIn := #v[film 9812440, film 7640118, film 0, film 0]
          plated := #v[plated 8901220, plated 6952905, plated 0, plated 0], cartridgeLoaded := 38410
          cartridgeRemoved := 112600, discharged := { mg := 402118, residue := 0 }
          hauled := { mg := 55020, residue := 0 } } } }

theorem test_balance :
    (balanceFigures balanced).lines.map (·.term) = [391176, 280000, 0, 0] ∧
      (balanceFigures balanced).lots.map (·.term) = [21600, 0, 24675] ∧
      (balanceFigures balanced).unaccounted = 272834 := by
  decide +kernel

/-- A clear flag, then the same flag latched already. -/
theorem witness_FlagLatches :
    base.latched .outletLeak = false ∧ (latch .outletLeak base).latched .outletLeak = true := by
  decide +kernel

/-- A key disabled, pending with a merged count of 255, waiting behind another, and alone with room and with none. -/
theorem witness_NoticeHanded :
    let two : State := { base with link := { base.link with notices := [someNotice 4, someNotice 7] } }
    base.kept.noticeMask[(7 : Fin 33)] = true ∧
      (base.modKept fun k => { k with noticeMask := Vector.replicate 33 false }).kept.noticeMask[(7 : Fin 33)] = false ∧
      two.link.notices = [someNotice 4] ++ someNotice 7 :: [] ∧ (∀ m ∈ [someNotice 4] ++ [], m.key ≠ 7) ∧
      (handNotice 7 (.alert 8 1 true none true) two).link.notices.map (·.merged) = [255, 255] ∧
      (∀ m ∈ two.link.notices, m.key ≠ 9) ∧ two.link.notices ≠ [] ∧ base.link.notices = [] ∧
      base.link.outbound.length + base.link.reserved < 8 ∧
      8 ≤ (filled base 8).link.outbound.length + (filled base 8).link.reserved := by
  decide +kernel

/-- The last kind, an instance of the five of kind 4, and every kind; masks of all 1 and with one 2. -/
theorem witness_AlertsSetAndCleared :
    LinkReady 1 base ∧ (∀ i : Fin 16, (Vector.replicate 16 1)[i] ≤ 1) ∧
      (∃ i : Fin 33, 1 < ((Vector.replicate 33 1).set 32 2)[i]) ∧ (5 : Nat) ≤ kindCount 4 ∧
      got (exec (.clearAlert 0 1 12 0) (latch .outletLeak base)) (fun t => !t.latched .outletLeak) = true ∧
      got (exec (.clearAlert 0 1 0 0) (latch .clockUnset base)) (fun t => t.latched .clockUnset) = true ∧
      got (exec (.setAlertMask 0 1 (Vector.replicate 16 0)) (latch .clockUnset base)) (fun t => !t.alertActive) = true :=
  ⟨base_ready, by decide +kernel⟩

/-! #### Settings -/

def tankFields : TankFields :=
  { tank := 3, capacity := 100000, settle := 7200, maxFill := 48, drainLimit := 60 }

theorem witness_FilmAndTankSettings :
    LinkReady 1 base ∧ tankFields.inRange = true ∧ base.kept.tanks[(2 : Fin 3)].state = .empty ∧
      got (exec (.setFilmType 0 1 16 10000) base) (fun t => t.kept.films[15] = 10000) = true ∧
      got (exec (.setTank 0 1 tankFields) base) (fun t => t.kept.tankSettings[2] = tankFields.settings) = true ∧
      got (exec (.setTank 0 1 tankFields) (inTank 2 .filling (lotOf 1 .filling) base)) (fun t =>
        lastStatus t = some .wrongState) = true :=
  ⟨base_ready, by decide +kernel⟩

/-- Line L1 enabled with a stop timeout of 100 s, its loop in TRICKLE since time 0. -/
def trickling : State :=
  (base.modKept fun k => { k with
    lines := modAt k.lines 0 fun k => { k with enabled := true, stopTimeout := 100 } }).modLoop 0 fun k =>
      { k with state := .trickle, stop := some { start := 0, len := 100 * sec } }

/-- Each clause: NO to YES with the film still and moving, YES to NO, unchanged in OFF, IDLE, RUNNING and TRICKLE, and the
new stop timeout of 60 s met exactly and a microsecond before. -/
theorem witness_LineSet :
    LinkReady 1 base ∧ LinkReady 1 trickling ∧ lineFields.inRange = true ∧
      got (exec (.setLine 0 1 lineFields) base) (fun t => t.loops[0].state = .idle) = true ∧
      got (exec (.setLine 0 1 lineFields) (base.modLine 0 fun _ => { filmRate := 500, filmMoving := true })) (fun t =>
        t.loops[0].state = .running && t.loops[0].target = some 500 && t.loops[0].staged = some 500) = true ∧
      got (exec (.setLine 0 1 { lineFields with enabled := 0 }) trickling) (fun t => t.loops[0].state = .off) = true ∧
      got (exec (.setLine 0 1 { lineFields with enabled := 0 }) base) (fun t => t.loops[0].state = .off) = true ∧
      got (exec (.setLine (60 * sec) 1 lineFields) trickling) (fun t => t.loops[0].state = .idle) = true ∧
      got (exec (.setLine (60 * sec - 1) 1 lineFields) trickling) (fun t =>
        t.loops[0].state = .trickle && t.loops[0].stop = some { start := 0, len := 60 * sec }
          && t.loops[0].target = some 1000) = true ∧
      got (exec (.setLine (60 * sec) 1 { lineFields with stopTimeout := 100 }) trickling) (fun t =>
        t.loops[0].state = .trickle && t.loops[0].stop = some { start := 0, len := 100 * sec }) = true ∧
      got (exec (.setLine 0 1 lineFields) (trickling.modLoop 0 fun k => { k with state := .running, stop := none }))
        (fun t => t.loops[0].state = .running && t.loops[0].target = some 0) = true :=
  ⟨base_ready, ready _ (by decide +kernel), by decide +kernel⟩

/-- The line kept, the line given up, a line of another cell, and a cell that runs. -/
theorem witness_CellSet :
    LinkReady 1 base ∧ cellFields.inRange = true ∧ base.cells[(0 : Fin 4)].state = .off ∧
      got (exec (.setCell 0 1 cellFields) base) (fun t => t.kept.cells[0] = cellFields.settings) = true ∧
      got (exec (.setCell 0 1 { cellFields with line := 0 })
        (base.modCell 0 fun k => { k with view := { state := .lost, heldPresent := true } })) (fun t =>
          t.kept.cells[0].line = none && t.cells[0].view = { state := .waiting, heldPresent := false }) = true ∧
      got (exec (.setCell 0 1 { cellFields with line := 2 }) base) (fun t => lastStatus t = some .wrongState) = true ∧
      got (exec (.setCell 0 1 cellFields) (base.modCell 0 fun k => { k with state := .priming })) (fun t =>
        lastStatus t = some .wrongState) = true :=
  ⟨base_ready, by decide +kernel⟩

theorem witness_ChannelSet :
    LinkReady 1 base ∧ LinkReady 1 (moving 3 .outlet base) ∧ channelFields.inRange = true ∧
      base.channels[(3 : Fin 16)].moving = false ∧ (moving 3 .outlet base).channels[(3 : Fin 16)].moving = true ∧
      got (exec (.setChannel 0 1 channelFields) base) (fun t => t.kept.channels[3] = channelFields.settings) = true ∧
      got (exec (.setChannel 0 1 channelFields) (moving 4 .transfer base)) (fun t =>
        lastStatus t = some .wrongState) = true ∧
      got (exec (.setChannel 0 1 channelFields) discharging) (fun t => lastStatus t = some .wrongState) = true :=
  ⟨base_ready, ready _ (by decide +kernel), by decide +kernel⟩

def holding : State :=
  base.modAnalyzer 0 fun k =>
    { k with state := .faultLow, held := some 5, hold := some { start := 0, len := 120 * sec }, record := [.low, .low] }

/-- A hold time of 60 s met exactly and a microsecond before, no hold running, and A5 while the Sampler has a lot. -/
theorem witness_AnalyzerSet :
    let f : AnalyzerFields := { input := 1, span := 1000, hold := 60 }
    LinkReady 1 base ∧ LinkReady 1 holding ∧ f.inRange = true ∧
      got (exec (.setAnalyzer (60 * sec) 1 f) holding) (fun t =>
        t.analyzers[0].held = none && t.analyzers[0].hold = none && t.analyzers[0].record = []) = true ∧
      got (exec (.setAnalyzer (60 * sec - 1) 1 f) holding) (fun t =>
        t.analyzers[0].held = some 5 && t.analyzers[0].hold = some { start := 0, len := 60 * sec }) = true ∧
      got (exec (.setAnalyzer 0 1 f) base) (fun t =>
        t.kept.analyzers[0] = { span := 1000, hold := 60 } && t.analyzers[0].state = .waiting) = true ∧
      got (exec (.setAnalyzer 0 1 { f with input := 5 }) resampled) (fun t => lastStatus t = some .wrongState) = true :=
  ⟨base_ready, ready _ (by decide +kernel), by decide +kernel⟩

/-- The threshold kept; raised to the supply and above it; and in HOLD, at the new threshold + 0.10 V and above it. -/
theorem witness_PlantSet :
    let f (threshold : Nat) : PlantSettings := { PlantSettings.default with threshold := threshold }
    let at465 (hold : Bool) : State := { base with supply := { level := 465, hold := hold, recovery := none } }
    LinkReady 1 base ∧ (f 0).inRange = true ∧ (f 3).inRange = true ∧ LinkReady 1 (at465 true) ∧
      got (exec (.setPlant 0 1 (f 2)) base) (fun t => lastStatus t = some .ok && !t.supply.hold) = true ∧
      got (exec (.setPlant 0 1 (f 3)) (at465 false)) (fun t => !t.supply.hold && t.kept.plant.threshold = 3) = true ∧
      got (exec (.setPlant 0 1 (f 3)) { (at465 false).modKept (fun k => { k with noticeMask := Vector.replicate 33 false })
        with supply := { level := 464, hold := false, recovery := none } }) (fun t =>
          t.supply = { level := 464, hold := true, recovery := none } && t.latched .supplyLow) = true ∧
      got (exec (.setPlant 0 1 (f 0)) (at465 true)) (fun t =>
        t.supply.recovery = some { start := 0, len := 100000 }) = true ∧
      got (exec (.setPlant 0 1 (f 0)) { at465 true with
        supply := { level := 430, hold := true, recovery := some { start := 0, len := 100000 } } }) (fun t =>
          t.supply.recovery = none) = true :=
  ⟨base_ready, by decide +kernel, by decide +kernel, ready _ (by decide +kernel), by decide +kernel⟩

def permitFields : PermitFields :=
  { limit := 1, cap := 100000000, reserve := 100000000, minDischarge := 0, dayStart := 1439
    window1 := { enabled := 1, start := 0, stop := 1439 }, window2 := { enabled := 0, start := 0, stop := 0 }
    window3 := { enabled := 0, start := 0, stop := 0 }, window4 := { enabled := 0, start := 0, stop := 0 } }

theorem witness_PermitSet :
    LinkReady 1 base ∧ LinkReady 1 discharging ∧ permitFields.inRange = true ∧ base.kept.permit.active = none ∧
      discharging.kept.permit.active.isSome ∧
      got (exec (.setPermit 0 1 permitFields) base) (fun t =>
        t.kept.permit.active = some permitFields.permit && t.kept.day.dayStart = 1439
          && lastBody t = some (.activated (digestOf permitFields.permit))) = true ∧
      got (exec (.setPermit 0 1 permitFields) discharging) (fun t =>
        t.kept.permit.next = some permitFields.permit && lastBody t = some .staged) = true :=
  ⟨base_ready, ready _ (by decide +kernel), by decide +kernel⟩

/-- An unestablished day; and an established day 411 at a start of second 21,600, just before it and at it. -/
theorem witness_ClockSet :
    LinkReady 1 base ∧ LinkReady 1 outage ∧ base.kept.day.established = false ∧ outage.kept.day.established = true ∧
      got (exec (.setClock 0 1 1 0) base) (fun t => t.kept.day.established && t.kept.day.number = 1) = true ∧
      got (exec (.setClock 0 1 411 21599) outage) (fun t => lastStatus t = some .wrongState) = true ∧
      got (exec (.setClock 0 1 411 21600) outage) (fun t =>
        t.clock.running && t.kept.day.number = 411 && t.kept.dayHistory = []) = true ∧
      got (exec (.setClock 0 1 65535 86399) outage) (fun t => t.kept.day.number = 65535) = true :=
  ⟨base_ready, ready _ (by decide +kernel), by decide +kernel⟩

/-! #### Cells, wash and pulses -/

def cellIn (state : CellState) (s : State) : State :=
  s.modCell 0 fun k => { k with state := state }

/-- An OFF cell with a line, primed and not, and without one; FAULT, and a cell that runs. -/
theorem witness_CellCommands :
    let primed := base.modCell 0 fun k =>
      { k with flowCovered := true, view := { state := .valid, heldPresent := true } }
    LinkReady 1 base ∧ base.supply.hold = false ∧ LinkReady 1 primed ∧ LinkReady 1 (cellIn .fault base) ∧
      LinkReady 1 (cellIn .standby base) ∧
      got (exec (.startCell 0 1 1) base) (fun t =>
        t.cells[0].state = .priming && t.cells[0].priming = some { start := 0, len := 60 * sec }) = true ∧
      got (exec (.startCell 0 1 1) primed) (fun t =>
        t.cells[0].state = .regulating && t.cells[0].control = some { start := 0, len := 5 * sec }) = true ∧
      got (exec (.startCell 0 1 1) (base.modKept fun k => { k with
        cells := modAt k.cells 0 fun k => { k with line := none } })) (fun t => lastStatus t = some .wrongState) = true ∧
      got (exec (.startCell 0 1 1) (cellIn .fault base)) (fun t => lastStatus t = some .wrongState) = true ∧
      got (exec (.startCell 0 1 1) (cellIn .standby base)) (fun t => lastStatus t = some .ok) = true ∧
      got (exec (.stopCell 0 1 1) (cellIn .standby base)) (fun t => t.cells[0].state = .off) = true ∧
      got (exec (.stopCell 0 1 1) base) (fun t => lastStatus t = some .ok) = true ∧
      got (exec (.stopCell 0 1 1) (cellIn .fault base)) (fun t => lastStatus t = some .wrongState) = true ∧
      got (exec (.clearCellFault 0 1 1) (cellIn .fault base)) (fun t => t.cells[0].state = .off) = true ∧
      got (exec (.clearCellFault 0 1 1) base) (fun t => lastStatus t = some .wrongState) = true :=
  ⟨base_ready, by decide +kernel, ready _ (by decide +kernel), ready _ (by decide +kernel), ready _ (by decide +kernel),
    by decide +kernel⟩

/-- The priming timer at 60 s; a lost flow of a driven, an OFF and a held cell; a current of 55,000 mA, the limit, and of
56,000 mA; a gap of 6,000 mA, the limit, and of 8,000 mA at the third and an earlier tick. -/
theorem witness_CellFaults :
    let priming := base.modCell 0 fun k => { k with state := .priming, priming := some { start := 0, len := 60 * sec } }
    let losing (state : CellState) (hold : Bool) : State :=
      (base.modCell 0 fun k => { k with state := state, flowCovered := true, hold := hold }).modSwitch 8 fun k =>
        { k with accepted := some true, debounce := some { start := 0, len := 100000 } }
    let measuring (rate : Nat) (applied mismatch : Nat) : State :=
      (ticking.modChannel 0 fun ch => { ch with pulseRate := rate }).modCell 0 fun k =>
        { k with appliedTarget := applied, mismatch := mismatch }
    got (exec (.cellPrimingTimeout (60 * sec) 0) priming) (fun t => t.cells[0].fault = some .noFlow) = true ∧
      got (exec (.cellPrimingTimeout (60 * sec - 1) 0) priming) (fun t => t.cells[0].state = .priming) = true ∧
      got (exec (.debounceExpired 100000 (.cellFlow 0)) (losing .holding false)) (fun t =>
        t.cells[0].state = .fault && t.cells[0].fault = some .noFlow && t.latched (.cellFault 0)) = true ∧
      got (exec (.debounceExpired 100000 (.cellFlow 0)) (losing .off false)) (fun t => t.cells[0].state = .off) = true ∧
      got (exec (.debounceExpired 100000 (.cellFlow 0)) (losing .holding true)) (fun t =>
        t.cells[0].state = .holding && !t.cells[0].flowCovered) = true ∧
      got (exec (.cellControlTick (5 * sec) 0) (measuring 6600000 55000 0)) (fun t =>
        t.cells[0].state = .regulating) = true ∧
      got (exec (.cellControlTick (5 * sec) 0) (measuring 6720000 56000 0)) (fun t =>
        t.cells[0].fault = some .overcurrent) = true ∧
      got (exec (.cellControlTick (5 * sec) 0) (measuring 4800000 34000 2)) (fun t => t.cells[0].mismatch = 0) = true ∧
      got (exec (.cellControlTick (5 * sec) 0) (measuring 4800000 32000 2)) (fun t =>
        t.cells[0].fault = some .driveMismatch && t.cells[0].appliedTarget = 0
          && t.cells[0].lastTick.map (fun r => (r.measured, r.applied)) = some (40000, 32000)) = true ∧
      got (exec (.cellControlTick (5 * sec) 0) (measuring 4800000 32000 1)) (fun t =>
        t.cells[0].mismatch = 2 && t.cells[0].state = .regulating) = true := by
  decide +kernel

/-- The four rows of the clamp, a STANDBY cell, and a tick within the first PWM period of an applied duty. -/
theorem witness_ControlTick :
    let at' (iMax c iFsKc : Nat) : State :=
      { ticking.modKept fun k => { k with
          cells := modAt k.cells 0 fun k => { k with iMax := iMax, kc := iFsKc } } with
        analyzers := modAt ticking.analyzers 0 fun k => { k with published := some (c * 1000) } }
    got (exec (.cellControlTick (5 * sec) 0) (at' 50000 0 1000)) (fun t =>
        t.cells[0].target = 0 && t.cells[0].limit = .zero) = true ∧
      got (exec (.cellControlTick (5 * sec) 0) (at' 50000 1400 0)) (fun t =>
        t.cells[0].target = 39753 && t.cells[0].limit = .noLimit) = true ∧
      got (exec (.cellControlTick (5 * sec) 0) (at' 42000 1400 20)) (fun t =>
        t.cells[0].target = 42000 && t.cells[0].limit = .rated) = true ∧
      got (exec (.cellControlTick (5 * sec) 0) (at' 42001 1400 20)) (fun t =>
        t.cells[0].target = 42000 && t.cells[0].limit = .guarded) = true ∧
      got (exec (.cellControlTick (5 * sec) 0) (ticking.modCell 0 fun k =>
        { k with state := .standby, view := { state := .lost, heldPresent := false } })) (fun t =>
          t.cells[0].target = 10000 && t.cells[0].state = .standby) = true ∧
      got (exec (.cellControlTick (5 * sec) 0) (ticking.modCell 0 fun k =>
        { k with appliedTarget := 0, appliedSince := 4999999 })) (fun t =>
          t.cells[0].mismatch = 2 && t.cells[0].target = 42000) = true := by
  decide +kernel

theorem witness_PwmPeriodStart :
    let staged (duty : Nat) := base.modCell 0 fun k => { k with staged := some { duty := duty, target := 9 } }
    base.awake = true ∧ base.cells[(0 : Fin 4)].pwm.due 10000 = true ∧ base.cells[(0 : Fin 4)].staged = none ∧
      got (exec (.cellPwmPeriodStart 10000 0) (staged 7)) (fun t =>
        t.cells[0].appliedDuty = 7 && t.cells[0].appliedSince = 10000 && t.cells[0].staged = none) = true ∧
      got (exec (.cellPwmPeriodStart 10000 0) (staged 0)) (fun t =>
        t.cells[0].appliedTarget = 9 && t.cells[0].appliedSince = 0) = true := by
  decide +kernel

/-- What a rate update does to a loop of 2,000 mL/m, rated 60,000 mL/min, trickle 3,000: its state, target, staged
fraction and stop timer. -/
def filmAt (timeout : Nat) (state : WashState) (moves : Bool) (update : State → State) :
    WashState × Option Nat × Option Nat × Option Timer :=
  let s := ((base.modKept fun k => { k with
    lines := modAt k.lines 0 fun k =>
      { k with
        enabled := true, washRatio := 2000, ratedFlow := 60000, trickle := 3000, stopTimeout := timeout } }).modLoop 0
          fun k => { k with state := state }).modLine 0 fun _ => { filmRate := 5, filmMoving := moves }
  let k := (update s).loops[(0 : Fin 4)]
  (k.state, k.target, k.staged, k.stop)

/-- A cycle unwatched, and watched at half its commanded volume of 500 mL and a mL short of it, for the second and for the
third time; and the stop timeout. -/
theorem witness_WashCycle :
    let watched (volume count : Nat) : State :=
      (base.modKept fun k => { k with
        lines := modAt k.lines 0 fun k => { k with enabled := true, ratedFlow := 6000 } }).modLoop 0 fun k =>
          { k with state := .running, applied := 500, watched := true, cycleVolume := volume, lowFlow := count }
    base.loops[(0 : Fin 4)].cycle.due (10 * sec) = true ∧ base.loops[(0 : Fin 4)].watched = false ∧
      got (exec (.washCycleStart (10 * sec) 0) (watched 250 2)) (fun t => t.loops[0].lowFlow = 0) = true ∧
      got (exec (.washCycleStart (10 * sec) 0) (watched 249 1)) (fun t =>
        t.loops[0].lowFlow = 2 && !t.latched (.washLow 0)) = true ∧
      got (exec (.washCycleStart (10 * sec) 0) (watched 249 2)) (fun t =>
        t.loops[0].lowFlow = 3 && t.latched (.washLow 0) && t.loops[0].watched) = true ∧
      timerDue trickling.loops[(0 : Fin 4)].stop (100 * sec) = true ∧
      got (exec (.washStopTimeout (100 * sec) 0) trickling) (fun t => t.loops[0].state = .idle) = true ∧
      (ownerRate (.wash 0) 700 true base).loops[(0 : Fin 4)].measuredFlow = 700 ∧
      got (exec (.channelStale (9 * sec) 3) ((moving 3 (.wash 0) (ownerRate (.wash 0) 700 true base)).modChannel 3 fun ch =>
        { ch with stale := some { start := 0, len := 9 * sec } })) (fun t =>
          t.loops[0].measuredFlow = 0 && !t.channels[3].moving) = true := by
  decide +kernel

/-- Film started from idle and in the trickle, stopped with and without a stop timeout, and at a loop that is off. -/
theorem witness_WashCycle_film :
    (filmAt 0 .idle false (ownerRate (.footage 0) 20000 true)) = (.running, some 40000, some 666, none) ∧
    (filmAt 9 .running true (ownerRate (.footage 0) 0 false))
      = (.trickle, some 3000, some 50, some { start := 0, len := 9 * sec }) ∧
    (filmAt 0 .running true (ownerRate (.footage 0) 0 false)) = (.idle, none, none, none) ∧
    (filmAt 9 .running true (ownerRate (.footage 0) 10000 true)) = (.running, some 20000, some 333, none) ∧
    (filmAt 9 .off false (ownerRate (.footage 0) 10000 true)).1 = .off ∧
    (filmAt 9 .off false (ownerRate (.footage 0) 0 false)).1 = .off := by
  decide +kernel

/-- The other polarity; 24 µs and 25 µs after the last accepted edge; a block opened, continued and closed. -/
theorem witness_PulseAccepted :
    let open' (count : Nat) := base.modChannel 0 fun ch =>
      { ch with moving := true, lastEdge := some 0, block := some { t0 := 0, count := count, last := 0 } }
    base.awake = true ∧
      got (exec (.pulseEdge 24 0 false) (open' 3)) (fun t => t.channels[0].count = 0) = true ∧
      got (exec (.pulseEdge 24 0 true) (open' 3)) (fun t =>
        t.channels[0].rejected = 1 && t.channels[0].count = 0 && t.channels[0].lastEdge = some 0) = true ∧
      got (exec (.pulseEdge 25 0 true) (open' 3)) (fun t =>
        t.channels[0].count = 1 && t.channels[0].block = some { t0 := 0, count := 4, last := 25 }) = true ∧
      got (exec (.pulseEdge 25 0 true) (open' 15)) (fun t =>
        t.channels[0].pulseRate = 16 * 60000000 / 25
          && t.channels[0].block = some { t0 := 25, count := 0, last := 25 }) = true ∧
      got (exec (.pulseEdge 25 0 true) base) (fun t =>
        t.channels[0].moving && t.channels[0].block = some { t0 := 25, count := 0, last := 25 }) = true := by
  decide +kernel

/-- A block of one pulse at 60 s, and a stale time of 5 s. -/
theorem witness_RateEnds :
    let s := base.modChannel 0 fun ch =>
      { ch with
        moving := true, rate := 9, block := some { t0 := 0, count := 1, last := 30 * sec }
        stale := some { start := 0, len := 5 * sec } }
    got (exec (.blockTimeLimit (60 * sec) 0) s) (fun t =>
        t.channels[0].pulseRate = 2 && t.channels[0].block = some { t0 := 30 * sec, count := 0, last := 30 * sec }) = true ∧
      got (exec (.blockTimeLimit (60 * sec - 1) 0) s) (fun t => t.channels[0].rate = 9) = true ∧
      got (exec (.channelStale (5 * sec) 0) s) (fun t => !t.channels[0].moving && t.channels[0].rate = 0) = true := by
  decide +kernel

theorem moving_midBlock (role : Role) (s : State) (h : s = base ∨ s = discharging ∨ s = footageBlock)
    (hr : (moving 3 role s).kept.channels[(3 : Fin 16)].blockSize = 16) :
    MidBlock 3 ((moving 3 role s).after 1000) := by
  refine ⟨?_, ?_, ?_, { t0 := 0, count := 3, last := 0 }, ?_, ?_⟩
  · rcases h with rfl | rfl | rfl <;> rfl
  · simp [moving, State.modChannel, modAt, State.after]
  · intro e he
    simp only [moving, State.modChannel, modAt, State.after, Fin.getElem_fin, Vector.getElem_set_self,
      Option.some.injEq] at he
    have hn : ((moving 3 role s).after 1000).now = 1000 := by rcases h with rfl | rfl | rfl <;> rfl
    rw [hn, ← he]
    decide
  · simp [moving, State.modChannel, modAt, State.after]
  · show 3 + 1 < (moving 3 role s).kept.channels[(3 : Fin 16)].blockSize
    omega

/-- Footage of an enabled line with a film type and of a disabled one; plating; wash; and transfer into a FILLING lot, a mL
below its capacity and at it, and with no tank FILLING. -/
theorem witness_PulsesBooked :
    MidBlock 3 ((moving 3 (.footage 0) footageBlock).after 1000) ∧ MidBlock 3 ((moving 3 .transfer base).after 1000) ∧
      got (exec (.pulseEdge 1000 3 true) (moving 3 (.footage 0) footageBlock)) (fun t =>
        t.kept.accounts.filmIn[0] = { mg := 9812441, residue := 240 }) = true ∧
      got (exec (.pulseEdge 1000 3 true) (moving 3 (.footage 1) footageBlock)) (fun t =>
        t.kept.accounts.filmIn[1] = { mg := 0, residue := 0 }) = true ∧
      got (exec (.pulseEdge 1000 3 true) (moving 3 (.wash 2) base)) (fun t =>
        t.loops[2].washVolume = 10 && t.kept.day.wash = 10) = true ∧
      got (exec (.pulseEdge 1000 3 true) (moving 3 .transfer base)) (fun t => t.sump.strayTransfer = 10) = true ∧
      (let fill (current : Nat) : State := moving 3 .transfer
        (inTank 1 .filling { lotOf 5 .filling with filled := current, current := current, concentration := none } base)
       got (exec (.pulseEdge 1000 3 true) { fill 9999989 with sump := { base.sump with pump := true } }) (fun t =>
          (t.lotIn 1).any (fun l => l.current = 9999999 && l.state = .filling)) = true ∧
        got (exec (.pulseEdge 1000 3 true) { fill 9999990 with sump := { base.sump with pump := true } }) (fun t =>
          (t.lotIn 1).any (fun l => l.current = 10000000 && l.state = .settling) && t.kept.tanks[1].state = .closed
            && t.kept.tanks[0].state = .filling) = true) :=
  ⟨moving_midBlock _ _ (Or.inr (Or.inr rfl)) (by decide +kernel), moving_midBlock _ _ (Or.inl rfl) (by decide +kernel),
    by decide +kernel⟩

/-- A grant a mL above what the pulse meters, met exactly, and a lot with less left than the pulse; a polish likewise. -/
theorem witness_OutletPulses :
    let s := moving 3 .outlet discharging
    let polish (target : Nat) : State := s.modPath fun p =>
      { p with state := .polish, use := some .polish, passTarget := some target, polishVolume := 90 }
    MidBlock 3 (s.after 1000) ∧ s.path.tank = some 0 ∧ (s.lotIn 0).isSome = true ∧
      got (exec (.pulseEdge 1000 3 true) (s.modPath fun p => { p with grant := some (.volume 491) })) (fun t =>
        t.path.state = .discharge && t.path.metered = 490) = true ∧
      got (exec (.pulseEdge 1000 3 true) (s.modPath fun p => { p with grant := some (.volume 490) })) (fun t =>
        t.path.state = .stopping && t.path.stopCause = some .grantMet && t.kept.dischargeQueue = [210]) = true ∧
      got (exec (.pulseEdge 1000 3 true) ((s.modPath fun p => { p with grant := some .unbounded }).modLot 0 fun l =>
        { l with current := 4 })) (fun t => (t.lotIn 0).any fun l => l.current = 0 && l.excess = 6) = true ∧
      got (exec (.pulseEdge 1000 3 true) (polish 101)) (fun t =>
        t.path.state = .polish && t.path.polishVolume = 100) = true ∧
      got (exec (.pulseEdge 1000 3 true) (polish 100)) (fun t =>
        t.path.state = .stopping && t.path.stopCause = some .passComplete
          && (t.lotIn 0).any (fun l => l.passes = 1 && l.state = .settling)) = true :=
  ⟨moving_midBlock _ _ (Or.inr (Or.inl rfl)) (by decide +kernel), by decide +kernel⟩

/-- Overrun of a live lot, of one in Lot History, and after a polish; stray flow with a usable permit and without one. -/
theorem witness_OverrunAndStray :
    let stopping := (moving 3 .outlet discharging).modPath fun p => { p with state := .stopping }
    let idle := (moving 3 .outlet discharging).modPath fun p => { p with state := .idle }
    let record := (lotOf 210 .discharging).record 0 .discharged { day := 411, second := none } 0 false
    let gone : State := (stopping.modTank 0 fun _ => { state := .empty, lot := none }).modKept fun k =>
      { k with
        history := [record] }
    let lost : State := (gone.modKept fun k => { k with history := [] }).modPath (·.keep [record])
    MidBlock 3 ((moving 3 .outlet base).after 1000) ∧
      got (exec (.pulseEdge 1000 3 true) stopping) (fun t =>
        t.path.overrun = 10 && t.kept.day.total = { mg := 31200, residue := 118000 }) = true ∧
      gone.tankOfLot 210 = none ∧ (gone.recordOf 210).isSome = true ∧
      got (exec (.pulseEdge 1000 3 true) gone) (fun t =>
        t.path.overrun = 10 && t.kept.day.total = { mg := 31200, residue := 118000 }
          && t.path.metered = 490 && t.kept.day.volume = 10
          && t.kept.history.map (fun r => (r.dischargedVolume, r.dischargedMass)) = [(10, { mg := 0, residue := 18000 })])
        = true ∧
      lost.tankOfLot 210 = none ∧ lost.recordOf 210 = none ∧ lost.path.dropped = some record ∧
      got (exec (.pulseEdge 1000 3 true) lost) (fun t =>
        t.path.overrun = 10 && t.kept.day.total = { mg := 31200, residue := 118000 } && t.path.metered = 490
          && t.kept.history = [] && t.path.dropped.map (·.dischargedMass) = some { mg := 0, residue := 18000 }) = true ∧
      (leaveTable 1 .discharged 0 false (inTank 1 .draining (lotOf 211 .held)
        (gone.modKept fun k => { k with history := List.replicate 16 record }))).path.dropped = some record ∧
      got (exec (.pulseEdge 1000 3 true) (stopping.modPath fun p => { p with use := some .polish })) (fun t =>
        t.path.overrun = 10 && t.path.polishVolume = 10 && t.kept.day.volume = 0) = true ∧
      got (exec (.pulseEdge 1000 3 true) idle) (fun t =>
        t.path.stray = 10 && t.kept.day.total = { mg := 31200, residue := 120000 } && t.latched .outletLeak) = true ∧
      got (exec (.pulseEdge 1000 3 true) (moving 3 .outlet base)) (fun t =>
        t.path.stray = 10 && t.kept.day.total = NanoAccount.zero && t.kept.day.volume = 10) = true :=
  ⟨moving_midBlock _ _ (Or.inl rfl) (by decide +kernel), by decide +kernel⟩

/-! #### Analyzers and switches -/

def period (fall : Nat) (state : AnalyzerState) : State :=
  base.modAnalyzer 1 fun k =>
    { k with
      state := state, period := some { rise := 0, fall := some fall }
      published := if state = .valid then some 7 else none, held := if state = .valid then some 7 else none
      record := [.low] }

/-- Input A2 has a hold time of 0. -/
def holdsNothing (s : State) : State :=
  s.modKept fun k => { k with analyzers := modAt k.analyzers 1 fun k => { k with hold := 0 } }

/-- Periods of 4,999, 5,000, 2,000,000 and 2,000,001 µs, and duties at every edge of the bands, on a span of
20,000,000. -/
theorem witness_AnalyzerPeriods :
    let reads (dt fall : Nat) (p : State → Bool) : Bool := got (exec (.analyzerRisingEdge dt 1) (period fall .valid)) p
    let last (t : State) : Option PeriodResult := t.analyzers[1].record.getLast?
    base.awake = true ∧
      got (exec (.analyzerRisingEdge 9 1) base) (fun t =>
        t.analyzers[1].period = some { rise := 9, fall := none } && t.analyzers[1].record = []) = true ∧
      got (exec (.analyzerFallingEdge 9 1) (period 5 .valid)) (fun t =>
        t.analyzers[1].period = some { rise := 0, fall := some 5 }) = true ∧
      reads 4999 2000 (fun t => t.analyzers[1].record = [.low]) = true ∧
      reads 5000 2500 (fun t => last t = some (.reading 10000000)) = true ∧
      reads 2000000 1000000 (fun t => last t = some (.reading 10000000)) = true ∧
      reads 2000001 1000000 (fun t => t.analyzers[1].record = [.low]) = true ∧
      reads 10000 300 (fun t => last t = some (.reading 0) && t.analyzers[1].published = some 0) = true ∧
      reads 10000 399 (fun t => last t = some (.reading 0)) = true ∧
      reads 10000 400 (fun t => last t = some (.reading 0)) = true ∧
      reads 10000 9600 (fun t => last t = some (.reading 20000000)) = true ∧
      reads 10000 9700 (fun t => last t = some (.reading 20000000)) = true ∧
      reads 10000 9701 (fun t => last t = some .high && t.analyzers[1].published = some 7) = true ∧
      reads 10000 299 (fun t =>
        t.analyzers[1].state = .faultLow && t.analyzers[1].published = none && t.analyzers[1].held = some 7
          && t.analyzers[1].hold = some { start := 10000, len := 120 * sec } && t.latched (.analyzerFault 1)) = true ∧
      got (exec (.analyzerRisingEdge 10000 1) (period 299 .lost)) (fun t =>
        t.analyzers[1].state = .faultLow && t.latched (.analyzerFault 1)) = true ∧
      got (exec (.analyzerRisingEdge 10000 1) (period 400 .lost)) (fun t =>
        t.analyzers[1].state = .valid && t.cells[1].view = { state := .valid, heldPresent := true }) = true ∧
      got (exec (.analyzerRisingEdge 10000 1) (holdsNothing ((period 299 .valid).modCell 1 fun k =>
        { k with state := .holding, view := { state := .valid, heldPresent := true } }))) (fun t =>
          t.cells[1].state = .standby && t.cells[1].view = { state := .faultLow, heldPresent := false }
            && t.analyzers[1].held = none && t.analyzers[1].hold = none) = true := by
  decide +kernel

/-- Silence of 3 s in WAITING and in VALID; the hold's end with a HOLDING cell, an OFF one and none. -/
theorem witness_AnalyzerTimers :
    let onL2 (state : CellState) : State := holding.modCell 0 fun k =>
      { k with state := state, view := { state := .faultLow, heldPresent := true } }
    let valid := (period 0 .valid).modCell 1 fun k => { k with state := .regulating }
    timerDue base.analyzers[(0 : Fin 5)].silence (3 * sec) = true ∧
      timerDue base.analyzers[(0 : Fin 5)].silence (3 * sec - 1) = false ∧
      got (exec (.analyzerSilence (3 * sec) 0) base) (fun t =>
        t.analyzers[0].state = .lost && t.latched (.analyzerFault 0)) = true ∧
      got (exec (.analyzerSilence (3 * sec) 1) valid) (fun t =>
        t.analyzers[1].state = .lost && t.analyzers[1].record = [] && t.cells[1].state = .holding) = true ∧
      got (exec (.analyzerSilence (3 * sec) 1) (holdsNothing valid)) (fun t =>
        t.analyzers[1].held = none && t.cells[1].state = .standby) = true ∧
      holding.cellInput 0 = some 0 ∧ (∀ d : Fin 4, holding.cellInput d = some 0 → d = 0) ∧
      got (exec (.analyzerHoldExpired (120 * sec) 0) (onL2 .holding)) (fun t =>
        t.analyzers[0].held = none && t.cells[0].state = .standby
          && t.cells[0].staged = some { duty := 0, target := 0 }) = true ∧
      got (exec (.analyzerHoldExpired (120 * sec) 0) (onL2 .off)) (fun t =>
        t.cells[0].state = .off && !t.cells[0].view.heldPresent) = true ∧
      (∀ c : Fin 4, (holding.modKept fun k => { k with
        cells := modAt k.cells 0 fun k => { k with line := none } }).cellInput c ≠ some 0) ∧
      (handLeftValid 0 (cellIn .regulating holding)).cells[(0 : Fin 4)].state = .holding ∧
      (handLeftValid 0 (cellIn .regulating base)).cells[(0 : Fin 4)].state = .standby ∧
      (handLeftValid 0 (cellIn .priming base)).cells[(0 : Fin 4)].state = .priming ∧
      (handHoldExpired 0 (cellIn .holding base)).cells[(0 : Fin 4)].state = .standby ∧
      (handHoldExpired 0 (cellIn .off base)).cells[(0 : Fin 4)].state = .off := by
  decide +kernel

/-- T1 fills over a covered SUMP_LOW, in a backup that restricts loop L3; both sump switches are about to be accepted, with
SUMP_LOW at a level. -/
def pumping (pump call low : Bool) : State :=
  { (((inTank 0 .filling (lotOf 9 .filling) base).modSwitch 6 fun _ =>
      { pin := low, accepted := some true, debounce := some { start := 0, len := 100000 } }).modSwitch 7 fun _ =>
        { pin := true, accepted := some pump, debounce := some { start := 0, len := 100000 } }).modLoop 2 fun k =>
          { k with state := .running, backup := true } with
    sump := { Sump.atStart with
      pump := pump, callMark := call, levelsTaken := true, backup := !pump
      backupTimer := if pump then none else some { start := 0, len := 30 * sec } } }

/-- Pins that stay, move away, return, and move before the starting levels; the debounce at its length; and the sump. -/
theorem witness_SwitchesDebounced :
    let at' (pin : Bool) (debounce : Option Timer) : State :=
      { base.modSwitch 7 (fun _ => { pin := pin, accepted := some false, debounce := debounce }) with
        kept := { base.kept with tanks := Vector.replicate 3 { state := .outOfService, lot := none } } }
    let due (pin : Bool) := at' pin (some { start := 0, len := 100000 })
    base.awake = true ∧ (due true).fillingTank = none ∧ (due true).sump.pump = false ∧
      got (exec (.switchPinChange 5 .sumpHigh true) base) (fun t =>
        t.switches[7] = { pin := true, accepted := none, debounce := none }) = true ∧
      got (exec (.switchPinChange 5 .sumpHigh true) (at' false none)) (fun t =>
        t.switches[7].debounce = some { start := 5, len := 100000 }) = true ∧
      got (exec (.switchPinChange 5 .sumpHigh false) (due true)) (fun t =>
        t.switches[7] = { pin := false, accepted := some false, debounce := none }) = true ∧
      got (exec (.debounceExpired 99999 .sumpHigh) (due true)) (fun t => t.switches[7].accepted = some false) = true ∧
      got (exec (.debounceExpired 100000 .sumpHigh) (due true)) (fun t =>
        t.switches[7].accepted = some true && t.sump.callMark
          && t.sump.backupTimer = some { start := 100000, len := 30 * sec }
          && got (exec (.sumpBackupDelay (30 * sec)) (t.modLoop 2 fun k => { k with state := .running })) (fun u =>
            u.sump.backup && u.latched .sumpBackup && u.loops[2].target = some 0)) = true ∧
      got (exec (.debounceExpired 100000 .sumpHigh) (due false)) (fun t => t.sump.backupTimer = none) = true ∧
      (pumping false false true).fillingTank = some 0 ∧ (pumping false false true).covered .sumpLow = true ∧
      got (exec (.debounceExpired 100000 .sumpHigh) (pumping false false true)) (fun t =>
        t.sump = { Sump.atStart with pump := true, callMark := true, levelsTaken := true }
          && t.loops[2].target = some 0 && !t.loops[2].backup) = true ∧
      got (exec (.debounceExpired 100000 .sumpLow) (pumping false true true)) (fun t =>
        t.sump.pump && t.sump.backupTimer = none) = true ∧
      got (exec (.debounceExpired 100000 .sumpLow) (pumping true false false)) (fun t =>
        !t.sump.pump && t.sump.callMark && t.sump.backupTimer = some { start := 100000, len := 30 * sec }) = true := by
  decide +kernel

/-- T1's HIGH is accepted covered over an uncovered LOW. -/
def disagreeing (state : LotState) : State :=
  (inTank 0 (if state = .filling then .filling else .closed) (lotOf 9 state) (base.modKept fun k =>
    { k with dischargeQueue := if state = .queued then [9] else [] })).modSwitch 1 fun _ =>
      { pin := true, accepted := some false, debounce := some { start := 0, len := 100000 } }

/-- T1's LOW is about to be accepted uncovered. -/
def emptying (tank : TankState) (lot : LotState) : State :=
  (inTank 0 tank (lotOf 9 lot) (base.modKept fun k =>
    { k with dischargeQueue := if lot = .queued then [9] else [] })).modSwitch 0 fun _ =>
      { pin := false, accepted := some true, debounce := some { start := 0, len := 100000 } }

/-- The same while the path drains T1, and T2 fills. -/
def drying (use : PathState) : State :=
  (inTank 1 .filling (lotOf 10 .filling) (emptying .draining .discharging)).modPath fun p =>
    { p with state := use, lot := some 9, tank := some 0 }

/-- T1's LOW is about to be accepted uncovered under a covered HIGH. -/
def underHigh (s : State) : State :=
  s.modSwitch 1 fun _ => { pin := true, accepted := some true, debounce := none }

/-- A fault of T1's switches found by LOW's change: a held lot, a sampled one, and a lot that each use of the path drains. -/
theorem witness_SwitchFault_low :
    let faulted (t : State) : Bool :=
      t.kept.tanks[0].state = .outOfService && t.latched (.tankSwitchFault 0) && t.latched .lotHeld
        && (t.lotIn 0).any (fun l => l.state = .held && l.holdReason = some .switchFault && l.current = 1000000)
    let sampled := underHigh { emptying .closed .sampling with sampler := { Sampler.atStart with
      state := .flushing, lot := some 9, flush := some { start := 0, len := sec } } }
    (underHigh (emptying .closed .held)).covered (.tankHigh 0) = true ∧
      got (exec (.debounceExpired 100000 (.tankLow 0)) (underHigh (emptying .closed .held))) faulted = true ∧
      got (exec (.debounceExpired 100000 (.tankLow 0)) sampled) (fun t => faulted t && t.sampler.state = .idle) = true ∧
      got (exec (.debounceExpired 100000 (.tankLow 0)) (underHigh (drying .discharge))) (fun t =>
        faulted t && t.path.state = .stopping && t.path.stopCause = some .switchFault && t.kept.history = []
          && t.path.closing.isSome && t.store.inFlight.isSome) = true ∧
      got (exec (.debounceExpired 100000 (.tankLow 0)) (underHigh (drying .polish))) (fun t =>
        faulted t && t.path.state = .stopping && t.path.stopCause = some .switchFault
          && t.store.inFlight.isNone) = true := by
  decide +kernel

theorem witness_SwitchFault :
    [LotState.filling, .settling, .sampleWait, .queued, .polishWait].all (fun state =>
      got (exec (.debounceExpired 100000 (.tankHigh 0)) (disagreeing state)) fun t =>
        t.kept.tanks[0].state = .outOfService && t.latched (.tankSwitchFault 0) && t.latched .lotHeld
          && (t.lotIn 0).any (fun l => l.state = .held && l.holdReason = some .switchFault)
          && t.kept.dischargeQueue = []) = true ∧
      (disagreeing .queued).covered (.tankLow 0) = false ∧
      (disagreeing .queued).kept.tanks[(0 : Fin 3)].state ≠ .outOfService ∧
      (emptying .closed .queued).covered (.tankHigh 0) = false ∧
      [LotState.settling, .sampleWait, .queued, .polishWait, .sampling].all (fun state =>
        got (exec (.debounceExpired 100000 (.tankLow 0)) (emptying .closed state)) fun t =>
          t.kept.tanks[0].state = .closed && t.latched .lotHeld && t.kept.dischargeQueue = []
            && (t.lotIn 0).any (fun l => l.state = .held && l.holdReason = some .levelLost)) = true ∧
      [TankState.empty, .filling, .outOfService, .closed].all (fun tank =>
        got (exec (.debounceExpired 100000 (.tankLow 0)) (emptying tank .held)) fun t =>
          t.kept.tanks[0].state = tank && (t.lotIn 0).any (·.holdReason = none) && !t.latched .lotHeld) = true ∧
      got (exec (.debounceExpired 100000 (.tankLow 0)) (drying .discharge)) (fun t =>
        t.path.state = .stopping && t.path.stopCause = some .drained && t.kept.tanks[0] = { state := .empty, lot := none }
          && t.kept.history.map (fun r => (r.number, r.shortfall)) = [(9, 1000000)] && t.kept.day.lots = 1
          && t.store.inFlight.isSome) = true ∧
      got (exec (.debounceExpired 100000 (.tankLow 0)) (drying .polish)) (fun t =>
        t.path.stopCause = some .levelLost && t.kept.tanks[0].state = .closed
          && (t.lotIn 0).any (fun l => l.state = .held && l.holdReason = some .levelLost)) = true := by
  decide +kernel

/-! #### Lots -/

def filling (filled settle : Nat) : State :=
  (inTank 0 .filling { lotOf 9 .filling with
    filled := filled, settings := { TankSettings.default with settle := settle } } base).modTimers 0 fun k =>
      { k with maxFill := some { start := 0, len := 3600 * sec } }

/-- The same with T1's LOW covered and its HIGH about to be accepted covered; the capacity is 10,000,000 mL. -/
def brimming (filled : Nat) : State :=
  ((filling filled 1800).modSwitch 0 fun _ => { pin := true, accepted := some true, debounce := none }).modSwitch 1
    fun _ => { pin := true, accepted := some false, debounce := some { start := 0, len := 100000 } }

theorem witness_LotClosed :
    LinkReady 1 base ∧ LinkReady 1 (filling 1 1800) ∧ base.supply.hold = false ∧ base.sump.levelsTaken = true ∧
      (filling 1 1800).fillingTank = some 0 ∧ base.fillingTank = none ∧
      got (exec (.closeLot 0 1) base) (fun t => lastStatus t = some .wrongState) = true ∧
      got (exec (.closeLot 0 1) (filling 0 1800)) (fun t => lastStatus t = some .wrongState) = true ∧
      got (exec (.closeLot 0 1) { filling 1 1800 with sump := Sump.atStart }) (fun t =>
        lastStatus t = some .wrongState) = true ∧
      got (exec (.closeLot 0 1) ((filling 1 1800).modKept fun k => { k with noticeMask := Vector.replicate 33 false }))
        (fun t => t.kept.tanks[0].state = .closed && (t.lotIn 0).any (fun l => l.state = .settling)
          && lastBody t = some (.lotClosed 9 0) && t.kept.tanks[1].state = .filling) = true ∧
      got (exec (.maxFillTimeout (3600 * sec) 0) (filling 1 0)) (fun t =>
        (t.lotIn 0).any (fun l => l.state = .sampling) && t.timers[0].maxFill = none) = true ∧
      (brimming 4999999).covered (.tankLow 0) = true ∧
      got (exec (.debounceExpired 100000 (.tankHigh 0)) (brimming 4999999)) (fun t =>
        t.kept.tanks[0].state = .closed && (t.lotIn 0).any (fun l => l.state = .settling && l.volumeSuspect)) = true ∧
      got (exec (.debounceExpired 100000 (.tankHigh 0)) (brimming 5000000)) (fun t =>
        (t.lotIn 0).any fun l => l.state = .settling && !l.volumeSuspect) = true :=
  ⟨base_ready, ready _ (by decide +kernel), by decide +kernel⟩

/-- A lot 9 in T1, no notice enabled. -/
def quietLot (state : LotState) (tank : TankState) : State :=
  inTank 0 tank (lotOf 9 state) (base.modKept fun k =>
    { k with noticeMask := Vector.replicate 33 false, dischargeQueue := if state = .queued then [9] else [] })

theorem witness_LotHeld :
    let s := quietLot .queued .closed
    let draining := discharging.modKept fun k => { k with noticeMask := Vector.replicate 33 false }
    LinkReady 1 s ∧ LinkReady 1 draining ∧ s.sump.levelsTaken = true ∧ s.tankOfLot 9 = some 0 ∧ s.tankOfLot 8 = none ∧
      draining.path.draining = true ∧
      got (exec (.holdLot 0 1 9) s) (fun t => t.kept.dischargeQueue = [] && t.latched .lotHeld
        && (t.lotIn 0).any (fun l => l.state = .held && l.holdReason = some .byRequest)
        && lastBody t = some (.lotHeld .queued)) = true ∧
      got (exec (.holdLot 0 1 8) s) (fun t => lastStatus t = some .wrongState) = true ∧
      got (exec (.holdLot 0 1 9) (quietLot .held .closed)) (fun t => lastStatus t = some .wrongState) = true ∧
      got (exec (.holdLot 0 1 9) (quietLot .filling .filling)) (fun t => lastStatus t = some .wrongState) = true ∧
      got (exec (.holdLot 0 1 9) (quietLot .settling .closed)) (fun t => lastBody t = some (.lotHeld .settling)) = true ∧
      got (exec (.holdLot 0 1 9) { quietLot .sampling .closed with
        sampler := { Sampler.atStart with state := .window, lot := some 9 } }) (fun t =>
          t.sampler.state = .idle && lastBody t = some (.lotHeld .sampling)) = true ∧
      got (exec (.holdLot 0 1 210) draining) (fun t =>
        t.path.state = .stopping && t.path.stopCause = some .byRequest
          && (t.lotIn 0).any (fun l => l.state = .held)) = true :=
  ⟨ready _ (by decide +kernel), ready _ (by decide +kernel), by decide +kernel⟩

theorem witness_LotReturned :
    let s := quietLot .held .closed
    let busy (s : State) : State := { s with sampler := { s.sampler with state := .window, lot := some 4 } }
    let stopping (s : State) : State := s.modPath fun p => { p with state := .stopping }
    LinkReady 1 s ∧ s.supply.hold = false ∧ s.tankOfLot 9 = some 0 ∧
      got (exec (.returnLot 0 1 9) s) (fun t =>
        t.sampler.state = .flushing && t.sampler.lot = some 9 && (t.lotIn 0).any (fun l => l.state = .sampling)) = true ∧
      got (exec (.returnLot 0 1 9) (busy s)) (fun t => t.kept.sampleWait = [9]) = true ∧
      got (exec (.returnLot 0 1 9) (quietLot .queued .closed)) (fun t => lastStatus t = some .wrongState) = true ∧
      got (exec (.returnLot 0 1 9) (quietLot .held .outOfService)) (fun t => lastStatus t = some .wrongState) = true ∧
      got (exec (.polishLot 0 1 9) (stopping (quietLot .queued .closed))) (fun t =>
        t.kept.polishWait = [9] && t.kept.dischargeQueue = []
          && (t.lotIn 0).any (fun l => l.hostPass && l.state = .polishWait)) = true ∧
      got (exec (.polishLot 0 1 9) (quietLot .settling .closed)) (fun t => lastStatus t = some .wrongState) = true :=
  ⟨ready _ (by decide +kernel), by decide +kernel⟩

/-- A haul out of a tank in service and out of one out of service; a tank returned with and without a lot, while another
fills and while none does. -/
theorem witness_TanksEmptied :
    let s := quietLot .held .closed
    let out (lot : Option Lot) : State :=
      { s with kept := { s.kept with tanks := Vector.replicate 3 { state := .outOfService, lot := lot } } }
    LinkReady 1 s ∧ s.tankOfLot 9 = some 0 ∧ s.covered (.tankLow 0) = false ∧
      got (exec (.declareHauled 0 1 9) (inTank 1 .filling (lotOf 10 .filling) s)) (fun t =>
        t.kept.accounts.hauled = { mg := 1800, residue := 0 } && t.kept.tanks[0] = { state := .empty, lot := none }
          && t.kept.history.map (·.hauledMass) = [1800] && lastBody t = some (.hauled 1800)) = true ∧
      got (exec (.declareHauled 0 1 9) (quietLot .held .outOfService)) (fun t =>
        t.kept.tanks[0] = { state := .outOfService, lot := none }) = true ∧
      got (exec (.declareHauled 0 1 9) (quietLot .queued .closed)) (fun t => lastStatus t = some .wrongState) = true ∧
      LinkReady 1 (out none) ∧ (out none).fillingTank = none ∧
      got (exec (.returnTank 0 1 1) (out (some (lotOf 9 .held)))) (fun t => t.kept.tanks[0].state = .closed) = true ∧
      got (exec (.returnTank 0 1 1) (inTank 1 .filling (lotOf 10 .filling) (out none))) (fun t =>
        t.kept.tanks[0].state = .empty) = true ∧
      got (exec (.returnTank 0 1 1) (out none)) (fun t =>
        t.kept.tanks[0].state = .filling && (t.lotIn 0).any (fun l => l.number = 1) && t.kept.nextLot = 2) = true ∧
      got (exec (.returnTank 0 1 1) s) (fun t => lastStatus t = some .wrongState) = true :=
  ⟨ready _ (by decide +kernel), by decide +kernel, by decide +kernel, by decide +kernel, by decide +kernel,
    by decide +kernel, ready _ (by decide +kernel), by decide +kernel⟩

/-- The Sampler with lot 9, flushing until 60 s or in a window until 30 s with `count` readings. -/
def sampling (state : SamplerState) (count attempts : Nat) (a5 : AnalyzerState) : State :=
  { inTank 0 .closed { lotOf 9 .sampling with attempts := attempts, concentration := none } base with
    analyzers := modAt base.analyzers 4 fun k => { k with state := a5 }
    sampler :=
      { state := state, lot := some 9, flush := some { start := 0, len := 60 * sec }
        window := some { start := 0, len := 30 * sec }, count := count, sum := 5400, hold := false } }

theorem witness_SamplerTimers :
    let settling := { inTank 0 .closed (lotOf 9 .settling) base with
      timers := modAt base.timers 0 fun k => { k with settle := some { start := 0, len := 1800 * sec } }
      sampler := { Sampler.atStart with hold := true } }
    got (exec (.settleTimerExpired (1800 * sec) 0) settling) (fun t =>
        t.kept.sampleWait = [9] && (t.lotIn 0).any (fun l => l.state = .sampleWait)) = true ∧
      (sampling .flushing 0 0 .valid).samplerTank = some 0 ∧
      got (exec (.sampleFlushEnd (60 * sec)) (sampling .flushing 0 0 .valid)) (fun t =>
        t.sampler.state = .window && t.sampler.window = some { start := 60 * sec, len := 30 * sec }) = true ∧
      got (exec (.sampleFlushEnd (60 * sec)) (sampling .flushing 0 2 .lost)) (fun t =>
        t.sampler.state = .idle && (t.lotIn 0).any (fun l => l.holdReason = some .sampleFailed)) = true ∧
      got (exec (.sampleWindowEnd (30 * sec)) (sampling .window 2 2 .valid)) (fun t =>
        t.latched .lotHeld && (t.lotIn 0).any (fun l => l.state = .held && l.attempts = 3)) = true ∧
      got (exec (.sampleWindowEnd (30 * sec)) (sampling .window 2 1 .valid)) (fun t =>
        (t.lotIn 0).any fun l => l.state = .sampling && l.attempts = 2) = true ∧
      got (exec (.sampleWindowEnd (30 * sec)) (sampling .window 2 3 .valid)) (fun t =>
        (t.lotIn 0).any fun l => l.state = .held && l.attempts = 3) = true ∧
      (handPublished 4 1000 (sampling .window 2 0 .valid)).sampler.sum = 6400 ∧
      handPublished 4 1000 (sampling .flushing 2 0 .valid) = sampling .flushing 2 0 .valid ∧
      handLeftValid 4 (sampling .flushing 2 0 .lost) = sampling .flushing 2 0 .lost ∧
      ((handLeftValid 4 (sampling .window 2 2 .lost)).lotIn 0).map (·.holdReason) = some (some .sampleFailed) ∧
      ((handLeftValid 4 (sampling .window 2 1 .lost)).lotIn 0).map (·.attempts) = some 2 := by
  decide +kernel

/-- The loads and marks of a train of capacities and marks after a polish of 5,200 µg/L to 1,800 µg/L on 1,000,000 mL, which
removes 3,400 mg. -/
def loadedBy (s : State) (train : List (Nat × Bool)) : List (Nat × Bool) :=
  let polished := (s.modLot 0 fun l => { l with removalPending := true, concentration := some 5200 }).modKept fun k =>
    { k with
      train := train.map fun c =>
        { serial := c.1, capacity := c.1, loaded := 0, installed := { day := 0, second := none }, exhausted := c.2 } }
  match exec (.sampleWindowEnd (30 * sec)) polished with
  | .next t => t.kept.train.map fun c => (c.loaded, c.exhausted)
  | _ => []

/-- A window of exactly 3 readings, with no permit, at the limit, above it with a pass left, and above it with none. -/
theorem witness_LotSampled :
    let s (limit passes : Nat) : State :=
      ((sampling .window 3 1 .valid).modLot 0 fun l => { l with passes := passes }).modPath (fun p =>
        { p with state := .stopping }) |>.modKept fun k =>
          { k with permit := { k.permit with active := some { permit with limit := limit } } }
    let noPermit := (s 1 0).modKept fun k => { k with permit := { k.permit with active := none } }
    (s 1800 0).samplerTank = some 0 ∧ (s 1800 0).path.state ≠ .idle ∧ (s 1800 0).kept.sampleWait = [] ∧
      noPermit.usablePermit = none ∧
      got (exec (.sampleWindowEnd (30 * sec)) noPermit) (fun t => t.kept.dischargeQueue = [9]) = true ∧
      got (exec (.sampleWindowEnd (30 * sec)) (s 1800 0)) (fun t =>
        t.kept.dischargeQueue = [9] && (t.lotIn 0).any (fun l => l.concentration = some 1800 && l.attempts = 0)) = true ∧
      got (exec (.sampleWindowEnd (30 * sec)) (s 1799 2)) (fun t => t.kept.polishWait = [9]) = true ∧
      got (exec (.sampleWindowEnd (30 * sec)) (s 1799 3)) (fun t =>
        (t.lotIn 0).any fun l => l.holdReason = some .polishExhausted) = true ∧
      got (exec (.sampleWindowEnd (30 * sec)) ((s 1 0).modLot 0 fun l =>
        { l with removalPending := true, concentration := some 5200 })) (fun t =>
          t.kept.accounts.cartridgeRemoved = 3400) = true ∧
      loadedBy (s 1 0) [(2000, true), (1000, false), (5000, false)] = [(0, true), (1000, true), (2400, false)] ∧
      loadedBy (s 1 0) [(2000, false), (1000, true)] = [(3400, true), (0, true)] ∧
      loadedBy (s 1 0) [(2000, true), (9000, true)] = [(0, true), (3400, true)] := by
  decide +kernel

/-! #### Cartridges, outlet, permit and clock -/

theorem witness_CartridgesChanged :
    let s := base.modKept fun k => { k with train := train }
    let busy := s.modPath fun p => { p with state := .polish }
    LinkReady 1 s ∧ LinkReady 1 busy ∧ s.kept.train.length < 3 ∧
      got (exec (.installCartridge 0 1 65535 2) busy) (fun t =>
        t.kept.train.map (·.serial) = [1041, 1042, 65535]
          && lastBody t = some (.cartridgeInstalled 3 false 1)) = true ∧
      got (exec (.installCartridge 0 1 1 1) (base.modKept fun k => { k with noticeMask := Vector.replicate 33 false }))
        (fun t => t.kept.train.map (·.exhausted) = [true] && t.latched .cartridgeExhausted) = true ∧
      got (exec (.installCartridge 0 1 1042 1) s) (fun t => lastStatus t = some .wrongState) = true ∧
      got (exec (.installCartridge 0 1 7 1) (base.modKept fun k => { k with train := train ++ train })) (fun t =>
        lastStatus t = some .wrongState) = true ∧
      got (exec (.removeCartridge 0 1 1041) s) (fun t => t.kept.train.map (·.serial) = [1042]) = true ∧
      got (exec (.removeCartridge 0 1 1041) busy) (fun t => lastStatus t = some .wrongState) = true ∧
      got (exec (.removeCartridge 0 1 1042) s) (fun t => lastStatus t = some .wrongState) = true ∧
      got (exec (.removeCartridge 0 1 1041) base) (fun t => lastStatus t = some .wrongState) = true :=
  ⟨ready _ (by decide +kernel), ready _ (by decide +kernel), by decide +kernel⟩

/-- A path in STOPPING, T1's LOW covered, and lot 9 of 1,800 µg/L at the head of the queue under the permit with 1 mg of
usable allowance more than `spent` leaves. -/
def stoppingWith (total current minimum : Nat) (enable : Bool) : State :=
  let p := { permit with minDischarge := minimum }
  { (inTank 0 .closed { lotOf 9 .queued with current := current } (base.modKept fun k => { k with
        dischargeQueue := [9]
        permit := { active := some p, digest := some (digestOf p), corrupt := false, next := none }
        day := { k.day with number := 411, established := true, total := { mg := total, residue := 0 }, unknown := false } })
      ).modSwitch 0 fun k => { k with pin := true, accepted := some true } with
    path := { base.path with state := .stopping, closing := some { start := 0, len := 5 * sec } }
    clock := { running := true, second := 82800, dayCount := 411 }
    permit := { check := none, enable := enable, windowOpen := true } }

/-- The same with lot 9 above a limit of 1,799 µg/L after some passes. -/
def aboveLimit (passes : Nat) (train : List Cartridge) : State :=
  let p := { permit with limit := 1799 }
  ((stoppingWith 0 1000000 0 true).modKept fun k =>
    { k with
      train := train
      permit := { k.permit with active := some p, digest := some (digestOf p) } }).modLot 0 fun l =>
        { l with passes := passes }

/-- The same with lot 9 in Polish Wait, and no lot queued. -/
def toPolish (current : Nat) (train : List Cartridge) : State :=
  ((stoppingWith 0 current 0 true).modKept fun k =>
    { k with train := train, dischargeQueue := [], polishWait := [9] }).modLot 0 fun l => { l with state := .polishWait }

/-- The same as `stoppingWith` with the stored digest wrong, and a permit pending or none. -/
def altered (next : Option Permit) : State :=
  (stoppingWith 49499 1000000 555 true).modKept fun k =>
    { k with permit := { k.permit with digest := k.permit.digest.map (~~~·), next := next } }

/-- T1's LOW uncovered. -/
def lowered (s : State) : State :=
  s.modSwitch 0 fun k => { k with pin := false, accepted := some false }

/-- No usable permit. -/
def unpermitted (s : State) : State :=
  s.modKept fun k => { k with permit := { k.permit with corrupt := true } }

/-- Allowances of 1 mg above the reserve and of none; a minimum met exactly, met by the whole lot, and not met; a
discharge not enabled; LOW uncovered at a take; and a permit found corrupt, alone and with one pending. -/
theorem witness_ReleaseJudged :
    let s := stoppingWith 49499 1000000 555 true
    let closes (s : State) (p : State → Bool) : Bool := got (exec (.closingTimerExpired (5 * sec)) s) p
    s.awake = true ∧ timerDue s.path.closing (5 * sec) = true ∧ s.path.hold = false ∧ s.path.started = true ∧
      s.tankOfLot 9 = some 0 ∧ s.covered (.tankLow 0) = true ∧ s.usablePermit.isSome = true ∧
      closes s (fun t => t.path.state = .discharge && t.path.grant = some (.volume 555)
        && t.kept.tanks[0].state = .draining && t.kept.dischargeQueue = []
        && (t.lotIn 0).any (fun l => l.state = .discharging)) = true ∧
      closes (stoppingWith 49499 555 1000000 true) (fun t => t.path.grant = some (.volume 555)) = true ∧
      closes (stoppingWith 49499 0 555 true) (fun t => t.path.grant = some (.volume 555)) = true ∧
      closes (stoppingWith 49499 1000000 556 true) (fun t =>
        t.path.state = .idle && t.kept.dischargeQueue = [9] && !t.latched .capReached) = true ∧
      closes (stoppingWith 49500 1000000 0 true) (fun t =>
        t.path.state = .idle && t.latched .capReached && t.kept.day.flags.capReached) = true ∧
      closes (stoppingWith 49500 1000000 0 false) (fun t =>
        t.path.state = .idle && !t.latched .capReached && t.kept.dischargeQueue = [9]) = true ∧
      closes (aboveLimit 2 []) (fun t =>
        t.kept.dischargeQueue = [] && t.kept.polishWait = [9] && (t.lotIn 0).any (·.state = .polishWait)) = true ∧
      closes (aboveLimit 2 train) (fun t => t.path.state = .polish && (t.lotIn 0).any (·.state = .polishing)) = true ∧
      closes (aboveLimit 3 train) (fun t => t.path.state = .idle && t.latched .lotHeld
        && (t.lotIn 0).any (fun l => l.state = .held && l.holdReason = some .polishExhausted)) = true ∧
      closes (toPolish 1000000 train) (fun t =>
        t.path.passTarget = some 2000000 && t.path.polishVolume = 0 && t.kept.polishWait = []
          && t.kept.tanks[0].state = .draining && (t.lotIn 0).any (·.removalPending)
          && t.outletOutputs.returnValve = some 0) = true ∧
      closes (toPolish 0 train) (fun t => t.path.passTarget = some 20000000) = true ∧
      closes (toPolish 1000000 []) (fun t => t.path.state = .idle && t.kept.polishWait = [9]) = true := by
  decide +kernel

theorem witness_ReleaseJudged_barred :
    let closes (s : State) (p : State → Bool) : Bool := got (exec (.closingTimerExpired (5 * sec)) s) p
    (lowered (stoppingWith 49499 1000000 555 true)).covered (.tankLow 0) = false ∧
      closes (lowered (stoppingWith 49499 1000000 555 true)) (fun t =>
        t.path.state = .stopping && t.path.stopCause = some .drained && t.path.lot = some 9
          && t.path.grant = some (.volume 555) && t.kept.dischargeQueue = []
          && t.kept.history.map (fun r => (r.number, r.shortfall)) = [(9, 1000000)]) = true ∧
      (unpermitted (stoppingWith 49499 1000000 555 true)).usablePermit = none ∧
      closes (unpermitted (stoppingWith 49499 1000000 555 true)) (fun t =>
        t.path.state = .idle && t.kept.dischargeQueue = [9] && !t.latched .capReached) = true ∧
      (altered none).kept.permit.digest.map (~~~·) = ((altered none).usablePermit.map digestOf) ∧
      closes (altered none) (fun t =>
        t.path.state = .idle && t.kept.permit.corrupt && t.latched .permitCorrupt && !t.permit.windowOpen
          && t.kept.dischargeQueue = [9]) = true ∧
      closes (altered (some { permit with limit := 1000 })) (fun t =>
        !t.kept.permit.corrupt && !t.latched .permitCorrupt && t.kept.permit.next = none
          && t.kept.permit.digest = some (digestOf { permit with limit := 1000 })) = true ∧
      closes (unpermitted ((toPolish 1000000 train).modKept fun k => { k with dischargeQueue := [3] })) (fun t =>
        t.path.state = .polish && t.kept.dischargeQueue = [3]) = true ∧
      closes (lowered (toPolish 1000000 train)) (fun t =>
        t.path.state = .stopping && t.path.stopCause = some .levelLost && t.kept.polishWait = []
          && (t.lotIn 0).any (fun l => l.state = .held && l.holdReason = some .levelLost)) = true := by
  decide +kernel

theorem witness_DrainEnds :
    let enabled (s : State) : State := { s with permit := { s.permit with enable := true } }
    LinkReady 1 base ∧ LinkReady 1 (enabled discharging) ∧ discharging.path.state = .discharge ∧
      got (exec (.setDischargeEnable 0 1 0) base) (fun t => !t.permit.enable) = true ∧
      got (exec (.setDischargeEnable 0 1 0) (enabled base)) (fun t => !t.permit.enable) = true ∧
      got (exec (.setDischargeEnable 0 1 0) (enabled (discharging.modKept fun k =>
        { k with noticeMask := Vector.replicate 33 false }))) (fun t =>
          t.path.state = .stopping && t.path.stopCause = some .disabled && t.kept.dischargeQueue = [210]
            && t.store.inFlight.isSome && lastStatus t = some .ok) = true ∧
      got (exec (.setDischargeEnable 0 1 1) (enabled base)) (fun t => t.permit.enable) = true ∧
      got (exec (.setDischargeEnable 0 1 1) discharging) (fun t => t.permit.enable) = true ∧
      got (exec (.drainTimerExpired (3600 * sec)) discharging) (fun t =>
        t.path.state = .stopping && t.latched .drainTimeout && t.latched .lotHeld
          && (t.lotIn 0).any (fun l => l.holdReason = some .drainTimeout)) = true ∧
      got (exec (.closingTimerExpired (5 * sec)) ((stoppingWith 0 0 0 true).modKept fun k =>
        { k with dischargeQueue := [] })) (fun t => t.path.state = .idle && t.path.closing = none) = true :=
  ⟨base_ready, ready _ (by decide +kernel), by decide +kernel⟩

/-- A check at 60 s that finds no permit, a matching digest, and another digest without and with a pending permit. -/
theorem witness_PermitChecked :
    let timed (s : State) : State := { s with permit :=
      { check := some { start := 0, len := 60 * sec }, enable := true, windowOpen := true } }
    let altered (next : Option Permit) : State := timed (discharging.modKept fun k =>
      { k with permit := { k.permit with digest := some 0, next := next } })
    timerDue (timed base).permit.check (60 * sec) = true ∧ (timed base).usablePermit = none ∧
      discharging.kept.permit.active.isSome = true ∧
      got (exec (.permitMemoryFault 0 longWindow 0) discharging) (fun t =>
        t.kept.permit.active = some longWindow && t.kept.permit.digest = some 0) = true ∧
      got (exec (.permitCheckTimer (60 * sec)) (timed base)) (fun t => t.permit.check = none) = true ∧
      got (exec (.permitCheckTimer (60 * sec)) (timed discharging)) (fun t =>
        t.path.state = .discharge && !t.kept.permit.corrupt
          && t.permit.check = some { start := 60 * sec, len := 60 * sec }) = true ∧
      got (exec (.permitCheckTimer (60 * sec)) (altered none)) (fun t =>
        t.kept.permit.corrupt && t.permit.check = none && !t.permit.windowOpen && t.latched .permitCorrupt
          && t.kept.day.flags.permitCorrupt && t.path.stopCause = some .permitCorrupt) = true ∧
      got (exec (.permitCheckTimer (60 * sec)) (altered (some longWindow))) (fun t =>
        t.kept.permit.active = some longWindow && !t.kept.permit.corrupt && !t.latched .permitCorrupt
          && t.kept.day.flags.permitCorrupt) = true := by
  decide +kernel

/-- An UNSET clock; seconds 21,598 and 86,399; a day start reached; a minute that changes with the window state kept, one
that closes it, and one that opens it with the path busy and with the path IDLE. -/
theorem witness_ClockAdvances :
    let at' (second number : Nat) (open' : Bool) : State :=
      { discharging.modKept fun k => { k with day := { k.day with number := number } } with
        clock := { running := true, second := second, dayCount := 411 }
        permit := { check := none, enable := true, windowOpen := open' } }
    let shut (second number : Nat) : State := (at' second number false).modPath fun _ => base.path
    got (exec (.clockSecond sec) discharging) (fun t => t.clock = discharging.clock) = true ∧
      got (exec (.clockSecond sec) (at' 21597 411 true)) (fun t =>
        t.clock.second = 21598 && t.path.state = .discharge) = true ∧
      (at' 86399 411 true).windowNow = true ∧
      got (exec (.clockSecond sec) (at' 86399 411 true)) (fun t =>
        t.clock = { running := true, second := 0, dayCount := 412 } && t.path.state = .discharge) = true ∧
      got (exec (.clockSecond sec) (at' 21599 411 true)) (fun t => !t.permit.windowOpen && t.path.state = .stopping
        && t.path.stopCause = some .windowClosed && t.kept.dischargeQueue = [210]) = true ∧
      got (exec (.clockSecond sec) (at' 79199 411 false)) (fun t => t.permit.windowOpen && t.path.state = .discharge)
        = true ∧
      got (exec (.clockSecond sec) (shut 79199 411)) (fun t => t.permit.windowOpen && t.path.state = .idle) = true ∧
      got (exec (.clockSecond sec) (shut 30000 410)) (fun t =>
        t.kept.day.number = 411 && t.kept.day.total = NanoAccount.zero
          && t.kept.dayHistory.map (fun r => (r.number, r.mass)) = [(410, 31200)] && t.store.inFlight.isSome) = true := by
  decide +kernel

/-! #### Supply, start-up and FACTORY RESET -/

/-- The threshold of 4.50 V exactly and below it, also in the restore; 4.60 V and 4.61 V in HOLD; a part in its self-test;
and recovery. -/
theorem witness_SupplyHold :
    let running := cellIn .regulating (moving 3 .outlet base)
    base.phase = .running ∧ CellsAtRest base ∧ CellsAtRest running ∧ State.reset.awake = false ∧
      got (exec (.supplyFall 0 300) State.reset) (fun t => t.supply.level = 300 && !t.supply.hold) = true ∧
      got (exec (.supplyFall 0 450) base) (fun t => !t.supply.hold) = true ∧
      got (exec (.supplyFall 0 449) running) (fun t =>
        t.supply.hold && t.cells[0].hold && t.loops[0].hold && t.sump.hold && t.sampler.hold && t.path.hold
          && t.latched .supplyLow && t.store.inFlight.any (·.kind = .supplyLow)) = true ∧
      got (exec (.supplyFall 0 449) { base with sampler := { Sampler.atStart with state := .window } }) (fun t =>
        t.sampler.hold && !t.samplePumpOn) = true ∧
      got (exec (.supplyFall 0 449) { base with phase := .restoring }) (fun t =>
        t.supply.hold && t.cells[0].hold && t.latched .supplyLow) = true ∧
      got (exec (.supplyRise 0 460) held) (fun t => t.supply.recovery = none) = true ∧
      got (exec (.supplyRise 7 461) held) (fun t => t.supply.recovery = some { start := 7, len := 100000 }) = true ∧
      got (exec (.supplyRecovery 100000) { cellIn .regulating held with
        supply := { level := 461, hold := true, recovery := some { start := 0, len := 100000 } } }) (fun t =>
          !t.supply.hold && t.cells[0].state = .priming
            && t.cells[0].priming = some { start := 100000, len := 60 * sec }) = true := by
  unfold CellsAtRest
  decide +kernel

/-- A write cut off by RESET, and the release at 3.00 V and below; the rates of the four strap settings. -/
theorem witness_PartHeldAndStarted :
    got (exec (.imageWriteComplete 0) (startWrite .checkpoint base)) (fun t =>
        t.store.image.any (·.content = base.kept)) = true ∧
      got (exec (.resetPinLow 0) (startWrite .checkpoint base)) (fun t =>
        t.phase = .held && t.store = { image := none, inFlight := none, waiting := none }
          && got (exec (.powerOn 0 500 true true) t) (fun u => u.phase = .held)
          && got (exec (.resetPin 9 true false) t) (fun u =>
            u.phase = .selfTest && u.now = 0 && u.link.bitRate = 57600)) = true ∧
      got (exec (.supplyBelowReset 0 299) base) (fun t =>
        t.phase = .held && got (exec (.resetPin 0 false false) t) (fun u => u.phase = .held)
          && got (exec (.powerOn 0 300 false true) t) (fun u => u.phase = .selfTest && u.link.bitRate = 19200)) = true := by
  decide +kernel

/-- A part in its self-test at a supply level, its store holding an image with a lot in discharge, of cell C1 with autostart,
under a CRC. -/
def stored (level : Nat) (crc : BitVec 32) : State :=
  { State.reset with
    supply := { level := level, hold := false, recovery := none }
    store := { image := some { content := autostarted, crc := crc }, inFlight := none, waiting := none } }
where
  autostarted : Kept :=
    { discharging.kept with cells := modAt discharging.kept.cells 0 fun k => { k with autostart := true } }

theorem stored_restores (level : Nat) :
    exec (.selfTestEnd 0 true true true) (stored level stored.autostarted.crc)
      = .next (startFrom true true (some stored.autostarted)
          ((stored level stored.autostarted.crc).after 0)) := by
  rw [← Store.readBack_good (stored level stored.autostarted.crc).store _ rfl rfl]
  rfl

/-- An image restored at the threshold of 4.50 V and below it; one whose CRC does not match; and a store that cannot be
read. -/
theorem witness_ImageRestored :
    let s := stored 500 stored.autostarted.crc
    s.phase = .selfTest ∧ base.phase ≠ .selfTest ∧
      got (exec (.selfTestEnd 0 true true true) (stored 450 stored.autostarted.crc)) (fun t =>
        t.phase = .restoring && (t.lotIn 0).any (fun l => l.state = .queued) && t.kept.dischargeQueue = [210]
          && t.kept.tanks[0].state = .closed && t.kept.accounts = discharging.kept.accounts && t.latched .clockUnset
          && !t.latched .restoreFailed && !t.supply.hold && t.cells[0].state = .priming
          && t.cells[0].priming = some { start := 0, len := 60 * sec } && t.cells[1].state = .off) = true ∧
      got (exec (.selfTestEnd 0 true true true) (stored 449 stored.autostarted.crc)) (fun t =>
        t.supply.hold && t.latched .supplyLow && t.store.inFlight = none && t.loops[3].hold && t.sump.hold
          && t.sampler.hold && t.path.hold && t.cells[0].state = .priming && t.cells[0].priming = none
          && t.cells[1].hold) = true ∧
      (~~~stored.autostarted.crc ≠ stored.autostarted.crc ∧
        got (exec (.selfTestEnd 0 true true true) (stored 500 (~~~stored.autostarted.crc))) (fun t =>
          t.kept = Kept.fresh && t.latched .restoreFailed) = true) ∧
      got (exec (.selfTestEnd 0 true true false) s) (fun t =>
        t.kept = Kept.fresh && t.latched .restoreFailed && !t.latched .selfTestFailed && t.store.image = none) = true ∧
      got (exec (.selfTestEnd 0 true false true) s) (fun t =>
        t.kept = Kept.fresh && t.latched .restoreFailed && t.latched .selfTestFailed) = true := by
  have other (c : BitVec 32) : ~~~c ≠ c := fun h => by simpa using congrArg (·.getLsbD 0) h
  refine ⟨by decide +kernel, by decide, ?_, ?_, ⟨other _, ?_⟩, by decide +kernel⟩
  · rw [stored_restores]
    decide +kernel
  · rw [stored_restores]
    decide +kernel
  · have failed := Store.readBack_none (stored 500 (~~~stored.autostarted.crc)).store true true
      (Or.inr (Or.inr ⟨_, rfl, other _⟩))
    have restored : exec (.selfTestEnd 0 true true true) (stored 500 (~~~stored.autostarted.crc))
        = .next (startFrom true true none ((stored 500 (~~~stored.autostarted.crc)).after 0)) := by
      rw [← failed]
      rfl
    rw [restored]
    decide +kernel

/-- The restore's end at the threshold and below it, in NORMAL and in HOLD, which recovers by its timer; the starting levels; and writes with and
without one waiting. -/
theorem witness_StartUpEnds :
    let restoring (level : Nat) (hold : Bool) : State :=
      { cellIn .priming base with phase := .restoring, supply := { level := level, hold := hold, recovery := none } }
    let write (waiting : Option WriteKind) : State := { base with
      store := { image := none, inFlight := some { kind := .checkpoint, content := Kept.fresh }, waiting := waiting } }
    got (exec (.restoreEnd 5) (restoring 450 false)) (fun t =>
        t.phase = .running && !t.supply.hold && t.startUp.levels = some { start := 5, len := 100000 }) = true ∧
      got (exec (.restoreEnd 5) (restoring 449 false)) (fun t =>
        t.supply.hold && t.path.hold && t.latched .supplyLow && t.store.inFlight.isNone) = true ∧
      got (exec (.restoreEnd 5) (restoring 449 true)) (fun t => t.phase = .running && t.supply.hold) = true ∧
      got (exec (.restoreEnd 5) (holdBlocks (restoring 450 true))) (fun t =>
        t.phase = .running && t.supply.hold && t.sump.hold && t.cells[0].hold && t.cells[0].priming = none) = true ∧
      got (exec (.supplyRise 5 461) (holdBlocks (restoring 449 true))) (fun t =>
        t.phase = .restoring && t.supply.hold && t.supply.recovery = some { start := 5, len := 100000 }) = true ∧
      got (exec (.switchStartingLevels 100000) { State.reset with
        phase := .running
        startUp := { base.startUp with levels := some { start := 0, len := 100000 } } }) (fun t =>
          t.sump.levelsTaken && t.path.started && t.switches[0].accepted = some false
            && t.kept.tanks[0].state = .filling) = true ∧
      got (exec (.imageWriteComplete 0) base) (fun t => t.store.image = none) = true ∧
      got (exec (.imageWriteComplete 0) (write none)) (fun t =>
        t.store.image.any (·.content = Kept.fresh)) = true ∧
      got (exec (.imageWriteComplete 0) (write (some .supplyLow))) (fun t =>
        t.store.image = none && t.store.inFlight.any (·.kind = .supplyLow) && t.store.waiting = none) = true := by
  decide +kernel

/-- A state at the starting levels: the levels of T1 to T3, LOW before HIGH, and of the sump; no pump and no call. -/
def atLevels (tanks : Vector Bool 6) (sumpLow sumpHigh : Bool) (s : State) : State :=
  { s with
    switches := Vector.ofFn fun i : Fin 12 =>
      let level := if h : i.val < 6 then tanks[i.val] else if i = 6 then sumpLow else i = 7 && sumpHigh
      { pin := level, accepted := some level, debounce := none }
    sump := Sump.atStart }

/-- Switch faults on T1 with a settling lot and on T2 without one; SUMP_HIGH with T3 to fill, with and without SUMP_LOW; a
restored FILLING lot under an uncovered and a covered HIGH; and liquid in T1 and T3 after a failed restore. -/
theorem witness_StartUpEnds_levels :
    let faults := takeLevels (atLevels #v[false, true, false, true, false, false] true true
      (inTank 0 .closed (lotOf 9 .settling) base))
    let filled (high : Bool) := takeLevels (atLevels #v[true, high, false, false, false, false] false false
      (inTank 0 .filling { lotOf 9 .filling with settings := { TankSettings.default with maxFill := 2 } } base))
    let fresh := takeLevels (atLevels #v[true, true, false, true, true, false] false true
      { base with startUp := { base.startUp with restored := false } })
    let emptyAll := takeLevels (atLevels #v[true, false, false, false, true, true] false true
      { base with startUp := { base.startUp with restored := false } })
    (faults.kept.tanks.map (·.state)) = #v[.outOfService, .outOfService, .filling] ∧
      faults.latched (.tankSwitchFault 0) = true ∧ faults.latched (.tankSwitchFault 1) = true ∧
      (faults.lotIn 0).map (·.holdReason) = some (some .switchFault) ∧ faults.latched .lotHeld = true ∧
      faults.sump = { Sump.atStart with pump := true, callMark := true, levelsTaken := true } ∧
      (filled false).kept.tanks[0].state = .filling ∧
      (filled false).timers[0].maxFill = some { start := 0, len := 7200 * sec } ∧
      (filled true).kept.tanks[0].state = .closed ∧ (filled true).kept.tanks[1].state = .filling ∧
      (filled true).sump.callMark = false ∧
      (fresh.kept.tanks.map (·.state)) = #v[.closed, .outOfService, .closed] ∧
      ((fresh.lotIn 0).map (·.number), (fresh.lotIn 2).map (·.number)) = (some 1, some 2) ∧
      (fresh.lotIn 2).map (·.holdReason) = some (some .unknownContent) ∧
      fresh.sump = { Sump.atStart with
        callMark := true, levelsTaken := true, backupTimer := some { start := 0, len := 30 * sec } } ∧
      (emptyAll.kept.tanks.map (·.state)) = #v[.closed, .filling, .closed] ∧ base.path.state = .idle ∧
      base.kept.nextLot = 1 ∧ base.kept.sampleWait = [] := by
  decide +kernel

theorem witness_FactoryReset :
    let s := { (inTank 0 .filling { lotOf 9 .filling with filled := 0, current := 0 } footageBlock) with
      supply := { level := 450, hold := false, recovery := none } }
    LinkReady 1 s ∧
      got (exec (.factoryReset 0 1) s) (fun t =>
        t.kept.films = Vector.replicate 16 0 && t.kept.accounts = Accounts.zero && t.channels[0].count = 0
          && t.kept.tanks[0].state = .filling && t.store.inFlight.isSome && t.loops[0].state = .off) = true ∧
      got (exec (.factoryReset 0 1) discharging) (fun t => lastStatus t = some .wrongState) = true ∧
      got (exec (.factoryReset 0 1) (cellIn .fault base)) (fun t => lastStatus t = some .wrongState) = true ∧
      got (exec (.factoryReset 0 1) (filling 1 0)) (fun t => lastStatus t = some .wrongState) = true :=
  ⟨ready _ (by decide +kernel), by decide +kernel⟩

end Sys2Proof.Tests
end

section
/-! SUPPORT and PROOFS. Requests that are answered at once: what a served request leaves when its entry leaves the link
alone, and the refusals of fields outside their ranges (R177 to R180). -/

namespace Sys2Proof.Machine

open Sys2Proof

/-! ### A request served at once -/

/-- A clear frame that a supply hold does not refuse goes to its request's entry (R179). -/
theorem serve_clearFrame (kind tag : Byte) (r : Request) (s : State)
    (h : (s.supply.hold && refusedInHold r) = false) :
    serve (clearFrame kind tag r) s = serveEntry r s := by
  have hb : (clearFrame kind tag r).heldBack = false := by simp [InFrame.heldBack, clearFrame]
  have hr : (clearFrame kind tag r).request = r := rfl
  simp [serve, hb, hr, h]

/-- A reply of a kind with one place is one frame. -/
theorem withReply_onePlace (r : Request) (tag : Byte) (reply : Reply) (s : State) (hp : placesOf r.kind = 1) :
    withReply r tag reply s = { s with link := { s.link with
      outbound := s.link.outbound ++ [.reply (replyKind r.kind) tag reply 1 1] } } := by
  simp [withReply, Reply.segments, hp, List.range_succ]

/-- A request of one place whose entry leaves the link alone: the state its entry gives, with the reply queued. -/
theorem hostRequest_entry (dt : Micros) (tag : Byte) (r : Request) (s t : State) (reply : Reply)
    (h : LinkReady 1 s) (hp : placesOf r.kind = 1) (hh : (s.supply.hold && refusedInHold r) = false)
    (hs : serveEntry r (serving dt r.kind s) = (reply, t)) (hl : t.link = (serving dt r.kind s).link) :
    hostRequest dt r.kind tag r s = withReply r tag reply { t with link := s.link } := by
  have hserve : serve (clearFrame r.kind tag r) (serving dt r.kind s) = (reply, t) := by
    rw [serve_clearFrame _ _ r (serving dt r.kind s) hh, hs]
  have hout : t.link.outbound = s.link.outbound := by rw [hl]; rfl
  have hin : t.link.inbound = [] := by rw [hl]; exact h.inbound
  rw [hostRequest_served dt r.kind tag r s h hp (by rw [hserve]; exact hout) (by rw [hserve]; exact hin), hserve,
    withReply_onePlace _ _ _ _ hp]
  have hrest : { t.link with reserved := 0 } = s.link := by
    rw [hl, ← h.reserved]; rfl
  simp only [State.modLink, ← hrest]

/-- A request of one place that its entry refuses leaves nothing but the reply. -/
theorem hostRequest_refused (dt : Micros) (tag : Byte) (r : Request) (s : State) (status : Status)
    (h : LinkReady 1 s) (hp : placesOf r.kind = 1) (hh : (s.supply.hold && refusedInHold r) = false)
    (hs : serveEntry r (serving dt r.kind s) = refuse status (serving dt r.kind s)) :
    hostRequest dt r.kind tag r s = withStatus r tag status (s.after dt) :=
  hostRequest_entry dt tag r s _ _ h hp hh hs rfl

/-! ### Fields outside their ranges -/

theorem not_within {low high n : Nat} (h : n < low ∨ high < n) : within low high n = false := by
  simp [within]; omega

theorem LineFields.not_inRange {f : LineFields}
    (h : f.line < 1 ∨ 4 < f.line ∨ 1 < f.enabled ∨ 16 < f.filmType ∨ 10000000 < f.fixerVolume ∨ 20000 < f.washRatio ∨
      f.ratedFlow < 1000 ∨ 500000 < f.ratedFlow ∨ f.ratedFlow < f.trickle ∨ 3600 < f.stopTimeout ∨ f.washCycle < 2 ∨
      60 < f.washCycle) : f.inRange = false := by
  simp only [LineFields.inRange, within, Bool.and_eq_false_iff, decide_eq_false_iff_not]
  omega

theorem CellFields.not_inRange {f : CellFields}
    (h : f.cell < 1 ∨ 4 < f.cell ∨ 4 < f.line ∨ f.iMax < 1000 ∨ 200000 < f.iMax ∨ f.iFs < f.iMax ∨ 250000 < f.iFs ∨
      10000 < f.kc ∨ f.klim < 1 ∨ 10000 < f.klim ∨ 20000 < f.cSet ∨ f.eff < 50 ∨ 100 < f.eff ∨ f.iMax < f.standby ∨
      f.pwmPeriod < 1 ∨ 100 < f.pwmPeriod ∨ f.interval < 1 ∨ 60 < f.interval ∨ 1 < f.autostart) :
    f.inRange = false := by
  simp only [CellFields.inRange, within, Bool.and_eq_false_iff, decide_eq_false_iff_not]
  omega

theorem ChannelFields.not_inRange {f : ChannelFields}
    (h : f.channel < 1 ∨ 16 < f.channel ∨ 14 < f.role ∨ 1 < f.edge ∨ f.scale < 1 ∨ 65535 < f.scale ∨
      f.blockSize < 1 ∨ 1023 < f.blockSize ∨ f.stale < 1 ∨ 60 < f.stale) : f.inRange = false := by
  simp only [ChannelFields.inRange, within, Bool.and_eq_false_iff, decide_eq_false_iff_not]
  omega

theorem AnalyzerFields.not_inRange {f : AnalyzerFields}
    (h : f.input < 1 ∨ 5 < f.input ∨ f.span < 1000 ∨ 20000000 < f.span ∨ 600 < f.hold) : f.inRange = false := by
  simp only [AnalyzerFields.inRange, within, Bool.and_eq_false_iff, decide_eq_false_iff_not]
  omega

theorem TankFields.not_inRange {f : TankFields}
    (h : f.tank < 1 ∨ 3 < f.tank ∨ f.capacity < 100000 ∨ 100000000 < f.capacity ∨ 7200 < f.settle ∨ 48 < f.maxFill ∨
      f.drainLimit < 60 ∨ 14400 < f.drainLimit) : f.inRange = false := by
  simp only [TankFields.inRange, within, Bool.and_eq_false_iff, decide_eq_false_iff_not]
  omega

theorem PlantSettings.not_inRange {f : PlantSettings}
    (h : f.debounce < 10 ∨ 2000 < f.debounce ∨ f.backupDelay < 5 ∨ 600 < f.backupDelay ∨ f.flush < 10 ∨
      600 < f.flush ∨ f.window < 10 ∨ 600 < f.window ∨ f.closing < 1 ∨ 30 < f.closing ∨ f.turnovers < 1 ∨
      5 < f.turnovers ∨ f.maxPasses < 1 ∨ 5 < f.maxPasses ∨ f.exhaustPercent < 50 ∨ 100 < f.exhaustPercent ∨
      3 < f.threshold) : f.inRange = false := by
  simp only [PlantSettings.inRange, within, Bool.and_eq_false_iff, decide_eq_false_iff_not]
  omega

theorem WindowFields.not_inRange {w : WindowFields} (h : 1 < w.enabled ∨ 1439 < w.start ∨ 1439 < w.stop) :
    w.inRange = false := by
  simp only [WindowFields.inRange, within, Bool.and_eq_false_iff, decide_eq_false_iff_not]
  omega

theorem PermitFields.not_inRange {f : PermitFields}
    (h : f.limit < 1 ∨ 100000 < f.limit ∨ 100000000 < f.cap ∨ f.cap < f.reserve ∨ 100000000 < f.minDischarge ∨
      1439 < f.dayStart ∨ f.window1.inRange = false ∨ f.window2.inRange = false ∨ f.window3.inRange = false ∨
      f.window4.inRange = false) : f.inRange = false := by
  simp only [PermitFields.inRange, within, Bool.and_eq_false_iff, decide_eq_false_iff_not]
  grind

/-! ### The entries refuse them (R180) -/

section
variable (s : State)

theorem serveSetLine_outOfRange {f : LineFields} (h : f.inRange = false) : serveSetLine f s = outOfRange s := by
  unfold serveSetLine; split <;> simp [h]

theorem serveSetFilmType_outOfRange {entry load : Nat} (h : entry < 1 ∨ 16 < entry ∨ 10000 < load) :
    serveSetFilmType entry load s = outOfRange s := by
  unfold serveSetFilmType
  split
  · rfl
  · next e he => rw [numbered_eq_some] at he; rw [if_neg (by omega)]

theorem serveSetCell_outOfRange {f : CellFields} (h : f.inRange = false) : serveSetCell f s = outOfRange s := by
  unfold serveSetCell; split <;> simp [h]

theorem serveSetChannel_outOfRange {f : ChannelFields} (h : f.inRange = false) :
    serveSetChannel f s = outOfRange s := by
  unfold serveSetChannel; split <;> simp [h]

theorem serveSetAnalyzer_outOfRange {f : AnalyzerFields} (h : f.inRange = false) :
    serveSetAnalyzer f s = outOfRange s := by
  unfold serveSetAnalyzer; split <;> simp [h]

theorem serveSetTank_outOfRange {f : TankFields} (h : f.inRange = false) : serveSetTank f s = outOfRange s := by
  unfold serveSetTank; split <;> simp [h]

theorem serveSetPlant_outOfRange {f : PlantSettings} (h : f.inRange = false) : serveSetPlant f s = outOfRange s := by
  simp [serveSetPlant, h]

theorem serveSetPermit_outOfRange {f : PermitFields} (h : f.inRange = false) :
    serveSetPermit f s = outOfRange s := by
  simp [serveSetPermit, h]

theorem serveSetClock_outOfRange {dayCount second : Nat} (h : dayCount < 1 ∨ 65535 < dayCount ∨ 86399 < second) :
    serveSetClock dayCount second s = outOfRange s := by
  have hw : (within 1 65535 dayCount && within 0 86399 second) = false := by
    simp only [within, Bool.and_eq_false_iff, decide_eq_false_iff_not]; omega
  simp [serveSetClock, hw]

theorem onLot_outOfRange {n : Nat} (f : Fin 3 → Lot → Served) (h : n < 1 ∨ 65535 < n) :
    onLot n s f = outOfRange s := by
  simp [onLot, not_within h]

theorem serveRemoveCartridge_outOfRange {n : Nat} (h : n < 1 ∨ 65535 < n) :
    serveRemoveCartridge n s = outOfRange s := by
  simp [serveRemoveCartridge, not_within h]

theorem serveInstallCartridge_outOfRange {serial capacity : Nat}
    (h : serial < 1 ∨ 65535 < serial ∨ capacity < 1 ∨ 10000000 < capacity) :
    serveInstallCartridge serial capacity s = outOfRange s := by
  have hw : (within 1 65535 serial && within 1 10000000 capacity) = false := by
    simp only [within, Bool.and_eq_false_iff, decide_eq_false_iff_not]; omega
  simp [serveInstallCartridge, hw]

theorem serveSetDischargeEnable_outOfRange {n : Nat} (h : 1 < n) : serveSetDischargeEnable n s = outOfRange s := by
  simp [serveSetDischargeEnable, show n ≠ 1 by omega, show n ≠ 0 by omega]

/-- How many instances each kind of alert has (R161). -/
theorem kindCount_lt {kind inst : Nat}
    (h : ((kind = 2 ∨ kind = 3) ∧ 4 < inst) ∨ (kind = 4 ∧ 5 < inst) ∨ (kind = 5 ∧ 3 < inst) ∨
      ((kind = 1 ∨ 6 ≤ kind) ∧ 1 < inst)) : kind ≠ 0 ∧ kindCount kind < inst := by
  unfold kindCount
  split <;> omega

theorem serveClearAlert_outOfRange {kind inst : Nat}
    (h : 16 < kind ∨ (kind = 0 ∧ inst ≠ 0) ∨ ((kind = 2 ∨ kind = 3) ∧ 4 < inst) ∨ (kind = 4 ∧ 5 < inst) ∨
      (kind = 5 ∧ 3 < inst) ∨ ((kind = 1 ∨ 6 ≤ kind) ∧ 1 < inst)) :
    serveClearAlert kind inst s = outOfRange s := by
  have hbad : 16 < kind ∨ (kind = 0 ∧ inst ≠ 0) ∨ (kind ≠ 0 ∧ kindCount kind < inst) := by
    rcases h with h | h | h
    · exact .inl h
    · exact .inr (.inl h)
    · exact .inr (.inr (kindCount_lt h))
  simp only [serveClearAlert, if_pos hbad]

/-- A number outside 1 to `k` names none of `k` things. -/
theorem numbered_outside {k n : Nat} (h : n < 1 ∨ k < n) : numbered k n = none :=
  numbered_eq_none.mpr (by omega)

theorem serveStartCell_outOfRange {n : Nat} (h : n < 1 ∨ 4 < n) : serveStartCell n s = outOfRange s := by
  simp only [serveStartCell, numbered_outside h]

theorem serveStopCell_outOfRange {n : Nat} (h : n < 1 ∨ 4 < n) : serveStopCell n s = outOfRange s := by
  simp only [serveStopCell, numbered_outside h]

theorem serveClearCellFault_outOfRange {n : Nat} (h : n < 1 ∨ 4 < n) : serveClearCellFault n s = outOfRange s := by
  simp only [serveClearCellFault, numbered_outside h]

theorem serveReadCell_outOfRange {n : Nat} (h : n < 1 ∨ 4 < n) : serveReadCell n s = outOfRange s := by
  simp only [serveReadCell, numbered_outside h]

theorem serveReadLine_outOfRange {n : Nat} (h : n < 1 ∨ 4 < n) : serveReadLine n s = outOfRange s := by
  simp only [serveReadLine, numbered_outside h]

theorem serveReturnTank_outOfRange {n : Nat} (h : n < 1 ∨ 3 < n) : serveReturnTank n s = outOfRange s := by
  simp only [serveReturnTank, numbered_outside h]

end

/-- A request that a supply hold refuses none of passes step 4 of R179. -/
theorem passesHold {r : Request} (s : State) (h : refusedInHold r = false) :
    (s.supply.hold && refusedInHold r) = false := by
  rw [h, Bool.and_false]

/-- A request outside a supply hold passes step 4 of R179. -/
theorem passesNormal (r : Request) {s : State} (h : s.supply.hold = false) :
    (s.supply.hold && refusedInHold r) = false := by
  rw [h, Bool.false_and]

end Sys2Proof.Machine

namespace Sys2Proof.Settled

open Sys2Proof Sys2Proof.Machine

/-- Settles O17: each entry refuses the fields outside its ranges, and a refusal leaves nothing but its reply. -/
theorem outOfRange : Obligations.OutOfRange := by
  intro dt tag s ready refused badWindow
  have answer (r : Request) (hp : placesOf r.kind = 1) (hh : (s.supply.hold && refusedInHold r) = false)
      (hs : serveEntry r (serving dt r.kind s) = Machine.outOfRange (serving dt r.kind s)) :
      Host.Outcome.next (φ := Fault) (ρ := Refusal) (hostRequest dt r.kind tag r s) =
        .next (withStatus r tag .outOfRange (s.after dt)) :=
    congrArg _ (hostRequest_refused dt tag r s _ ready hp hh hs)
  refine ⟨?_, ?_, ?_, ?_, ?_, ?_, ?_, ?_, ?_, ?_, ?_, ?_, ?_, ?_, ?_⟩
  · intro f hf
    exact answer (.setLine f) rfl (passesHold s rfl) (serveSetLine_outOfRange _ (LineFields.not_inRange hf))
  · intro entry load hf
    exact answer (.setFilmType entry load) rfl (passesHold s rfl) (serveSetFilmType_outOfRange _ hf)
  · intro f hf
    exact answer (.setCell f) rfl (passesHold s rfl) (serveSetCell_outOfRange _ (CellFields.not_inRange hf))
  · intro f hf
    exact answer (.setChannel f) rfl (passesHold s rfl) (serveSetChannel_outOfRange _ (ChannelFields.not_inRange hf))
  · intro f hf
    exact answer (.setAnalyzer f) rfl (passesHold s rfl)
      (serveSetAnalyzer_outOfRange _ (AnalyzerFields.not_inRange hf))
  · intro f hf
    exact answer (.setTank f) rfl (passesHold s rfl) (serveSetTank_outOfRange _ (TankFields.not_inRange hf))
  · intro f hf
    exact answer (.setPlant f) rfl (passesHold s rfl) (serveSetPlant_outOfRange _ (PlantSettings.not_inRange hf))
  · intro f hf
    refine answer (.setPermit f) rfl (passesHold s rfl) (serveSetPermit_outOfRange _ (PermitFields.not_inRange ?_))
    have bad {w : WindowFields} (h : badWindow w) : w.inRange = false := WindowFields.not_inRange h
    exact hf.imp_right <| Or.imp_right <| Or.imp_right <| Or.imp_right <| Or.imp_right <| Or.imp_right <|
      Or.imp bad <| Or.imp bad <| Or.imp bad bad
  · intro dayCount second hf
    exact answer (.setClock dayCount second) rfl (passesHold s rfl) (serveSetClock_outOfRange _ hf)
  · intro n hn
    exact ⟨fun normal => answer (.startCell n) rfl (passesNormal _ normal) (serveStartCell_outOfRange _ hn),
      answer (.stopCell n) rfl (passesHold s rfl) (serveStopCell_outOfRange _ hn),
      answer (.clearCellFault n) rfl (passesHold s rfl) (serveClearCellFault_outOfRange _ hn),
      answer (.readCell n) rfl (passesHold s rfl) (serveReadCell_outOfRange _ hn),
      answer (.readLine n) rfl (passesHold s rfl) (serveReadLine_outOfRange _ hn)⟩
  · intro n hn
    exact ⟨fun normal => ⟨answer (.returnLot n) rfl (passesNormal _ normal) (onLot_outOfRange _ _ hn),
        answer (.polishLot n) rfl (passesNormal _ normal) (onLot_outOfRange _ _ hn)⟩,
      answer (.holdLot n) rfl (passesHold s rfl) (onLot_outOfRange _ _ hn),
      answer (.declareHauled n) rfl (passesHold s rfl) (onLot_outOfRange _ _ hn),
      answer (.removeCartridge n) rfl (passesHold s rfl) (serveRemoveCartridge_outOfRange _ hn)⟩
  · intro n hn
    exact answer (.returnTank n) rfl (passesHold s rfl) (serveReturnTank_outOfRange _ hn)
  · intro serial capacity hf
    exact answer (.installCartridge serial capacity) rfl (passesHold s rfl) (serveInstallCartridge_outOfRange _ hf)
  · intro n hn
    have hh : refusedInHold (.setDischargeEnable n) = false := by simp [refusedInHold]; omega
    exact answer (.setDischargeEnable n) rfl (passesHold s hh) (serveSetDischargeEnable_outOfRange _ hn)
  · intro kind inst hf
    exact answer (.clearAlert kind inst) rfl (passesHold s rfl) (serveClearAlert_outOfRange _ hf)

end Sys2Proof.Settled
end

section
/-! PROOF of O18. The reads and ECHO: what a read that changes nothing leaves when no notice waits (R172, R178), and the
figures of the balance as sums over the lines and the lots (R32, R33). -/

namespace Sys2Proof.Machine

open Sys2Proof

/-! ### A read served at once -/

/-- No kind wants more than five places (the kind table). -/
theorem placesOf_le_five (kind : Byte) : placesOf kind ≤ 5 := by
  revert kind
  decide +kernel

/-- Room for more places is room for fewer. -/
theorem LinkReady.mono {m n : Nat} {s : State} (h : LinkReady n s) (hmn : m ≤ n) : LinkReady m s :=
  { h with room := by have := h.room; omega }

/-- A request whose entry changes nothing, completed with room for five places and no notice pending: its reply stands
in the Outbound Queue, and the places that it leaves are free. -/
theorem hostRequest_read (dt : Micros) (tag : Byte) (r : Request) (s : State) (reply : Reply)
    (h : LinkReady 5 s) (hn : s.link.notices = []) (hh : refusedInHold r = false)
    (hs : serveEntry r (serving dt r.kind s) = (reply, serving dt r.kind s)) :
    hostRequest dt r.kind tag r s = withReply r tag reply (s.after dt) := by
  have hserve : serve (clearFrame r.kind tag r) (serving dt r.kind s) = (reply, serving dt r.kind s) := by
    rw [serve_clearFrame _ _ r (serving dt r.kind s) (passesHold (serving dt r.kind s) hh), hs]
  have hput (frames : List OutFrame) : appendReply s.link.outbound.length frames (serving dt r.kind s) =
      (s.after dt).modLink fun k => { k with outbound := s.link.outbound ++ frames } := by
    have hv : { s.link with reserved := 0 } = s.link := by rw [← h.reserved]
    simp [appendReply, serving, State.modLink, State.after, h.reserved]
  rw [hostRequest_ready dt r.kind tag r s (h.mono (placesOf_le_five r.kind)), hserve]
  dsimp only
  rw [hput, settle_done _ _ ((s.after dt).modLink _) (by exact h.inbound) (.inl (by exact hn)), withReply, replyFrames, clearFrame_wants]
  rfl

/-- The same for a read that answers OK with a body. -/
theorem exec_read (i : Instr) (dt : Micros) (tag : Byte) (r : Request) (s : State) (body : ReplyBody)
    (h : LinkReady 5 s) (hn : s.link.notices = []) (hi : exec i s = .next (hostRequest dt r.kind tag r s))
    (hh : refusedInHold r = false)
    (hs : serveEntry r (serving dt r.kind s) = okWith body (serving dt r.kind s)) :
    exec i s = .next (withBody r tag body (s.after dt)) := by
  rw [hi, hostRequest_read dt tag r s _ h hn hh hs, withBody]

/-! ### Numbered instances -/

@[simp] theorem numbered_succ {k : Nat} (i : Fin k) : numbered k (i.val + 1) = some i :=
  (numbered_eq_some i).mpr rfl

/-! ### The balance (R32, R33) -/

/-- The reading that a balance uses of a line's input, with its mark: the published reading of a VALID input, else the
held value, else 0. -/
def State.usedReading (s : State) (l : Fin 4) : Nat × ReadingMark :=
  let k := s.analyzers[l.val]
  if k.state = .valid then (k.published.getD 0, .valid)
  else match k.held with
    | some v => (v, .held)
    | none => (0, .unavailable)

theorem usedReading_eq (s : State) (l : Fin 4) :
    s.usedReading l = ((s.reading (lineAnalyzer l)).1.getD 0, (s.reading (lineAnalyzer l)).2) := by
  have hk : s.analyzers[lineAnalyzer l] = s.analyzers[l.val] := rfl
  unfold State.usedReading State.reading
  rw [hk]
  cases hstate : s.analyzers[l.val].state <;> cases hheld : s.analyzers[l.val].held <;> simp [hstate, hheld]

theorem lineTerm_eq (s : State) (l : Fin 4) :
    lineTerm s l =
      { reading := (s.usedReading l).1, mark := (s.usedReading l).2, fixerVolume := s.kept.lines[l].fixerVolume
        term := (s.usedReading l).1 * s.kept.lines[l].fixerVolume / 1000000 } := by
  rw [usedReading_eq]
  rfl

/-- The silver in a lot, whole mg: none without a concentration. -/
def Lot.silver (l : Lot) : Nat :=
  match l.concentration with
  | none => 0
  | some c => c * l.current / 1000000

theorem Lot.silver_eq (l : Lot) : l.silver = l.content / 1000000 := by
  unfold Lot.silver Lot.content
  cases l.concentration <;> simp

theorem Vector.toList_four {α : Type} (v : Vector α 4) : v.toList = [v[0], v[1], v[2], v[3]] := by
  apply List.ext_getElem
  · simp
  · intro i h _
    have h4 : i < 4 := by simpa using h
    match i, h4 with
    | 0, _ => simp
    | 1, _ => simp
    | 2, _ => simp
    | 3, _ => simp

theorem balance_filmIn (s : State) : (balanceFigures s).filmIn =
    [s.kept.accounts.filmIn[0].mg, s.kept.accounts.filmIn[1].mg, s.kept.accounts.filmIn[2].mg,
      s.kept.accounts.filmIn[3].mg] := by
  simp only [balanceFigures, Vector.toList_four, List.map_cons, List.map_nil]

theorem balance_plated (s : State) : (balanceFigures s).plated =
    [s.kept.accounts.plated[0].mg, s.kept.accounts.plated[1].mg, s.kept.accounts.plated[2].mg,
      s.kept.accounts.plated[3].mg] := by
  simp only [balanceFigures, Vector.toList_four, List.map_cons, List.map_nil]

theorem balance_lines (s : State) : (balanceFigures s).lines = [lineTerm s 0, lineTerm s 1, lineTerm s 2, lineTerm s 3] :=
  rfl

theorem balance_inventory (s : State) : (balanceFigures s).fixerInventory =
    (lineTerm s 0).term + (lineTerm s 1).term + (lineTerm s 2).term + (lineTerm s 3).term := by
  have h : (balanceFigures s).fixerInventory = ((balanceFigures s).lines.map (·.term)).sum := rfl
  rw [h, balance_lines]
  simp only [List.map_cons, List.map_nil, List.sum_cons, List.sum_nil]
  omega

theorem balance_lots (s : State) : (balanceFigures s).lots =
    (([0, 1, 2] : List (Fin 3)).filterMap s.lotIn).map fun l =>
      { number := l.number, concentration := l.concentration, current := l.current, term := l.silver } := by
  simp only [Lot.silver_eq]
  rfl

theorem balance_contents (s : State) : (balanceFigures s).lotContents =
    ((([0, 1, 2] : List (Fin 3)).filterMap s.lotIn).map Lot.silver).sum := by
  have h : (balanceFigures s).lotContents = ((balanceFigures s).lots.map (·.term)).sum := rfl
  rw [h, balance_lots, List.map_map]
  rfl

/-- The unaccounted figure is the FILM_IN sum less everything found (R33). -/
theorem balance_unaccounted (s : State) : (balanceFigures s).unaccounted =
    ((balanceFigures s).filmIn.sum : Int) - ((balanceFigures s).plated.sum : Int)
      - ((balanceFigures s).fixerInventory : Int) - ((balanceFigures s).lotContents : Int)
      - (s.kept.accounts.cartridgeLoaded : Int) - (s.kept.accounts.cartridgeRemoved : Int)
      - (s.kept.accounts.discharged.mg : Int) - (s.kept.accounts.hauled.mg : Int) := by
  simp only [balanceFigures]
  omega

end Sys2Proof.Machine

namespace Sys2Proof.Settled

open Sys2Proof Sys2Proof.Machine

/-- Settles O18: each read answers the figures of the state on which it is served, which differs from the state found in
the reserved places alone. -/
theorem readsChangeNothing : Obligations.ReadsChangeNothing := by
  intro dt tag s ready quiet
  refine ⟨?_, ?_, ?_, ?_, ?_, ?_, ?_, ?_, ?_, ?_, ?_, ?_⟩
  · intro payload
    exact exec_read _ dt tag (.echo payload) s _ ready quiet rfl rfl rfl
  · exact exec_read _ dt tag .readStatus s _ ready quiet rfl rfl rfl
  · exact exec_read _ dt tag .readInputs s _ ready quiet rfl rfl rfl
  · intro l
    exact exec_read _ dt tag (.readLine (l.val + 1)) s _ ready quiet rfl rfl
      (by simp only [serveEntry, serveReadLine, numbered_succ]; rfl)
  · intro c
    exact exec_read _ dt tag (.readCell (c.val + 1)) s _ ready quiet rfl rfl
      (by simp only [serveEntry, serveReadCell, numbered_succ]; rfl)
  · exact exec_read _ dt tag .readLots s _ ready quiet rfl rfl rfl
  · exact exec_read _ dt tag .readLotHistory s _ ready quiet rfl rfl rfl
  · exact exec_read _ dt tag .readDayHistory s _ ready quiet rfl rfl rfl
  · refine ⟨_, exec_read _ dt tag .readPermit s _ ready quiet rfl rfl rfl, rfl, rfl, rfl, rfl, rfl, rfl, rfl, rfl, ?_⟩
    have hu : (serving dt (Request.kind .readPermit) s).usablePermit = s.usablePermit := rfl
    refine ⟨fun h => ?_, fun p h => ?_⟩
    · simp only [State.windowsOpen, hu, h]
    · simp only [State.windowsOpen, hu, h]
      rfl
  · refine ⟨balanceFigures s, exec_read _ dt tag .readBalance s _ ready quiet rfl rfl rfl, ?_⟩
    intro a used line silver lots
    have hline (l : Fin 4) : lineTerm s l = line l := lineTerm_eq s l
    refine ⟨balance_filmIn s, balance_plated s, rfl, rfl, rfl, rfl, ?_, ?_, balance_lots s, balance_contents s, ?_⟩
    · rw [balance_lines, hline, hline, hline, hline]
    · rw [balance_inventory, hline, hline, hline, hline]
    · rw [balance_unaccounted, balance_filmIn, balance_plated]
      simp only [List.sum_cons, List.sum_nil, Nat.add_zero, Nat.add_assoc, a]
  · exact exec_read _ dt tag .readCartridges s _ ready quiet rfl rfl rfl
  · exact ⟨_, exec_read _ dt tag .readSettings s _ ready quiet rfl rfl rfl, rfl, rfl, rfl, rfl, rfl, rfl, rfl, rfl,
      rfl, rfl⟩

end Sys2Proof.Settled
end

section
/-! PROOFS of O25 and O26. SET CHANNEL and SET ANALYZER: the checks of their entries, and what a channel and an input
take of their new settings (R8, R16). -/

namespace Sys2Proof.Machine

open Sys2Proof

/-! ### An entry that acts and neither reads nor changes the Plant Link -/

/-- A request of one place whose entry acts by `F`, which neither reads nor changes the link: the state that `F` gives,
with the reply queued. -/
theorem hostRequest_acts (dt : Micros) (tag : Byte) (r : Request) (s : State) (body : ReplyBody) (F : State → State)
    (h : LinkReady 1 s) (hp : placesOf r.kind = 1) (hh : (s.supply.hold && refusedInHold r) = false)
    (hs : serveEntry r (serving dt r.kind s) = okWith body (F (serving dt r.kind s)))
    (hF : ∀ k : Link, F { s.after dt with link := k } = { F (s.after dt) with link := k }) :
    hostRequest dt r.kind tag r s = withBody r tag body (F (s.after dt)) := by
  have hserving : serving dt r.kind s = { s.after dt with link := (serving dt r.kind s).link } := rfl
  have hlink : F (s.after dt) = { F (s.after dt) with link := s.link } := hF s.link
  rw [hostRequest_entry dt tag r s _ _ h hp hh hs (by rw [hserving, hF]), hserving, hF, hlink]
  rfl

/-! ### What a rate update changes, and what it does not read -/

section
variable (l : Fin 4) (s : State) (k : Link)

theorem filmStarted_eq : filmStarted l s = { s with loops := (filmStarted l s).loops } := by
  unfold filmStarted; split <;> rfl

theorem filmRateChanged_eq : filmRateChanged l s = { s with loops := (filmRateChanged l s).loops } := by
  unfold filmRateChanged; split <;> rfl

theorem filmStopped_eq : filmStopped l s = { s with loops := (filmStopped l s).loops } := by
  unfold filmStopped
  split
  · by_cases h : s.kept.lines[l].stopTimeout = 0 <;> simp only [h, if_true, if_false] <;> rfl
  all_goals rfl

theorem filmStarted_withLink :
    filmStarted l { s with link := k } = { filmStarted l s with link := k } := by
  unfold filmStarted
  dsimp only
  cases s.loops[l].state <;> rfl

theorem filmRateChanged_withLink :
    filmRateChanged l { s with link := k } = { filmRateChanged l s with link := k } := by
  unfold filmRateChanged
  dsimp only
  cases s.loops[l].state <;> rfl

theorem filmStopped_withLink :
    filmStopped l { s with link := k } = { filmStopped l s with link := k } := by
  unfold filmStopped
  dsimp only
  cases s.loops[l].state with
  | running => by_cases h : s.kept.lines[l].stopTimeout = 0 <;> simp only [h, if_true, if_false] <;> rfl
  | _ => rfl

end

/-- A rate update changes the Line Units and the wash loops alone. -/
theorem ownerRate_eq (r : Role) (rate : Nat) (moving : Bool) (s : State) :
    ownerRate r rate moving s =
      { s with lines := (ownerRate r rate moving s).lines, loops := (ownerRate r rate moving s).loops } := by
  cases r with
  | footage l =>
    simp only [ownerRate, lineRateUpdate]
    split
    · rw [filmStarted_eq]; rfl
    · rw [filmStopped_eq]; rfl
    · rw [filmRateChanged_eq]; rfl
    · rfl
  | _ => rfl

/-- A rate update does not read the Plant Link. -/
theorem ownerRate_withLink (r : Role) (rate : Nat) (moving : Bool) (s : State) (k : Link) :
    ownerRate r rate moving { s with link := k } = { ownerRate r rate moving s with link := k } := by
  cases r with
  | footage l =>
    have hline : State.modLine { s with link := k } l (fun _ => { filmRate := rate, filmMoving := moving }) =
        { s.modLine l (fun _ => { filmRate := rate, filmMoving := moving }) with link := k } := rfl
    simp only [ownerRate, lineRateUpdate, hline]
    cases s.lines[l].filmMoving <;> cases moving
    · rfl
    · exact filmStarted_withLink l _ k
    · exact filmStopped_withLink l _ k
    · exact filmRateChanged_withLink l _ k
  | _ => rfl

/-! ### SET CHANNEL (R8) -/

/-- The state with a channel's new settings written and the channel afresh: a rebound channel's counts are cleared. -/
def rebound (c : Fin 16) (k : ChannelSettings) (s : State) : State :=
  let old := s.kept.channels[c].role
  { s with
    kept := { s.kept with channels := s.kept.channels.set c.val k }
    channels := s.channels.set c.val
      { count := if k.role = old then s.channels[c].count else 0
        rejected := if k.role = old then s.channels[c].rejected else 0
        moving := false, rate := 0, pulseRate := 0, block := none, lastEdge := none, stale := none } }

/-- Rebinding is the new settings on a fresh channel, and a rate update to the previous role of a channel that was
MOVING or had a rate. -/
theorem rebind_eq (c : Fin 16) (k : ChannelSettings) (s : State) :
    rebind c k s = if s.channels[c].moving || s.channels[c].rate ≠ 0 then
      ownerRate s.kept.channels[c].role 0 false (rebound c k s) else rebound c k s := rfl

theorem rebind_withLink (c : Fin 16) (k : ChannelSettings) (s : State) (l : Link) :
    rebind c k { s with link := l } = { rebind c k s with link := l } := by
  rw [rebind_eq, rebind_eq]
  by_cases h : (s.channels[c].moving || s.channels[c].rate ≠ 0) = true
  · rw [if_pos h, if_pos h]
    exact ownerRate_withLink _ _ _ (rebound c k s) l
  · rw [if_neg h, if_neg h]
    rfl

/-- A role is taken when another channel holds it. -/
theorem roleTaken_iff (s : State) (c : Fin 16) (r : Role) :
    s.roleTaken c r = true ↔ r ≠ .noRole ∧ ∃ d : Fin 16, d ≠ c ∧ s.kept.channels[d].role = r := by
  simp [State.roleTaken]

/-- A role is in use: the outlet while the path is not IDLE, the transfer while the pump runs, a cell's while the cell is
neither OFF nor in FAULT. -/
theorem roleInUse_iff (s : State) (r : Role) :
    s.roleInUse r = true ↔ (r = .outlet ∧ s.path.state ≠ .idle) ∨ (r = .transfer ∧ s.sump.pump = true) ∨
      ∃ d : Fin 4, r = .celli d ∧ s.cells[d].state ≠ .off ∧ s.cells[d].state ≠ .fault := by
  cases r <;> simp [State.roleInUse]

theorem serveSetChannel_eq {f : ChannelFields} {c : Fin 16} (s : State) (hc : f.channel = c.val + 1)
    (hf : f.inRange = true) :
    serveSetChannel f s =
      if s.roleTaken c (roleOf f.role) ∨ s.roleInUse s.kept.channels[c].role then wrongState s
      else ok (rebind c f.settings s) := by
  have hn : numbered 16 f.channel = some c := (numbered_eq_some c).mpr hc
  simp only [serveSetChannel, hn, hf, if_true]
  rw [ite_or]
  rfl

/-! ### SET ANALYZER (R16) -/

section
variable (s : State) (l : Link)

/-- The end of a hold does not read the Plant Link. -/
theorem handHoldExpired_withLink (a : Fin 5) :
    handHoldExpired a { s with link := l } = { handHoldExpired a s with link := l } := by
  have hcell (c : Fin 4) : cellHoldExpired c { s with link := l } = { cellHoldExpired c s with link := l } := by
    unfold cellHoldExpired
    by_cases h : (s.cells[c].state = .holding && !s.cells[c].hold) = true
    · exact (if_pos h).trans (by rw [if_pos h]; rfl)
    · exact (if_neg h).trans (by rw [if_neg h]; rfl)
  have hbound (i : Fin 4) : State.cellOfLine { s with link := l } i = s.cellOfLine i := rfl
  unfold handHoldExpired toConsumer
  cases lineOfInput a with
  | none => rfl
  | some i =>
    dsimp only
    rw [hbound]
    cases s.cellOfLine i with
    | none => rfl
    | some c => exact hcell c

end

/-- The state with an input's new settings written, its record emptied and its watch restarted, and with its held value
and its hold timer as given (R16). -/
def respanned (a : Fin 5) (k : AnalyzerSettings) (held : Option Nat) (hold : Option Timer) (s : State) : State :=
  { s with
    kept := { s.kept with analyzers := s.kept.analyzers.set a.val k }
    analyzers := s.analyzers.set a.val
      { s.analyzers[a] with
        record := [], silence := some { start := s.now, len := 3 * sec }, held := held, hold := hold } }

theorem setAnalyzer_stopped (a : Fin 5) (k : AnalyzerSettings) (s : State) (h : s.analyzers[a].hold = none) :
    setAnalyzer a k s = respanned a k s.analyzers[a].held none s := by
  simp only [setAnalyzer, h]
  simp only [respanned, ← h]
  rfl

theorem setAnalyzer_over (a : Fin 5) (k : AnalyzerSettings) (s : State) (t : Timer) (h : s.analyzers[a].hold = some t)
    (ht : t.start + k.hold * sec ≤ s.now) :
    setAnalyzer a k s = handHoldExpired a (respanned a k none none s) := by
  simp only [setAnalyzer, h, if_pos ht, holdRunsOut, emptyRecord, State.modAnalyzer, State.modKept, modAt_modAt]
  rfl

theorem setAnalyzer_running (a : Fin 5) (k : AnalyzerSettings) (s : State) (t : Timer)
    (h : s.analyzers[a].hold = some t) (ht : s.now < t.start + k.hold * sec) :
    setAnalyzer a k s = respanned a k s.analyzers[a].held (some { t with len := k.hold * sec }) s := by
  simp only [setAnalyzer, h, if_neg (Nat.not_le.mpr ht), emptyRecord, State.modAnalyzer, State.modKept, modAt_modAt]
  rfl

theorem serveSetAnalyzer_eq {f : AnalyzerFields} {a : Fin 5} (s : State) (ha : f.input = a.val + 1)
    (hf : f.inRange = true) :
    serveSetAnalyzer f s =
      if a = 4 ∧ s.sampler.state ≠ .idle then wrongState s else ok (setAnalyzer a f.settings s) := by
  have hn : numbered 5 f.input = some a := (numbered_eq_some a).mpr ha
  simp only [serveSetAnalyzer, hn, hf, if_true]

end Sys2Proof.Machine

namespace Sys2Proof.Settled

open Sys2Proof Sys2Proof.Machine

/-- Settles O25: the two checks are those of the entry, and a rebinding is the fresh channel, with a rate update to the
previous owner where the channel was MOVING or had a rate. -/
theorem channelSet : Obligations.ChannelSet := by
  intro dt tag s c f ready hc hf old role shared inUse written
  have hh := passesHold (r := .setChannel f) s rfl
  have hs := serveSetChannel_eq (serving dt (Request.kind (.setChannel f)) s) hc hf
  have htaken : s.roleTaken c role = true ↔ shared := roleTaken_iff s c role
  have huse : s.roleInUse old = true ↔ inUse := roleInUse_iff s old
  have hwritten : rebound c f.settings (s.after dt) = written := rfl
  refine ⟨fun h => ?_, fun hshared huse' hm hr => ?_, fun hshared huse' hm => ?_⟩
  · have hbad : s.roleTaken c role = true ∨ s.roleInUse old = true := h.imp htaken.mpr huse.mpr
    exact congrArg _ (hostRequest_refused dt tag (.setChannel f) s _ ready rfl hh (hs.trans (if_pos hbad)))
  all_goals
    have hgood : ¬(s.roleTaken c role = true ∨ s.roleInUse old = true) :=
      not_or.mpr ⟨fun h => hshared (htaken.mp h), fun h => huse' (huse.mp h)⟩
    have hanswer := hostRequest_acts dt tag (.setChannel f) s .empty (rebind c f.settings) ready rfl hh
      (hs.trans (if_neg hgood)) (rebind_withLink c f.settings (s.after dt))
    rw [rebind_eq, State.after_channels] at hanswer
  · rw [hm, hr, if_neg (by decide)] at hanswer
    exact congrArg _ hanswer
  · rw [if_pos (by simpa using hm)] at hanswer
    exact congrArg _ hanswer

/-- Settles O26: the entry's check, and then the hold timer stopped, over by the new hold time, or still running. -/
theorem analyzerSet : Obligations.AnalyzerSet := by
  intro dt tag s a f ready ha hf busy written
  have hh := passesHold (r := .setAnalyzer f) s rfl
  have hs := serveSetAnalyzer_eq (serving dt (Request.kind (.setAnalyzer f)) s) ha hf
  have acts (free : ¬busy) (F : State → State)
      (hset : ∀ k : Link, setAnalyzer a f.settings { s.after dt with link := k } = F { s.after dt with link := k })
      (hF : ∀ k : Link, F { s.after dt with link := k } = { F (s.after dt) with link := k }) :
      exec (.setAnalyzer dt tag f) s = .next (withStatus (.setAnalyzer f) tag .ok (F (s.after dt))) :=
    congrArg _ (hostRequest_acts dt tag (.setAnalyzer f) s .empty F ready rfl hh
      (hs.trans ((if_neg free).trans (congrArg ok (hset _)))) hF)
  refine ⟨fun h => ?_, fun free h => ?_, fun t free h ht => ?_, fun t free h ht => ?_⟩
  · exact congrArg _ (hostRequest_refused dt tag (.setAnalyzer f) s _ ready rfl hh (hs.trans (if_pos h)))
  · exact acts free (respanned a f.settings s.analyzers[a].held none)
      (fun k => setAnalyzer_stopped a f.settings { s.after dt with link := k } h) fun _ => rfl
  · exact acts free (respanned a f.settings s.analyzers[a].held (some { t with len := f.hold * sec }))
      (fun k => setAnalyzer_running a f.settings { s.after dt with link := k } t h ht) fun _ => rfl
  · exact acts free (fun x => handHoldExpired a (respanned a f.settings none none x))
      (fun k => setAnalyzer_over a f.settings { s.after dt with link := k } t h ht)
      fun k => handHoldExpired_withLink (respanned a f.settings none none (s.after dt)) k a

end Sys2Proof.Settled
end

section
/-! PROOFS of O35 and O36. Pulse channels: what an edge does, what an accepted pulse makes of its channel, and how a rate
ends (R3 to R7). -/

namespace Sys2Proof.Machine

open Sys2Proof

/-! ### Events of a part that is awake -/

@[simp] theorem State.after_awake (s : State) (dt : Micros) : (s.after dt).awake = s.awake := rfl

theorem whenAwake_of {s : State} (h : s.awake = true) (f : State → State) : whenAwake s f = f s :=
  if_pos h

theorem whenDue_of {t : Option Timer} {s : State} (h : s.awake = true) (hd : timerDue t s.now = true)
    (f : State → State) : whenDue t s f = f s := by
  simp [whenDue, h, hd]

/-! ### Edges (R3) -/

/-- An edge of the other polarity has no effect. -/
theorem edge_other {c : Fin 16} {rising : Bool} {s : State} (h : rising = s.kept.channels[c].falling) :
    edge c rising s = s := if_pos h

/-- An edge too soon after the last accepted edge is only counted as rejected. -/
theorem edge_rejected {c : Fin 16} {rising : Bool} {s : State} (h : rising ≠ s.kept.channels[c].falling)
    (hr : ∃ e, s.channels[c].lastEdge = some e ∧ s.now < e + 25) :
    edge c rising s = s.modChannel c fun ch => { ch with rejected := (ch.rejected + 1) % 2 ^ 32 } := by
  obtain ⟨e, he, ht⟩ := hr
  have hrejects : s.channels[c].rejects s.now = true := by
    rw [Channel.rejects, he]; exact decide_eq_true ht
  exact (if_neg h).trans (if_pos hrejects)

/-- Every other edge is accepted. -/
theorem edge_accepted {c : Fin 16} {rising : Bool} {s : State} (h : rising ≠ s.kept.channels[c].falling)
    (hs : ∀ e, s.channels[c].lastEdge = some e → e + 25 ≤ s.now) : edge c rising s = acceptPulse c s := by
  have hrejects : ¬ s.channels[c].rejects s.now = true := by
    cases he : s.channels[c].lastEdge with
    | none => simp only [Channel.rejects, he, Option.any_none]; decide
    | some e =>
      intro hr
      rw [Channel.rejects, he] at hr
      exact absurd (of_decide_eq_true hr) (Nat.not_lt.mpr (hs e he))
  exact (if_neg h).trans (if_neg hrejects)

/-! ### What an accepted pulse makes of its channel (R3 to R5) -/

/-- The channel after an accepted pulse, with the rates and the block that it then has. -/
def Channel.pulsed (ch : Channel) (k : ChannelSettings) (now rate pulseRate : Nat) (block : OpenBlock) : Channel :=
  { count := (ch.count + 1) % 2 ^ 32, rejected := ch.rejected, moving := true, rate := rate, pulseRate := pulseRate,
    block := some block, lastEdge := some now, stale := some { start := now, len := k.stale * sec } }

section
variable (ch : Channel) (k : ChannelSettings) (now : Nat)

/-- The first pulse opens a block. -/
theorem Channel.accepted_opens (h : ch.block = none) : ch.accepted k now =
    (ch.pulsed k now ch.rate ch.pulseRate { t0 := now, count := 0, last := now }, !ch.moving) := by
  simp only [Channel.accepted, h]
  rfl

/-- A pulse below the block size is counted in the open block. -/
theorem Channel.accepted_continues (b : OpenBlock) (h : ch.block = some b) (hb : b.count + 1 < k.blockSize) :
    ch.accepted k now =
      (ch.pulsed k now ch.rate ch.pulseRate { b with count := b.count + 1, last := now }, !ch.moving) := by
  simp only [Channel.accepted, h, if_neg (Nat.not_le.mpr hb)]
  rfl

/-- The pulse that reaches the block size closes the block, and the next opens there. -/
theorem Channel.accepted_closes (b : OpenBlock) (h : ch.block = some b) (hb : k.blockSize ≤ b.count + 1) :
    ch.accepted k now =
      (ch.pulsed k now ((b.count + 1) * k.scale * 60000000 / (now - b.t0)) ((b.count + 1) * 60000000 / (now - b.t0))
        { t0 := now, count := 0, last := now }, true) := by
  simp only [Channel.accepted, h, if_pos hb, Channel.closeBlock, rateOver, Nat.mul_one]
  rfl

end

/-- The owner takes an accepted pulse before the rate update that follows it. -/
theorem acceptPulse_eq {c : Fin 16} {s : State} {ch : Channel} {update : Bool}
    (h : s.channels[c].accepted s.kept.channels[c] s.now = (ch, update)) :
    acceptPulse c s =
      let k := s.kept.channels[c]
      let pulsed := ownerPulse k.role k.scale (s.modChannel c fun _ => ch)
      if update then ownerRate k.role ch.rate true pulsed else pulsed := by
  simp only [acceptPulse, h]

theorem acceptPulse_unless_moving {c : Fin 16} {s : State} {ch : Channel} {moving : Bool}
    (h : s.channels[c].accepted s.kept.channels[c] s.now = (ch, !moving)) :
    acceptPulse c s =
      let k := s.kept.channels[c]
      let pulsed := ownerPulse k.role k.scale (s.modChannel c fun _ => ch)
      if moving then pulsed else ownerRate k.role ch.rate true pulsed := by
  rw [acceptPulse_eq h]
  cases moving <;> rfl

/-! ### How a rate ends (R5, R6) -/

/-- The 60-second limit closes a block on its last counted pulse. -/
theorem limitBlock_eq {c : Fin 16} {s : State} {b : OpenBlock} (h : s.channels[c].block = some b) :
    limitBlock c s =
      let k := s.kept.channels[c]
      let rate := b.count * k.scale * 60000000 / (b.last - b.t0)
      ownerRate k.role rate true (s.modChannel c fun ch =>
        { ch with
          rate := rate, pulseRate := b.count * 60000000 / (b.last - b.t0)
          block := some { t0 := b.last, count := 0, last := b.last } }) := by
  simp only [limitBlock, h, Channel.closeBlock, rateOver, Nat.mul_one]
  rfl

theorem Channel.limitDue_of {ch : Channel} {b : OpenBlock} {now : Micros} (h : ch.block = some b) (hc : 1 ≤ b.count)
    (ht : b.t0 + 60 * sec ≤ now) : ch.limitDue now = true := by
  simp only [Channel.limitDue, h, Option.any_some, Bool.and_eq_true, decide_eq_true_eq]
  exact ⟨hc, ht⟩

end Sys2Proof.Machine

namespace Sys2Proof.Settled

open Sys2Proof Sys2Proof.Machine

/-- Settles O35: the other polarity, an edge too soon, and an accepted edge that opens, continues or closes a block. -/
theorem pulseAccepted : Obligations.PulseAccepted := by
  intro dt s c rising awake x k ch spaced pulse
  have hexec : exec (.pulseEdge dt c rising) s = .next (edge c rising x) :=
    congrArg _ (whenAwake_of (s := s.after dt) awake _)
  rw [hexec]
  refine ⟨fun other => ?_, fun selected soon => ?_, fun selected hs => ⟨fun hb => ?_, fun b hb hc => ?_, fun b hb hc => ?_⟩⟩
  · rw [edge_other (s := x) other]
  · rw [edge_rejected (s := x) selected soon]
  all_goals rw [edge_accepted (s := x) selected hs]
  · exact congrArg _ (acceptPulse_unless_moving (s := x) (ch.accepted_opens k x.now hb))
  · exact congrArg _ (acceptPulse_unless_moving (s := x) (ch.accepted_continues k x.now b hb hc))
  · exact congrArg _ (acceptPulse_eq (s := x) (ch.accepted_closes k x.now b hb hc))

/-- Settles O36: the two timers of a channel that is MOVING. -/
theorem rateEnds : Obligations.RateEnds := by
  intro dt s c awake x k
  refine ⟨fun b hb hc ht => ?_, fun due => ?_⟩
  · have hdue : (x.awake && x.channels[c].limitDue x.now) = true :=
      Bool.and_eq_true_iff.mpr ⟨awake, Channel.limitDue_of hb hc ht⟩
    exact congrArg _ ((if_pos hdue).trans (limitBlock_eq (s := x) hb))
  · exact congrArg _ (whenDue_of (s := x) awake due (goStale c))

end Sys2Proof.Settled
end

section
/-! PROOFS of O40 and O41. Analyzer inputs: what a transmitter period, silence and the end of a hold do, and what the
consumer of an input makes of its events (R9 to R15, R38, R42, R43). -/

namespace Sys2Proof.Machine

open Sys2Proof

/-! ### Changes of one input and of one cell -/

theorem State.modAnalyzer_twice (s : State) (a : Fin 5) (f g : Analyzer → Analyzer) :
    (s.modAnalyzer a f).modAnalyzer a g = s.modAnalyzer a fun k => g (f k) := by
  simp only [State.modAnalyzer, modAt_modAt]
  rfl

/-- A change of an input depends on what it makes of that input alone. -/
theorem State.modAnalyzer_congr {s : State} {a : Fin 5} {f g : Analyzer → Analyzer}
    (h : f s.analyzers[a] = g s.analyzers[a]) : s.modAnalyzer a f = s.modAnalyzer a g := by
  simp only [State.modAnalyzer, modAt, h]

theorem State.modCell_twice (s : State) (c : Fin 4) (f g : Cell → Cell) :
    (s.modCell c f).modCell c g = s.modCell c fun k => g (f k) := by
  simp only [State.modCell, modAt_modAt]
  rfl

theorem State.modAnalyzer_same (s : State) (a : Fin 5) (f : Analyzer → Analyzer) :
    (s.modAnalyzer a f).analyzers[a] = f s.analyzers[a] :=
  modAt_same s.analyzers a f

/-! ### An input that enters a fault state or LOST (R13 to R15) -/

section
variable {a : Fin 5} {s : State} (state : AnalyzerState)

/-- An input that leaves VALID under a hold time keeps its held value and starts the hold timer. -/
theorem enterFaulty_holds (hv : s.analyzers[a].state = .valid) (hh : s.kept.analyzers[a].hold ≠ 0) :
    enterFaulty a state s = latch (.analyzerFault a) (handLeftValid a (s.modAnalyzer a fun k =>
      { k with
        state := state, published := none
        hold := some { start := s.now, len := s.kept.analyzers[a].hold * sec } })) := by
  simp only [enterFaulty, if_pos hv, handLeaving, State.modAnalyzer_kept, if_neg hh, Analyzer.leaves]

/-- With a hold time of 0 "hold expired" follows "left VALID" (assumption 31). -/
theorem enterFaulty_noHold (hv : s.analyzers[a].state = .valid) (hh : s.kept.analyzers[a].hold = 0) :
    enterFaulty a state s = latch (.analyzerFault a) (handHoldExpired a (handLeftValid a (s.modAnalyzer a fun k =>
      { k with state := state, published := none, held := none, hold := none }))) := by
  simp only [enterFaulty, if_pos hv, handLeaving, State.modAnalyzer_kept, hh, if_true, Analyzer.leaves]

/-- From another state than VALID only the state moves, and its flag latches where it does. -/
theorem enterFaulty_elsewhere (hv : s.analyzers[a].state ≠ .valid) :
    enterFaulty a state s = latchIf (s.analyzers[a].state ≠ state) (.analyzerFault a)
      (s.modAnalyzer a fun k => { k with state := state }) := by
  simp only [enterFaulty, if_neg hv]

end

/-! ### Period results (R9 to R12) -/

/-- A duty inside 3 % to 97 % is a reading: 0 up to 4 %, the span from 96 % on, and in proportion between. -/
theorem decodeDuty_reading {duty : Nat} (span : Nat) (hl : 300 ≤ duty) (hh : duty ≤ 9700) :
    decodeDuty duty span =
      .reading (if duty < 400 then 0 else if duty ≤ 9600 then (duty - 400) * span / 9200 else span) := by
  rw [decodeDuty, if_neg (Nat.not_lt.mpr hl), if_pos hh]
  split
  · rfl
  · split <;> rfl

theorem decodeDuty_outside {duty : Nat} (span : Nat) (h : duty < 300 ∨ 9700 < duty) :
    decodeDuty duty span = if duty < 300 then .low else .high := by
  unfold decodeDuty
  split
  · rfl
  · rw [if_neg (by omega), if_neg (by omega), if_neg (by omega)]

/-- The input with a result appended and its watch restarted. -/
def appended (a : Fin 5) (r : PeriodResult) (s : State) : State :=
  s.modAnalyzer a fun k =>
    { k with record := appendResult k.record r, silence := some { start := s.now, len := silenceSpan } }

/-- The input with the mean of its record published and held. -/
def meanPublished (a : Fin 5) (s : State) : State :=
  s.modAnalyzer a fun k =>
    { k with
      state := .valid, published := some (meanOf s.analyzers[a].record), held := some (meanOf s.analyzers[a].record)
      hold := none }

theorem publish_valid {a : Fin 5} {s : State} (h : s.analyzers[a].state = .valid) :
    publish a s = handPublished a (meanOf s.analyzers[a].record) (meanPublished a s) := by
  simp only [publish, if_pos h, meanPublished]

theorem publish_enters {a : Fin 5} {s : State} (h : s.analyzers[a].state ≠ .valid) :
    publish a s = handPublished a (meanOf s.analyzers[a].record) (handEnteredValid a (meanPublished a s)) := by
  simp only [publish, if_neg h, meanPublished]

theorem takeResult_reading (a : Fin 5) (v : Nat) (s : State) :
    takeResult a (.reading v) s = publish a (appended a (.reading v) s) := rfl

/-- A result outside the readings is appended; the second in a row makes the input faulty. -/
theorem takeResult_outside (a : Fin 5) {r : PeriodResult} {state : AnalyzerState} (s : State)
    (h : (r = .low ∧ state = .faultLow) ∨ (r = .high ∧ state = .faultHigh)) :
    takeResult a r s =
      if s.analyzers[a].record.getLast? = some r then enterFaulty a state (appended a r s) else appended a r s := by
  rcases h with ⟨rfl, rfl⟩ | ⟨rfl, rfl⟩ <;> rfl

theorem periodResult_complete {high length span : Nat} (h : 5000 ≤ length ∧ length ≤ 2000000) :
    periodResult high length span = some (decodeDuty (high * 10000 / length) span) := if_pos h

theorem periodResult_discarded {high length span : Nat} (h : ¬(5000 ≤ length ∧ length ≤ 2000000)) :
    periodResult high length span = none := if_neg h

/-- A rising edge outside a period begins one. -/
theorem risingEdge_first {a : Fin 5} {s : State} (h : s.analyzers[a].period = none) :
    risingEdge a s = s.modAnalyzer a fun k => { k with period := some { rise := s.now, fall := none } } := by
  simp only [risingEdge, h]

theorem risingEdge_ends {a : Fin 5} {s : State} {p : Period} (h : s.analyzers[a].period = some p) :
    risingEdge a s =
      let begun := s.modAnalyzer a fun k => { k with period := some { rise := s.now, fall := none } }
      if 5000 ≤ s.now - p.rise ∧ s.now - p.rise ≤ 2000000 then
        takeResult a (decodeDuty ((p.fall.getD s.now - p.rise) * 10000 / (s.now - p.rise)) s.kept.analyzers[a].span) begun
      else begun := by
  by_cases hp : 5000 ≤ s.now - p.rise ∧ s.now - p.rise ≤ 2000000
  · simp only [risingEdge, h, periodResult_complete hp, if_pos hp]
  · simp only [risingEdge, h, periodResult_discarded hp, if_neg hp]

/-! ### The consumer of an input (R15, R36) -/

/-- A cell's input is that of its bound line. -/
theorem cellInput_iff {s : State} {c : Fin 4} {a : Fin 5} :
    s.cellInput c = some a ↔ ∃ l, s.kept.cells[c].line = some l ∧ lineAnalyzer l = a := by
  simp only [State.cellInput, Option.map_eq_some_iff]

theorem lineOfInput_lineAnalyzer (l : Fin 4) : lineOfInput (lineAnalyzer l) = some l := by
  simp [lineOfInput, lineAnalyzer]

/-- A cell bound to a line. -/
theorem cellOfLine_bound {s : State} {l c : Fin 4} (h : s.cellOfLine l = some c) :
    s.kept.cells[c].line = some l := by
  have hp := List.find?_some h
  exact of_decide_eq_true hp

theorem cellOfLine_none {s : State} {l : Fin 4} (h : s.cellOfLine l = none) (c : Fin 4) :
    s.kept.cells[c].line ≠ some l := fun hl =>
  List.find?_eq_none.mp h c (List.mem_finRange c) (decide_eq_true hl)

/-- The one cell whose input this is takes its events. -/
theorem toConsumer_cell {s : State} {a : Fin 5} {c : Fin 4} (toCell : Fin 4 → State → State)
    (toSampler : State → State) (hc : s.cellInput c = some a) (only : ∀ d : Fin 4, s.cellInput d = some a → d = c) :
    toConsumer a toCell toSampler s = toCell c s := by
  obtain ⟨l, hl, rfl⟩ := cellInput_iff.mp hc
  have hline : s.cellOfLine l = some c := by
    cases h : s.cellOfLine l with
    | none => exact absurd hl (cellOfLine_none h c)
    | some d => exact congrArg some (only d (cellInput_iff.mpr ⟨l, cellOfLine_bound h, rfl⟩))
  simp only [toConsumer, lineOfInput_lineAnalyzer, hline]

/-- An input that is no cell's hands its events to no cell. -/
theorem toConsumer_noCell {s : State} {a : Fin 5} (toCell : Fin 4 → State → State)
    (h : a = 4 ∨ ∀ c : Fin 4, s.cellInput c ≠ some a) : toConsumer a toCell id s = s := by
  unfold toConsumer
  split
  · rfl
  · next l hl =>
    have ha : lineAnalyzer l = a := by
      unfold lineOfInput at hl
      split at hl
      · cases hl; rfl
      · cases hl
    have hline : s.cellOfLine l = none := by
      cases hc : s.cellOfLine l with
      | none => rfl
      | some c =>
        rcases h with rfl | h
        · exact absurd (congrArg Fin.val ha) (Nat.ne_of_lt l.isLt)
        · exact absurd (cellInput_iff.mpr ⟨l, cellOfLine_bound hc, ha⟩) (h c)
    rw [hline]

/-! ### What the consuming cell does (R38, R42, R43) -/

section
variable {s : State} {c : Fin 4}

/-- A cell enters STANDBY: its standby target, clamped to I_max, is staged at once. -/
theorem enterStandby_eq (c : Fin 4) (s : State) :
    enterStandby c s =
      let target := min s.kept.cells[c].standby s.kept.cells[c].iMax
      s.modCell c fun k =>
        { k with
          state := .standby, target := target, limit := .noLimit
          staged := some { duty := min (target * 1024 / s.kept.cells[c].iFs) 1023, target := target } } := by
  simp only [enterStandby, stageDuty, State.modCell_twice]
  rfl

theorem cellHoldExpired_holding (h : s.cells[c].state = .holding) (hh : s.cells[c].hold = false) :
    cellHoldExpired c s =
      let target := min s.kept.cells[c].standby s.kept.cells[c].iMax
      s.modCell c fun k =>
        { k with
          view := { k.view with heldPresent := false }, state := .standby, target := target, limit := .noLimit
          staged := some { duty := min (target * 1024 / s.kept.cells[c].iFs) 1023, target := target } } := by
  have hc : (s.cells[c].state = .holding && !s.cells[c].hold) = true := by rw [h, hh]; rfl
  simp only [cellHoldExpired, if_pos hc, enterStandby_eq, State.modCell_twice]
  rfl

theorem cellHoldExpired_elsewhere (h : s.cells[c].state ≠ .holding ∨ s.cells[c].hold = true) :
    cellHoldExpired c s = s.modCell c fun k => { k with view := { k.view with heldPresent := false } } := by
  have hc : ¬(s.cells[c].state = .holding && !s.cells[c].hold) = true := by
    rw [Bool.and_eq_true, decide_eq_true_eq, Bool.not_eq_true']
    rintro ⟨hs, hh⟩
    rcases h with h | h
    · exact h hs
    · rw [hh] at h; cases h
  simp only [cellHoldExpired, if_neg hc]

theorem cellLeftValid_held (state : AnalyzerState) (h : s.cells[c].state = .regulating)
    (hh : s.cells[c].hold = false) :
    cellLeftValid c state true s =
      s.modCell c fun k => { k with view := { state := state, heldPresent := true }, state := .holding } := by
  have hc : (s.cells[c].state = .regulating && !s.cells[c].hold) = true := by rw [h, hh]; rfl
  simp only [cellLeftValid, if_pos hc, if_true, State.modCell_twice]

theorem cellLeftValid_absent (state : AnalyzerState) (h : s.cells[c].state = .regulating)
    (hh : s.cells[c].hold = false) :
    cellLeftValid c state false s =
      let target := min s.kept.cells[c].standby s.kept.cells[c].iMax
      s.modCell c fun k =>
        { k with
          view := { state := state, heldPresent := false }, state := .standby, target := target, limit := .noLimit
          staged := some { duty := min (target * 1024 / s.kept.cells[c].iFs) 1023, target := target } } := by
  have hc : (s.cells[c].state = .regulating && !s.cells[c].hold) = true := by rw [h, hh]; rfl
  simp only [cellLeftValid, if_pos hc, enterStandby_eq, State.modCell_twice]
  rfl

theorem cellLeftValid_elsewhere (state : AnalyzerState) (held : Bool)
    (h : s.cells[c].state ≠ .regulating ∨ s.cells[c].hold = true) :
    cellLeftValid c state held s =
      s.modCell c fun k => { k with view := { state := state, heldPresent := held } } := by
  have hc : ¬(s.cells[c].state = .regulating && !s.cells[c].hold) = true := by
    rw [Bool.and_eq_true, decide_eq_true_eq, Bool.not_eq_true']
    rintro ⟨hs, hh⟩
    rcases h with h | h
    · exact h hs
    · rw [hh] at h; cases h
  simp only [cellLeftValid, if_neg hc]

end

end Sys2Proof.Machine

namespace Sys2Proof.Settled

open Sys2Proof Sys2Proof.Machine

/-- Settles O40: a rising edge begins a period, and a period that completes gives a reading, or a result outside them. -/
theorem analyzerPeriods : Obligations.AnalyzerPeriods := by
  intro dt s a awake x k begun
  have hexec : exec (.analyzerRisingEdge dt a) s = .next (risingEdge a x) :=
    congrArg _ (whenAwake_of (s := x) awake _)
  rw [hexec]
  refine ⟨congrArg _ (whenAwake_of (s := x) awake _), fun hp => ?_, ?_⟩
  · rw [risingEdge_first (s := x) hp]
  intro p hp length duty span
  rw [risingEdge_ends (s := x) hp]
  refine ⟨fun h => ?_, fun hl hh => ?_, fun hl hh => ?_⟩
  · exact congrArg _ (if_neg fun ⟨hl, hh⟩ => h.elim (Nat.not_lt.mpr hl) (Nat.not_lt.mpr hh))
  all_goals rw [if_pos (show 5000 ≤ x.now - p.rise ∧ x.now - p.rise ≤ 2000000 from ⟨hl, hh⟩)]
  · intro low high value record mean published
    rw [decodeDuty_reading _ low high, takeResult_reading]
    have hrecord : (appended a (.reading value) begun).analyzers[a].record = record := by
      simp only [appended, begun, State.modAnalyzer_same]
      rfl
    have hstate : (appended a (.reading value) begun).analyzers[a].state = k.state := by
      simp only [appended, begun, State.modAnalyzer_same]
      rfl
    have hpublished : meanPublished a (appended a (.reading value) begun) = published := by
      rw [meanPublished, hrecord]
      simp only [appended, State.modAnalyzer_twice, begun, published]
      rfl
    show (k.state = .valid → Host.Outcome.next (publish a (appended a (.reading value) begun)) = _) ∧
      (k.state ≠ .valid → Host.Outcome.next (publish a (appended a (.reading value) begun)) = _)
    refine ⟨fun hv => ?_, fun hv => ?_⟩
    · rw [publish_valid (hstate.trans hv), hpublished, hrecord]
      rfl
    · rw [publish_enters (fun h => hv (hstate.symm.trans h)), hpublished, hrecord]
      rfl
  · intro outside result taken
    rw [decodeDuty_outside _ outside, takeResult_outside a (r := result)
      (state := if duty < 300 then .faultLow else .faultHigh) begun
      (by by_cases h : duty < 300 <;> simp [result, h])]
    have htaken : appended a result begun = taken := by
      simp only [appended, begun, taken, State.modAnalyzer_twice]
      rfl
    have hlast : begun.analyzers[a].record.getLast? = k.record.getLast? := by
      simp only [begun, State.modAnalyzer_same]
      rfl
    have hstate : taken.analyzers[a].state = k.state := by
      simp only [taken, begun, State.modAnalyzer_same]
      rfl
    have hheld : taken.analyzers[a].held = k.held := by
      simp only [taken, begun, State.modAnalyzer_same]
      rfl
    rw [htaken, hlast]
    refine ⟨fun hr => ?_, fun hr hv => ?_, fun hr hv => ?_⟩
    · rw [if_neg hr]
    · intro hold left
      rw [if_pos hr]
      refine ⟨fun hh => ?_, fun hh => ?_⟩
      · rw [enterFaulty_holds _ (hstate.trans hv) hh]
        simp only [left, ← hheld]
        rfl
      · rw [enterFaulty_noHold _ (hstate.trans hv) hh]
    · rw [if_pos hr, enterFaulty_elsewhere _ (fun h => hv (hstate.symm.trans h)), hstate]

/-- Settles O41: silence makes the input LOST, the end of its hold takes the held value, and the bound cell follows. -/
theorem analyzerTimers : Obligations.AnalyzerTimers := by
  refine ⟨fun dt s a awake => ?_, fun s a c hc only => ?_⟩
  · intro x k emptied
    refine ⟨fun due => ?_, fun due => ?_⟩
    · have hsilent : exec (.analyzerSilence dt a) s = .next (silent a x) :=
        congrArg _ (whenDue_of (s := x) awake due (silent a))
      have hstate : (x.modAnalyzer a fun k => { k with record := [], silence := none }).analyzers[a].state = k.state := by
        rw [State.modAnalyzer_same]; rfl
      rw [hsilent]
      refine ⟨fun hv => ⟨fun hh => ?_, fun hh => ?_⟩, fun hv => ?_⟩
      · rw [silent, enterFaulty_holds _ (hstate.trans hv) hh, State.modAnalyzer_twice]
        refine congrArg (fun t => Host.Outcome.next (latch _ (handLeftValid a t))) (State.modAnalyzer_congr ?_)
        rfl
      · rw [silent, enterFaulty_noHold _ (hstate.trans hv) hh, State.modAnalyzer_twice]
      · have hne : k.state ≠ .valid ∧ k.state ≠ .lost := by
          rcases hv with h | h | h <;> rw [h] <;> decide
        rw [silent, enterFaulty_elsewhere _ (fun h => hne.1 (hstate.symm.trans h)), hstate, State.modAnalyzer_twice,
          latchIf, if_pos (decide_eq_true hne.2)]
    · intro absent
      have hend : exec (.analyzerHoldExpired dt a) s = .next (handHoldExpired a absent) :=
        congrArg _ (whenDue_of (s := x) awake due (holdRunsOut a))
      rw [hend]
      refine ⟨fun h => ?_, fun c hc only => ⟨fun hs hh => ?_, fun h => ?_⟩⟩
      · rw [handHoldExpired, toConsumer_noCell (s := absent) _ h]
      all_goals rw [handHoldExpired, toConsumer_cell (s := absent) _ _ hc only]
      · exact congrArg _ (cellHoldExpired_holding (s := absent) hs hh)
      · exact congrArg _ (cellHoldExpired_elsewhere (s := absent) h)
  · intro view target
    have left : handLeftValid a s = cellLeftValid c s.analyzers[a].state s.analyzers[a].held.isSome s :=
      toConsumer_cell _ _ hc only
    have ended : handHoldExpired a s = cellHoldExpired c s := toConsumer_cell _ _ hc only
    refine ⟨fun h hh held => ?_, fun h hh held => ?_, fun h => ?_, fun h hh => ?_, fun h => ?_⟩
    · rw [left, held, cellLeftValid_held _ h hh, ← held]
    · have hview : view = { state := s.analyzers[a].state, heldPresent := false } := by simp only [view, held]; rfl
      rw [left, held, hview]
      exact cellLeftValid_absent _ h hh
    · rw [left, cellLeftValid_elsewhere _ _ h]
    · rw [ended, cellHoldExpired_holding h hh]
    · rw [ended, cellHoldExpired_elsewhere h]

end Sys2Proof.Settled
end

section
/-! PROOF of O57. What a reset loses, and the beginning of a start-up (R173, R187, R189). -/

namespace Sys2Proof.Machine

open Sys2Proof

/-! ### Entries of equal things -/

@[simp] theorem Vector.replicate_fin {α : Type} {n : Nat} (x : α) (i : Fin n) : (Vector.replicate n x)[i] = x := by
  simp

@[simp] theorem Vector.map_fin {α β : Type} {n : Nat} (f : α → β) (v : Vector α n) (i : Fin n) :
    (v.map f)[i] = f v[i] := by
  simp

/-! ### What a reset leaves -/

theorem lost_latched (s : State) (f : Flag) : (lost s).latched f = false := by
  have h : (Vector.replicate 28 FlagRecord.clear)[f.index].latched = false := by rw [Vector.replicate_fin]; rfl
  exact h

theorem lost_cell (s : State) (c : Fin 4) : (lost s).cells[c] = Cell.atStart (CellSettings.default 0) 0 :=
  Vector.replicate_fin _ c

/-- A cell that applies no duty does not drive. -/
theorem driveHigh_undriven {s : State} {c : Fin 4} (h : s.cells[c].appliedDuty = 0) : s.driveHigh c = false := by
  have honTime : s.cells[c].onTime = 0 := by rw [Cell.onTime, h, Nat.zero_mul, Nat.zero_div]
  rw [State.driveHigh, honTime]
  exact decide_eq_false (Nat.not_lt_zero _)

theorem lost_switch (s : State) (i : Fin 12) :
    (lost s).switches[i] = { pin := s.switches[i].pin, accepted := none, debounce := none } :=
  Vector.map_fin _ _ i

/-- The start-up that follows a reset, at its own clock, phase and bit rate. -/
def Restarted (s : State) (now : Micros) (phase : Phase) (bitRate : Nat) : State :=
  { lost s with now := now, phase := phase, link := Link.atStart bitRate }

theorem lost_eq_restarted (s : State) : lost s = Restarted s s.now .held s.link.bitRate := rfl

/-- Below 3.0 V the part is held in reset. -/
theorem supplyAt_low {level : Nat} (s : State) (h : level < 300) :
    supplyAt level s = lost { s with supply := { s.supply with level := level } } := if_pos h

/-- A start-up that the RESET pin or the supply still holds is none yet. -/
theorem beginStartUp_held {s : State} (sel1 sel0 : Bool) (h : s.resetLow = true ∨ s.supply.level < 300) :
    beginStartUp sel1 sel0 s = lost s := by
  have hc : ((lost s).resetLow || (lost s).supply.level < resetLevel) = true :=
    Bool.or_eq_true_iff.mpr (h.imp_right decide_eq_true)
  simp only [beginStartUp, if_pos hc]

/-- Otherwise the self-test begins, with its clock at 0 and the bit rate of the straps. -/
theorem beginStartUp_begins {s : State} (sel1 sel0 : Bool) (hr : s.resetLow = false) (hl : 300 ≤ s.supply.level) :
    beginStartUp sel1 sel0 s = Restarted s 0 .selfTest (bitRateOf sel1 sel0) := by
  have hc : ¬((lost s).resetLow || (lost s).supply.level < resetLevel) = true := by
    rw [Bool.or_eq_true]
    rintro (h | h)
    · exact Bool.false_ne_true (hr.symm.trans h)
    · exact absurd (of_decide_eq_true h) (Nat.not_lt.mpr hl)
  simp only [beginStartUp, if_neg hc]
  rfl

end Sys2Proof.Machine

namespace Sys2Proof.Settled

open Sys2Proof Sys2Proof.Machine

/-- Settles O57: a reset and the start-up after it leave the same fields, and differ in clock, phase and bit rate. -/
theorem partHeldAndStarted : Obligations.PartHeldAndStarted := by
  intro dt s level sel1 sel0 rate cleared
  have hcleared (x : State) (now : Micros) (phase : Phase) (bits : Nat) (himage : x.store.image = s.store.image)
      (hpins : x.switches = s.switches) (hpending : x.pending = s.pending) :
      cleared phase (Restarted x now phase bits) := by
    refine ⟨rfl, congrArg (fun i => { image := i, inFlight := none, waiting := none : Store }) himage, rfl, rfl, rfl, rfl,
      rfl, rfl, rfl, rfl, rfl, lost_latched x, fun c => ⟨?_, ?_⟩, fun i => ?_, hpending⟩
    · exact congrArg Cell.state (lost_cell x c)
    · exact driveHigh_undriven (congrArg Cell.appliedDuty (lost_cell x c))
    · rw [← hpins]
      exact lost_switch x i
  have hrate : bitRateOf sel1 sel0 = rate := rfl
  refine ⟨⟨_, rfl, hcleared _ _ _ _ rfl rfl rfl, rfl, rfl⟩, fun low => ⟨_, congrArg Host.Outcome.next (supplyAt_low (s.after dt) low), ?_⟩,
    ⟨_, rfl, hcleared _ _ _ _ rfl rfl rfl, rfl, rfl⟩, ?_, ?_⟩
  · exact hcleared _ _ _ _ rfl rfl rfl
  · by_cases h : s.supply.level < 300
    · have hb := beginStartUp_held (s := { s.after dt with resetLow := false }) sel1 sel0 (.inr h)
      exact ⟨_, congrArg Host.Outcome.next hb, rfl, by rw [if_pos h]; exact hcleared _ _ _ _ rfl rfl rfl,
        fun h' => absurd h (Nat.not_lt.mpr h')⟩
    · have hb := beginStartUp_begins (s := { s.after dt with resetLow := false }) sel1 sel0 rfl (Nat.not_lt.mp h)
      exact ⟨_, congrArg Host.Outcome.next hb, rfl, by rw [if_neg h]; exact hcleared _ _ _ _ rfl rfl rfl, fun _ => ⟨hrate, rfl⟩⟩
  · by_cases h : s.resetLow = true ∨ level < 300
    · have hb := beginStartUp_held (s := { s.after dt with supply := { s.supply with level := level } }) sel1 sel0 h
      exact ⟨_, congrArg Host.Outcome.next hb, rfl, by rw [if_pos h]; exact hcleared _ _ _ _ rfl rfl rfl,
        fun hr hl => absurd h (by rw [hr]; simpa using hl)⟩
    · obtain ⟨hr, hl⟩ := not_or.mp h
      have hb := beginStartUp_begins (s := { s.after dt with supply := { s.supply with level := level } }) sel1 sel0
        (Bool.not_eq_true _ ▸ hr) (Nat.not_lt.mp hl)
      exact ⟨_, congrArg Host.Outcome.next hb, rfl, by rw [if_neg h]; exact hcleared _ _ _ _ rfl rfl rfl, fun _ _ => ⟨hrate, rfl⟩⟩

end Sys2Proof.Settled
end

section
/-! SUPPORT. The fields that the actions of tanks, lots, cells, wash loops and the arbiter leave as they are: the inputs
with their switches, time, the supply and start-up results, the plant-wide settings, and the marks that a supply hold and
the starting levels set. One lemma for each action, in the order of the model's files. -/

namespace Sys2Proof.Machine

open Sys2Proof

/-- The fields of the state that those actions only read. -/
structure Fixed where
  now : Micros
  choices : Nat
  phase : Phase
  resetLow : Bool
  supply : Supply
  startUp : StartUp
  channels : Vector Channel 16
  analyzers : Vector Analyzer 5
  switches : Vector SwitchInput 12
  lines : Vector LineUnit 4
  clock : Clock
  pending : List Instr
  plant : PlantSettings
  stamp : Stamp
  levelsTaken : Bool
  sumpHold : Bool
  pathStarted : Bool

def State.fixed (s : State) : Fixed :=
  { now := s.now, choices := s.choices, phase := s.phase, resetLow := s.resetLow, supply := s.supply,
    startUp := s.startUp, channels := s.channels, analyzers := s.analyzers, switches := s.switches, lines := s.lines,
    clock := s.clock, pending := s.pending, plant := s.kept.plant, stamp := s.stamp, levelsTaken := s.sump.levelsTaken,
    sumpHold := s.sump.hold, pathStarted := s.path.started }

section
variable {s t : State} (h : s.fixed = t.fixed)
include h

theorem now_of_fixed : s.now = t.now := congrArg Fixed.now h
theorem switches_of_fixed : s.switches = t.switches := congrArg Fixed.switches h
theorem plant_of_fixed : s.kept.plant = t.kept.plant := congrArg Fixed.plant h
theorem stamp_of_fixed : s.stamp = t.stamp := congrArg Fixed.stamp h
theorem sumpHold_of_fixed : s.sump.hold = t.sump.hold := congrArg Fixed.sumpHold h

theorem covered_of_fixed (w : Switch) : s.covered w = t.covered w := by
  simp only [State.covered, switches_of_fixed h]

theorem switchesDisagree_of_fixed (u : Fin 3) : s.switchesDisagree u = t.switchesDisagree u := by
  simp only [State.switchesDisagree, covered_of_fixed h]

theorem backupStarted_of_fixed : s.backupStarted = t.backupStarted := by
  simp only [State.backupStarted, State.timer, now_of_fixed h, plant_of_fixed h]

end

section
variable (s : State)

/-! ### Named updates -/

@[simp] theorem modLoop_fixed (i : Fin 4) (f : WashLoop → WashLoop) : (s.modLoop i f).fixed = s.fixed := rfl
@[simp] theorem modCell_fixed (i : Fin 4) (f : Cell → Cell) : (s.modCell i f).fixed = s.fixed := rfl
@[simp] theorem modTimers_fixed (i : Fin 3) (f : TankTimers → TankTimers) : (s.modTimers i f).fixed = s.fixed := rfl
@[simp] theorem modFlag_fixed (i : Fin 28) (f : FlagRecord → FlagRecord) : (s.modFlag i f).fixed = s.fixed := rfl
@[simp] theorem modTank_fixed (i : Fin 3) (f : Tank → Tank) : (s.modTank i f).fixed = s.fixed := rfl
@[simp] theorem modLot_fixed (i : Fin 3) (f : Lot → Lot) : (s.modLot i f).fixed = s.fixed := rfl

/-! ### Flags, notices and writes -/

@[simp] theorem handNotice_fixed (key : Fin 33) (content : NoticeContent) :
    (handNotice key content s).fixed = s.fixed := by
  rw [handNotice_eq]; rfl

@[simp] theorem latch_fixed (f : Flag) : (latch f s).fixed = s.fixed := by
  rw [latch_eq]; rfl

@[simp] theorem clearByPart_fixed (f : Flag) : (clearByPart f s).fixed = s.fixed := by
  rw [clearByPart_eq]; rfl

@[simp] theorem orderWrite_fixed (kind : WriteKind) : (orderWrite kind s).fixed = s.fixed := by
  have h := congrArg State.fixed (orderWrite_store kind s)
  exact h

/-! ### Cells -/

@[simp] theorem cellFaulted_fixed (c : Fin 4) (reason : CellFault) : (cellFaulted c reason s).fixed = s.fixed := by
  simp [cellFaulted]

@[simp] theorem finishTick_fixed (c : Fin 4) (n : Nat) : (finishTick c n s).fixed = s.fixed := rfl

@[simp] theorem cellTick_fixed (c : Fin 4) : (cellTick c s).fixed = s.fixed := by
  unfold cellTick
  split
  · simp
  · split <;> simp
  · simp
  · simp

@[simp] theorem tickAndRestart_fixed (c : Fin 4) : (tickAndRestart c s).fixed = s.fixed := by
  simp [tickAndRestart]

@[simp] theorem testPrimed_fixed (c : Fin 4) : (testPrimed c s).fixed = s.fixed := by
  unfold testPrimed
  dsimp only
  split <;> simp

@[simp] theorem cellFlowChange_fixed (c : Fin 4) (covered : Bool) : (cellFlowChange c covered s).fixed = s.fixed := by
  unfold cellFlowChange
  dsimp only
  split <;> simp

@[simp] theorem startingFlow_fixed (c : Fin 4) : (startingFlow c s).fixed = s.fixed := by
  simp [startingFlow]

/-! ### Wash loops -/

@[simp] theorem backupAt_fixed (b : Bool) (l : Fin 4) : (backupAt b l s).fixed = s.fixed := by
  unfold backupAt
  dsimp only
  split
  · exact modLoop_fixed _ _ _
  · simp

end

/-- A fold of actions keeps what each of them keeps. -/
theorem foldl_keeps {σ α β : Type} (act : σ → α → σ) (read : σ → β) (h : ∀ s a, read (act s a) = read s) (l : List α)
    (s : σ) : read (l.foldl act s) = read s := by
  induction l generalizing s with
  | nil => rfl
  | cons a l ih => rw [List.foldl_cons, ih, h]

section
variable (s : State)

@[simp] theorem backupEvent_fixed (b : Bool) : (backupEvent b s).fixed = s.fixed :=
  foldl_keeps _ State.fixed (fun s l => backupAt_fixed s b l) _ s

/-! ### Lots, the Sampler and the pump -/

@[simp] theorem handLotEvent_fixed (kind : LotEventKind) (t : Fin 3) (l : Lot) (d : Option Disposition) :
    (handLotEvent kind t l d s).fixed = s.fixed := handNotice_fixed _ _ _

@[simp] theorem lotEvent_fixed (kind : LotEventKind) (t : Fin 3) : (lotEvent kind t s).fixed = s.fixed := by
  unfold lotEvent; split <;> simp

@[simp] theorem dropFromLists_fixed (n : Nat) : (dropFromLists n s).fixed = s.fixed := rfl

@[simp] theorem enterHeld_fixed (t : Fin 3) (reason : HoldReason) : (enterHeld t reason s).fixed = s.fixed := by
  simp [enterHeld]

@[simp] theorem enterSampleWait_fixed (t : Fin 3) : (enterSampleWait t s).fixed = s.fixed := by
  unfold enterSampleWait; split <;> rfl

@[simp] theorem enterQueueHead_fixed (t : Fin 3) : (enterQueueHead t s).fixed = s.fixed := by
  unfold enterQueueHead; split <;> rfl

@[simp] theorem enterPolishWait_fixed (t : Fin 3) : (enterPolishWait t s).fixed = s.fixed := by
  unfold enterPolishWait; split <;> rfl

@[simp] theorem samplerTest_fixed : (samplerTest s).fixed = s.fixed := by
  unfold samplerTest
  split
  · split
    · rfl
    · split <;> rfl
  · rfl

@[simp] theorem samplerEnd_fixed : (samplerEnd s).fixed = s.fixed := rfl

@[simp] theorem startPump_fixed : (startPump s).fixed = s.fixed := by
  unfold startPump
  dsimp only
  split
  · exact (backupEvent_fixed _ _).trans rfl
  · rfl

@[simp] theorem stopPump_fixed : (stopPump s).fixed = s.fixed := rfl

@[simp] theorem pumpJudge_fixed : (pumpJudge s).fixed = s.fixed := by
  unfold pumpJudge
  split
  · simp
  · split <;> simp

@[simp] theorem openLot_fixed (t : Fin 3) : (openLot t s).fixed = s.fixed :=
  pumpJudge_fixed _

@[simp] theorem enterSettling_fixed (t : Fin 3) : (enterSettling t s).fixed = s.fixed := by
  unfold enterSettling
  split
  · rfl
  · dsimp only; split <;> simp

@[simp] theorem closeFill_fixed (t : Fin 3) : (closeFill t s).fixed = s.fixed := rfl

@[simp] theorem closeSteps_fixed (t : Fin 3) (byHigh : Bool) : (closeSteps t byHigh s).fixed = s.fixed := by
  simp [closeSteps]

@[simp] theorem fillTurns_fixed (k : Nat) : (fillTurns k s).fixed = s.fixed := by
  induction k generalizing s with
  | zero => rfl
  | succ k ih =>
    unfold fillTurns
    split
    · rfl
    · split
      · rfl
      · dsimp only; split <;> simp [ih]

@[simp] theorem fillSelection_fixed : (fillSelection s).fixed = s.fixed := fillTurns_fixed _ _

@[simp] theorem closeLot_fixed (t : Fin 3) (byHigh : Bool) : (closeLot t byHigh s).fixed = s.fixed := by
  simp [closeLot]

@[simp] theorem leaveTable_fixed (t : Fin 3) (d : Disposition) (hauled : Nat) (unknown : Bool) :
    (leaveTable t d hauled unknown s).fixed = s.fixed := by
  unfold leaveTable
  split
  · rfl
  · exact (handLotEvent_fixed _ _ _ _ _).trans rfl

/-! ### Drains of the Outlet Path -/

@[simp] theorem handBackReturned_fixed (t : Fin 3) : (handBackReturned t s).fixed = s.fixed := by
  simp [handBackReturned]

@[simp] theorem handBackDrained_fixed (t : Fin 3) : (handBackDrained t s).fixed = s.fixed := by
  simp [handBackDrained]

@[simp] theorem handBackHeld_fixed (reason : HoldReason) (t : Fin 3) : (handBackHeld reason t s).fixed = s.fixed := by
  simp [handBackHeld]

/-- A stop leaves the fixed fields when its handing back does. -/
theorem stopDrain_fixed (cause : StopCause) (how : Fin 3 → State → State) (h : ∀ t s, (how t s).fixed = s.fixed) :
    (stopDrain cause how s).fixed = s.fixed := by
  have hback (x : State) : (handBack how x).fixed = x.fixed := by
    unfold handBack; split
    · rfl
    · exact h _ _
  have hpath (x : State) (f : Path → Path) (hf : (f x.path).started = x.path.started) :
      (x.modPath f).fixed = x.fixed := by
    unfold State.fixed
    rw [State.modPath_path, hf]
    rfl
  unfold stopDrain
  dsimp only
  rw [hpath _ _ rfl]
  split
  · rw [orderWrite_fixed, hback, hpath _ _ rfl]
  · rw [hback, hpath _ _ rfl]

@[simp] theorem interruptDischarge_fixed (cause : StopCause) : (interruptDischarge cause s).fixed = s.fixed := by
  unfold interruptDischarge
  split
  · exact stopDrain_fixed _ _ _ fun t s => handBackReturned_fixed s t
  · rfl

@[simp] theorem stopHeld_fixed (cause : StopCause) (reason : HoldReason) :
    (stopHeld cause reason s).fixed = s.fixed := by
  unfold stopHeld
  split
  · exact stopDrain_fixed _ _ _ fun t s => handBackHeld_fixed s reason t
  · rfl

@[simp] theorem runDry_fixed : (runDry s).fixed = s.fixed := by
  unfold runDry
  split
  · rfl
  · rw [stopDrain_fixed _ _ _ fun t s => handBackDrained_fixed s t]; rfl

@[simp] theorem drainLowLost_fixed : (drainLowLost s).fixed = s.fixed := by
  unfold drainLowLost
  split
  · simp
  · exact stopDrain_fixed _ _ _ fun t s => handBackHeld_fixed s .levelLost t
  all_goals rfl

/-! ### Tank Control -/

@[simp] theorem stopFilling_fixed (t : Fin 3) (reason : HoldReason) : (stopFilling t reason s).fixed = s.fixed := by
  simp [stopFilling]

@[simp] theorem stopLot_fixed (t : Fin 3) (cause : StopCause) (reason : HoldReason) :
    (stopLot t cause reason s).fixed = s.fixed := by
  unfold stopLot
  split
  · rfl
  · split <;> simp

@[simp] theorem switchFaultTest_fixed (t : Fin 3) : (switchFaultTest t s).fixed = s.fixed := by
  unfold switchFaultTest
  split
  · split <;> simp
  · rfl

@[simp] theorem lowLost_fixed (t : Fin 3) : (lowLost t s).fixed = s.fixed := by
  unfold lowLost
  split
  · split
    · rfl
    · split <;> simp
  all_goals simp

@[simp] theorem tankLowChange_fixed (t : Fin 3) (covered : Bool) : (tankLowChange t covered s).fixed = s.fixed := by
  unfold tankLowChange
  dsimp only
  split <;> simp

@[simp] theorem tankHighChange_fixed (t : Fin 3) (covered : Bool) : (tankHighChange t covered s).fixed = s.fixed := by
  unfold tankHighChange
  dsimp only
  split <;> simp

@[simp] theorem sumpHighChange_fixed (covered : Bool) : (sumpHighChange covered s).fixed = s.fixed := by
  unfold sumpHighChange
  split <;> exact (pumpJudge_fixed _).trans rfl

@[simp] theorem makeUnknown_fixed (t : Fin 3) : (makeUnknown t s).fixed = s.fixed := by
  unfold makeUnknown
  split
  · dsimp only
    rw [latch_fixed, lotEvent_fixed]; rfl
  · rfl

@[simp] theorem startSump_fixed : (startSump s).fixed = s.fixed := by
  unfold startSump; split <;> rfl

@[simp] theorem startFilling_fixed : (startFilling s).fixed = s.fixed := by
  unfold startFilling
  split
  · rfl
  · split <;> simp

end

theorem eachTank_fixed (f : Fin 3 → State → State) (h : ∀ t s, (f t s).fixed = s.fixed) (s : State) :
    (eachTank f s).fixed = s.fixed :=
  foldl_keeps _ State.fixed (fun s t => h t s) _ s

/-- Taking the starting levels sets the mark that they are taken. -/
theorem takeLevels_fixed (s : State) : (takeLevels s).fixed = { s.fixed with levelsTaken := true } := by
  have hjudged (x : State) : (startFilling (startSump (eachTank switchFaultTest x))).fixed = x.fixed := by
    rw [startFilling_fixed, startSump_fixed, eachTank_fixed _ fun t s => switchFaultTest_fixed s t]
  unfold takeLevels
  dsimp only
  rw [samplerTest_fixed, pumpJudge_fixed, fillSelection_fixed]
  split
  · rw [hjudged]; rfl
  · rw [eachTank_fixed _ fun t s => makeUnknown_fixed s t, hjudged]; rfl

end Sys2Proof.Machine
end

section
/-! PROOF of O42. Switch pins and their debounce, and the sump: the transfer pump, the call mark, and the backup event that
restricts the wash loops (R17, R68, R76, R78). -/

namespace Sys2Proof.Machine

open Sys2Proof

/-! ### Entries -/

theorem modAt_id {α : Type} {n : Nat} (v : Vector α n) (i : Fin n) {f : α → α} (h : f v[i] = v[i]) :
    modAt v i f = v := by
  rw [modAt, h]
  exact Vector.set_getElem_self i.isLt

/-- Folding actions over all indices acts on each entry once, where an action on one entry leaves the others and what
the actions read of the rest. -/
theorem foldl_entry {σ α γ : Type} {n : Nat} (act : σ → Fin n → σ) (entry : σ → Fin n → α) (read : σ → γ)
    (new : Fin n → γ → α → α) (hread : ∀ s i, read (act s i) = read s)
    (hsame : ∀ s i, entry (act s i) i = new i (read s) (entry s i))
    (hother : ∀ s i j, j ≠ i → entry (act s i) j = entry s j) (s : σ) (j : Fin n) :
    entry ((List.finRange n).foldl act s) j = new j (read s) (entry s j) := by
  have key (l : List (Fin n)) (hl : l.Nodup) (s : σ) :
      entry (l.foldl act s) j = if j ∈ l then new j (read s) (entry s j) else entry s j := by
    induction l generalizing s with
    | nil => rfl
    | cons i l ih =>
      obtain ⟨hi, hl⟩ := List.nodup_cons.mp hl
      rw [List.foldl_cons, ih hl, hread]
      by_cases hj : j = i
      · subst hj
        rw [if_neg hi, if_pos List.mem_cons_self, hsame]
      · simp only [List.mem_cons, hj, false_or, hother s i j hj]
  rw [key _ (List.nodup_finRange n), if_pos (List.mem_finRange j)]

/-! ### Latched flags -/

theorem latch_latched (f : Flag) (s : State) : (latch f s).latched f = true := by
  by_cases h : s.latched f = true
  · rw [latch_of_latched s f h, h]
  · rw [State.latched, latch_flags, if_neg h, modAt_same]

/-- A latching clears no flag. -/
theorem latch_keeps_latched (f : Flag) {g : Flag} {s : State} (h : s.latched g = true) :
    (latch f s).latched g = true := by
  rw [State.latched, latch_flags]
  split
  · exact h
  · rw [modAt_get]
    split
    · rfl
    · exact h

/-! ### Pins and debounce (R17) -/

theorem State.modSwitch_congr {s : State} {i : Fin 12} {f g : SwitchInput → SwitchInput}
    (h : f s.switches[i] = g s.switches[i]) : s.modSwitch i f = s.modSwitch i g := by
  simp only [State.modSwitch, modAt, h]

section
variable {w : Switch} {level : Bool} {s : State}

theorem pinLevel_same (h : s.switches[switchIndex w].pin = level) : pinLevel w level s = s := by
  have hk : modAt s.switches (switchIndex w) (·.take level (s.timer (s.kept.plant.debounce * ms))) = s.switches :=
    modAt_id _ _ (if_pos h)
  rw [pinLevel, State.modSwitch, hk]

variable (h : s.switches[switchIndex w].pin ≠ level)
include h

/-- Before the starting levels there is no accepted level to move away from. -/
theorem pinLevel_unsampled (ha : s.switches[switchIndex w].accepted = none) :
    pinLevel w level s = s.modSwitch (switchIndex w) fun k => { k with pin := level } :=
  State.modSwitch_congr (by simp only [SwitchInput.take, if_neg h, ha])

theorem pinLevel_returns (ha : s.switches[switchIndex w].accepted = some level) :
    pinLevel w level s = s.modSwitch (switchIndex w) fun k => { k with pin := level, debounce := none } :=
  State.modSwitch_congr (by simp only [SwitchInput.take, if_neg h, ha, if_true])

theorem pinLevel_leaves (ha : s.switches[switchIndex w].accepted = some (!level)) :
    pinLevel w level s = s.modSwitch (switchIndex w) fun k =>
      { k with pin := level, debounce := some { start := s.now, len := s.kept.plant.debounce * ms } } := by
  have hne : ¬ level = !level := by cases level <;> decide
  exact State.modSwitch_congr (by simp only [SwitchInput.take, if_neg h, ha, if_neg hne]; rfl)

end

/-- The state with the pin's level accepted. -/
def accept (w : Switch) (s : State) : State :=
  s.modSwitch (switchIndex w) fun k => { k with accepted := some k.pin, debounce := none }

theorem debounced_eq (w : Switch) (s : State) :
    debounced w s = switchChange w s.switches[switchIndex w].pin (accept w s) := rfl

theorem switchChange_fixed (w : Switch) (covered : Bool) (s : State) : (switchChange w covered s).fixed = s.fixed := by
  cases w <;> simp [switchChange]

theorem accept_covered_same (w : Switch) (s : State) : (accept w s).covered w = s.switches[switchIndex w].pin := by
  have h : (accept w s).switches[switchIndex w] = _ := modAt_same _ _ _
  rw [State.covered, h]
  rfl

theorem accept_covered_other {w v : Switch} (s : State) (h : switchIndex w ≠ switchIndex v) :
    (accept w s).covered v = s.covered v := by
  have hk : (accept w s).switches[switchIndex v] = s.switches[switchIndex v] := modAt_other _ _ _ _ h
  rw [State.covered, hk]
  rfl

/-! ### The backup event (R68) -/

/-- What the backup event makes of a loop whose line has these settings and whose film asks for this flow: a RUNNING loop
computes its target afresh. -/
def WashLoop.onBackup (restricted : Bool) (line : LineSettings) (flow : Nat) (k : WashLoop) : WashLoop :=
  if k.state = .running then
    let target := if restricted then min flow line.trickle else flow
    { k with
      backup := restricted, target := some target
      staged := if k.hold then none else some (openFraction target line.ratedFlow) }
  else { k with backup := restricted }

theorem State.modLoop_twice (s : State) (l : Fin 4) (f g : WashLoop → WashLoop) :
    (s.modLoop l f).modLoop l g = s.modLoop l fun k => g (f k) := by
  simp only [State.modLoop, modAt_modAt]
  rfl

theorem State.modLoop_congr {s : State} {l : Fin 4} {f g : WashLoop → WashLoop}
    (h : f s.loops[l] = g s.loops[l]) : s.modLoop l f = s.modLoop l g := by
  simp only [State.modLoop, modAt, h]

theorem backupAt_eq (restricted : Bool) (l : Fin 4) (s : State) :
    backupAt restricted l s = s.modLoop l (·.onBackup restricted s.kept.lines[l] (s.filmFlow l)) := by
  let marked := s.modLoop l fun k => { k with backup := restricted }
  have hmark : marked.loops[l] = { s.loops[l] with backup := restricted } := modAt_same _ _ _
  by_cases h : s.loops[l].state = .running
  · have htarget : marked.washTarget l =
        some (if restricted then min (s.filmFlow l) s.kept.lines[l].trickle else s.filmFlow l) := by
      rw [State.washTarget, hmark]
      dsimp only
      rw [h]
      rfl
    have hat : backupAt restricted l s = retarget l marked := if_pos h
    rw [hat, retarget, htarget, State.modLoop_twice]
    refine State.modLoop_congr ?_
    rw [WashLoop.onBackup, if_pos h]
    rfl
  · have hat : backupAt restricted l s = marked := if_neg h
    rw [hat]
    refine State.modLoop_congr ?_
    rw [WashLoop.onBackup, if_neg h]

/-- The backup event changes the wash loops alone. -/
theorem backupEvent_keeps {β : Type} (read : State → β) (h : ∀ u l f, read (State.modLoop u l f) = read u)
    (restricted : Bool) (s : State) : read (backupEvent restricted s) = read s :=
  foldl_keeps (fun u l => backupAt restricted l u) read (fun u l => by rw [backupAt_eq, h]) (List.finRange 4) s

@[simp] theorem backupEvent_kept (restricted : Bool) (s : State) : (backupEvent restricted s).kept = s.kept :=
  backupEvent_keeps State.kept (fun _ _ _ => rfl) restricted s

@[simp] theorem backupEvent_sump (restricted : Bool) (s : State) : (backupEvent restricted s).sump = s.sump :=
  backupEvent_keeps State.sump (fun _ _ _ => rfl) restricted s

@[simp] theorem backupEvent_flags (restricted : Bool) (s : State) : (backupEvent restricted s).flags = s.flags :=
  backupEvent_keeps State.flags (fun _ _ _ => rfl) restricted s

theorem backupEvent_loop (restricted : Bool) (s : State) (l : Fin 4) :
    (backupEvent restricted s).loops[l] = s.loops[l].onBackup restricted s.kept.lines[l] (s.filmFlow l) := by
  refine foldl_entry (fun s l => backupAt restricted l s) (fun s l => s.loops[l])
    (fun s => (s.kept.lines, s.filmFlow)) (fun l r k => k.onBackup restricted r.1[l] (r.2 l)) ?_ ?_ ?_ s l
  · intro s i
    rw [backupAt_eq]; rfl
  · intro s i
    rw [backupAt_eq]; exact modAt_same _ _ _
  · intro s i j hj
    rw [backupAt_eq]; exact modAt_other _ _ _ _ (Ne.symm hj)

theorem WashLoop.onBackup_frame (restricted : Bool) (line : LineSettings) (flow : Nat) (k : WashLoop) :
    (k.onBackup restricted line flow).backup = restricted ∧ (k.onBackup restricted line flow).state = k.state ∧
      (k.onBackup restricted line flow).applied = k.applied := by
  unfold WashLoop.onBackup
  split <;> exact ⟨rfl, rfl, rfl⟩

theorem WashLoop.onBackup_target (restricted : Bool) (line : LineSettings) (flow : Nat) {k : WashLoop}
    (h : k.state = .running) :
    (k.onBackup restricted line flow).target = some (if restricted then min flow line.trickle else flow) := by
  rw [WashLoop.onBackup, if_pos h]

/-! ### The transfer pump (R76, R78) -/

theorem startPump_sump (s : State) :
    (startPump s).sump = { s.sump with pump := true, backupTimer := none, backup := false } := by
  unfold startPump
  dsimp only
  split
  · simp only [backupEvent_sump]
  · rfl

theorem startPump_kept (s : State) : (startPump s).kept = s.kept := by
  unfold startPump
  dsimp only
  split
  · simp only [backupEvent_kept]
  · rfl

theorem startPump_loops {s : State} (h : s.sump.backup = false) : (startPump s).loops = s.loops := by
  simp [startPump, h]

theorem startPump_restores {s : State} (h : s.sump.backup = true) (l : Fin 4) :
    (startPump s).loops[l] = s.loops[l].onBackup false s.kept.lines[l] (s.filmFlow l) := by
  simp only [startPump, h, if_true]
  exact backupEvent_loop false { s with sump := _ } l

theorem pumpJudge_starts {s : State} (hw : s.pumpWanted = true) (hp : s.sump.pump = false) :
    pumpJudge s = startPump s := by
  simp [pumpJudge, hw, hp]

theorem pumpJudge_stops {s : State} (hw : s.pumpWanted = false) (hp : s.sump.pump = true) :
    pumpJudge s = stopPump s := by
  simp [pumpJudge, hw, hp]

theorem pumpJudge_stays {s : State} (h : s.pumpWanted = s.sump.pump) : pumpJudge s = s := by
  unfold pumpJudge
  rw [h]
  cases s.sump.pump <;> rfl

/-- With the four conditions met the pump is wanted. -/
theorem pumpWanted_of {s : State} (hf : s.fillingTank.isSome = true) (hc : s.sump.callMark = true)
    (hl : s.covered .sumpLow = true) (hh : s.sump.hold = false) : s.pumpWanted = true := by
  simp [State.pumpWanted, hf, hc, hl, hh]

theorem pumpWanted_noTank {s : State} (h : s.fillingTank = none) : s.pumpWanted = false := by
  simp [State.pumpWanted, h]

theorem pumpWanted_dry {s : State} (h : s.covered .sumpLow = false) : s.pumpWanted = false := by
  simp [State.pumpWanted, h]

/-- What the start of the pump makes of the loops: none changes without a backup, and a backup that stood ends. -/
theorem startPump_frees {s y : State} (hkept : y.kept = s.kept) (hloops : y.loops = s.loops) (hlines : y.lines = s.lines)
    (hbackup : y.sump.backup = s.sump.backup) :
    (startPump y).kept = s.kept ∧ (s.sump.backup = false → (startPump y).loops = s.loops) ∧
      (s.sump.backup = true → ∀ l : Fin 4,
        (startPump y).loops[l] = s.loops[l].onBackup false s.kept.lines[l] (s.filmFlow l)) := by
  refine ⟨(startPump_kept y).trans hkept, fun h => (startPump_loops (hbackup.trans h)).trans hloops, fun h l => ?_⟩
  have hflow : y.filmFlow l = s.filmFlow l := by simp only [State.filmFlow, hlines, hkept]
  rw [startPump_restores (hbackup.trans h), hflow, hloops, hkept]

/-- The call mark set, and the backup timer started unless the pump runs (R76, R78). -/
def State.called (s : State) : State :=
  { s with
    sump :=
      { s.sump with
        callMark := true
        backupTimer := if s.sump.pump then s.sump.backupTimer else some s.backupStarted } }

theorem sumpHighChange_covered (s : State) : sumpHighChange true s = pumpJudge s.called := rfl

theorem called_off {s : State} (h : s.sump.pump = false) :
    s.called = { s with sump := { s.sump with callMark := true, backupTimer := some s.backupStarted } } := by
  simp [State.called, h]

theorem backupArises_eq (s : State) : backupArises s =
    backupEvent true (latch .sumpBackup { s with sump := { s.sump with backupTimer := none, backup := true } }) := rfl

theorem backupArises_loop (s : State) (l : Fin 4) :
    (backupArises s).loops[l] = s.loops[l].onBackup true s.kept.lines[l] (s.filmFlow l) := by
  rw [backupArises_eq, backupEvent_loop]
  simp only [State.filmFlow, latch_loops, latch_kept, latch_lines]

theorem backupArises_latched (s : State) : (backupArises s).latched .sumpBackup = true := by
  rw [backupArises_eq, State.latched, backupEvent_flags]
  exact latch_latched _ _

theorem backupArises_kept (s : State) : (backupArises s).kept = s.kept := by
  rw [backupArises_eq, backupEvent_kept, latch_kept]

theorem backupArises_sump (s : State) :
    (backupArises s).sump = { s.sump with backupTimer := none, backup := true } := by
  rw [backupArises_eq, backupEvent_sump, latch_sump]

end Sys2Proof.Machine

namespace Sys2Proof.Settled

open Sys2Proof Sys2Proof.Machine

/-- Settles O42: the pins, the debounce, and the sump's reading of its two switches. -/
theorem switchesDebounced : Obligations.SwitchesDebounced := by
  refine ⟨fun dt s w level => ?_, fun dt s awake => ?_⟩
  · intro x i k
    refine ⟨fun h => ?_, fun h => ?_, fun awake due => ?_⟩
    · exact congrArg Host.Outcome.next (pinLevel_same (s := x) h)
    · exact ⟨fun ha => congrArg Host.Outcome.next (pinLevel_unsampled (s := x) h ha),
        fun ha => congrArg Host.Outcome.next (pinLevel_returns (s := x) h ha),
        fun ha => congrArg Host.Outcome.next (pinLevel_leaves (s := x) h ha)⟩
    · refine ⟨_, congrArg Host.Outcome.next (whenDue_of (s := x) awake due (debounced w)), ?_⟩
      rw [debounced_eq, switches_of_fixed (switchChange_fixed _ _ _)]
      rfl
  · intro x i accepted
    have hexec (w : Switch) (due : timerDue s.switches[switchIndex w].debounce x.now = true) :
        exec (.debounceExpired dt w) s = .next (switchChange w s.switches[switchIndex w].pin (accept w x)) :=
      congrArg Host.Outcome.next (whenDue_of (s := x) awake due (debounced w))
    have stays {y : State} (hf : y.fillingTank = none) (hp : y.sump.pump = false) : pumpJudge y = y :=
      pumpJudge_stays ((pumpWanted_noTank hf).trans hp.symm)
    refine ⟨fun due full off => ⟨fun pin => ?_, fun pin => ?_⟩, ?_, fun due => ?_⟩
    · rw [hexec .sumpHigh due, pin]
      have hcalled := called_off (s := accept .sumpHigh x) off
      exact congrArg Host.Outcome.next ((stays (y := (accept .sumpHigh x).called) full off).trans hcalled)
    · rw [hexec .sumpHigh due, pin]
      refine congrArg Host.Outcome.next (stays ?_ ?_)
      · exact full
      · exact off
    · intro low started
      have frees (w : Switch) (y : State) (hexec : exec (.debounceExpired dt w) s = .next (pumpJudge y))
          (hwanted : y.pumpWanted = true) (off : y.sump.pump = false)
          (hsump : { y.sump with pump := true, backupTimer := none, backup := false } =
            { s.sump with pump := true, callMark := true, backupTimer := none, backup := false })
          (hkept : y.kept = s.kept) (hloops : y.loops = s.loops) (hlines : y.lines = s.lines)
          (hbackup : y.sump.backup = s.sump.backup) : started w := by
        obtain ⟨kept, unrestricted, restored⟩ := startPump_frees hkept hloops hlines hbackup
        refine ⟨startPump y, hexec.trans (congrArg _ (pumpJudge_starts hwanted off)), (startPump_sump y).trans hsump, kept,
          unrestricted, fun hb l => ?_⟩
        obtain ⟨back, state, applied⟩ := WashLoop.onBackup_frame false s.kept.lines[l] (s.filmFlow l) s.loops[l]
        rw [restored hb l]
        exact ⟨back, state, applied, WashLoop.onBackup_target false _ _⟩
      refine ⟨fun fill normal off => ⟨fun due pin lowCovered => ?_, fun due pin call => ?_⟩, fun due pin on => ?_⟩
      · have hlow : (accept .sumpHigh x).covered .sumpLow = true :=
          (accept_covered_other x (by decide)).trans lowCovered
        refine frees .sumpHigh (accept .sumpHigh x).called ?_ (pumpWanted_of fill rfl hlow normal) off rfl rfl rfl rfl rfl
        rw [hexec .sumpHigh due, pin]
        rfl
      · have hlow : (accept .sumpLow x).covered .sumpLow = true := (accept_covered_same .sumpLow x).trans pin
        refine frees .sumpLow (accept .sumpLow x) (hexec .sumpLow due) (pumpWanted_of fill call hlow normal) off ?_ rfl rfl rfl rfl
        rw [← call]
        rfl
      · have hlow : (accept .sumpLow x).covered .sumpLow = false := (accept_covered_same .sumpLow x).trans pin
        have hhigh : (accept .sumpLow x).covered .sumpHigh = s.covered .sumpHigh := accept_covered_other x (by decide)
        have hstop : exec (.debounceExpired dt .sumpLow) s = .next (stopPump (accept .sumpLow x)) :=
          (hexec .sumpLow due).trans (congrArg _ (pumpJudge_stops (pumpWanted_dry hlow) on))
        rw [hstop, stopPump, hhigh]
        rfl
    · refine ⟨backupArises x, congrArg Host.Outcome.next (whenDue_of (s := x) awake due backupArises), backupArises_sump x,
        backupArises_latched x, backupArises_kept x, fun l => ?_⟩
      obtain ⟨back, state, applied⟩ := WashLoop.onBackup_frame true s.kept.lines[l] (s.filmFlow l) s.loops[l]
      have hloop : (backupArises x).loops[l] = s.loops[l].onBackup true s.kept.lines[l] (s.filmFlow l) :=
        backupArises_loop x l
      rw [hloop]
      exact ⟨back, state, applied, WashLoop.onBackup_target true _ _⟩

end Sys2Proof.Settled
end

section
/-! PROOF of O48. The Sampler: what a settle timer, a flush, a window and A5's events do to the lot that is sampled, and
what a failed attempt leaves (R88 to R90). -/

namespace Sys2Proof.Machine

open Sys2Proof

/-! ### What a notice makes of the Plant Link (R167 to R169) -/

/-- The link after an event was handed to a key that is enabled or not. -/
def Link.handed (k : Link) (enabled : Bool) (key : Fin 33) (content : NoticeContent) : Link :=
  if enabled then
    let entered := { k with notices := mergeNotice key content k.notices }
    if k.notices.isEmpty && 0 < k.free then
      match entered.notices with
      | [] => entered
      | n :: rest => { entered with notices := rest, outbound := entered.outbound ++ [.notice n] }
    else entered
  else k

theorem handNotice_handed (key : Fin 33) (content : NoticeContent) (s : State) :
    handNotice key content s = { s with link := s.link.handed s.kept.noticeMask[key] key content } := by
  unfold handNotice Link.handed
  split
  · dsimp only
    split
    · unfold moveNotice
      dsimp only [State.modLink]
      cases mergeNotice key content s.link.notices <;> rfl
    · rfl
  · rfl

/-- Handing an event does not read the Sampler. -/
theorem handNotice_withSampler (key : Fin 33) (content : NoticeContent) (s : State) (k : Sampler) :
    handNotice key content { s with sampler := k } = { handNotice key content s with sampler := k } := by
  rw [handNotice_handed, handNotice_handed]

theorem latch_withSampler (f : Flag) (s : State) (k : Sampler) :
    latch f { s with sampler := k } = { latch f s with sampler := k } := by
  have hcondition (u : State) : State.condition { u with sampler := k } f = u.condition f := by cases f <;> rfl
  have hhand (u : State) : handAlert f true { u with sampler := k } = { handAlert f true u with sampler := k } := by
    rw [handAlert, hcondition]
    exact handNotice_withSampler _ _ u k
  by_cases h : s.latched f = true
  · rw [latch_of_latched s f h]
    exact latch_of_latched _ f h
  · have hs : latch f s = _ := if_neg h
    rw [hs]
    exact (if_neg h).trans
      (hhand (judgeAlert (s.modFlag f.index fun _ => { latched := true, time := some s.stamp })))

/-! ### The lot in a tank -/

theorem modLot_lotIn (s : State) (t : Fin 3) (f : Lot → Lot) : (s.modLot t f).lotIn t = (s.lotIn t).map f := by
  have h : (s.modLot t f).kept.tanks[t] = _ := modAt_same _ _ _
  rw [State.lotIn, h]
  rfl

theorem modLot_lotIn_other (s : State) {t u : Fin 3} (f : Lot → Lot) (h : t ≠ u) :
    (s.modLot t f).lotIn u = s.lotIn u := by
  have hu : (s.modLot t f).kept.tanks[u] = s.kept.tanks[u] := modAt_other _ _ _ _ h
  rw [State.lotIn, hu]
  rfl

theorem modLot_twice (s : State) (t : Fin 3) (f g : Lot → Lot) :
    (s.modLot t f).modLot t g = s.modLot t fun l => g (f l) := by
  simp only [State.modLot, State.modTank, State.modKept, modAt_modAt, Function.comp_def, Option.map_map]

theorem enterSampleWait_eq {t : Fin 3} {l : Lot} {s : State} (h : s.lotIn t = some l) :
    enterSampleWait t s =
      (s.modLot t fun l => { l with state := .sampleWait, holdReason := none }).modKept fun k =>
        { k with sampleWait := k.sampleWait ++ [l.number] } := by
  simp only [enterSampleWait, h]

/-! ### The Sampler's test (R89) -/

theorem samplerTest_stays {s : State} (h : s.sampler.state ≠ .idle ∨ s.sampler.hold = true) : samplerTest s = s := by
  refine if_neg ?_
  rw [Bool.and_eq_true, decide_eq_true_eq, Bool.not_eq_true']
  rintro ⟨hs, hh⟩
  rcases h with h | h
  · exact h hs
  · exact Bool.false_ne_true (hh.symm.trans h)

theorem samplerTest_noneWaits {s : State} (h : s.kept.sampleWait = []) : samplerTest s = s := by
  unfold samplerTest
  split
  · rw [h]
  · rfl

/-- The test takes the head of Sample Wait, or leaves all as it is. -/
theorem samplerTest_cases (s : State) :
    samplerTest s = s ∨ ∃ n rest t, s.kept.sampleWait = n :: rest ∧ s.tankOfLot n = some t ∧
      samplerTest s = { (s.modKept fun k => { k with sampleWait := rest }).modLot t
          (fun l => { l with state := .sampling }) with
        sampler :=
          { s.sampler with
            state := .flushing, lot := some n, flush := some (s.timer (s.kept.plant.flush * sec)), window := none,
            count := 0, sum := 0 } } := by
  unfold samplerTest
  split
  · split
    · exact .inl rfl
    · next n rest hw =>
      cases ht : s.tankOfLot n with
      | none => exact .inl rfl
      | some t => exact .inr ⟨n, rest, t, hw, ht, rfl⟩
  · exact .inl rfl

/-- The test changes of a lot its state alone, to SAMPLING. -/
theorem samplerTest_lotIn {s : State} {t : Fin 3} {l : Lot} (h : s.lotIn t = some l) :
    (samplerTest s).lotIn t = some l ∨ (samplerTest s).lotIn t = some { l with state := .sampling } := by
  rcases samplerTest_cases s with hs | ⟨n, rest, u, _, _, hs⟩
  · rw [hs]; exact .inl h
  · rw [hs]
    by_cases hu : u = t
    · subst hu
      refine .inr ((modLot_lotIn (s.modKept _) u _).trans ?_)
      have hl : (s.modKept fun k => { k with sampleWait := rest }).lotIn u = some l := h
      rw [hl]
      rfl
    · exact .inl ((modLot_lotIn_other (s.modKept _) _ hu).trans h)

theorem samplerTest_accounts (s : State) : (samplerTest s).kept.accounts = s.kept.accounts := by
  rcases samplerTest_cases s with hs | ⟨n, rest, u, _, _, hs⟩ <;> rw [hs]
  rfl

/-! ### A failed attempt (R90) -/

/-- The Sampler with its attempt ended: no lot, and its timers stopped. -/
def Sampler.ended (k : Sampler) : Sampler :=
  { k with state := .idle, lot := none, flush := none, window := none, count := 0, sum := 0 }

/-- What a failed attempt of a lot that is held after it makes of the lot. -/
def Lot.failedLast (l : Lot) : Lot :=
  { l with attempts := min (l.attempts + 1) 3, state := .held, holdReason := some .sampleFailed }

section
variable {s : State} {t : Fin 3} {l : Lot} (ht : s.samplerTank = some t) (hl : s.lotIn t = some l)
include ht hl

/-- The third failed attempt, and every one after it, holds the lot. -/
theorem attemptFails_holds (ha : 2 ≤ l.attempts) (hw : s.kept.sampleWait = []) :
    attemptFails s =
      { latch .lotHeld (lotEvent .held t (s.modLot t Lot.failedLast)) with sampler := s.sampler.ended } := by
  have hlast : (s.lotIn t).any (3 ≤ ·.attempts + 1) = true := by
    rw [hl]; exact decide_eq_true (Nat.succ_le_succ ha)
  have hheld : enterHeld t .sampleFailed (s.modLot t fun l => { l with attempts := addTo 3 l.attempts 1 }) =
      latch .lotHeld (lotEvent .held t (s.modLot t Lot.failedLast)) := by
    rw [enterHeld, modLot_twice]
    rfl
  have hevent (u : State) : (lotEvent .held t u).sampler = u.sampler ∧ (lotEvent .held t u).kept = u.kept := by
    unfold lotEvent; split
    · exact ⟨rfl, rfl⟩
    · exact ⟨handNotice_sampler _ _ _, handNotice_kept _ _ _⟩
  simp only [attemptFails, ht, hlast, if_true, hheld]
  rw [samplerTest_noneWaits]
  · simp only [samplerEnd, latch_sampler, (hevent _).1]
    rfl
  · simp only [samplerEnd, latch_kept, (hevent _).2]
    exact hw

/-- An earlier one sends it back to Sample Wait, where the Sampler may take it again. -/
theorem attemptFails_waits (ha : l.attempts < 2) :
    ∃ l', (attemptFails s).lotIn t = some l' ∧ l'.attempts = l.attempts + 1 ∧
      (l'.state = .sampleWait ∨ l'.state = .sampling) ∧ l'.concentration = l.concentration ∧
      (attemptFails s).kept.accounts = s.kept.accounts := by
  have hnot : ¬(s.lotIn t).any (3 ≤ ·.attempts + 1) = true := by
    rw [hl]; intro h; have := of_decide_eq_true h; omega
  let counted := s.modLot t fun l => { l with attempts := addTo 3 l.attempts 1 }
  have hcounted : counted.lotIn t = some { l with attempts := l.attempts + 1 } := by
    rw [modLot_lotIn, hl]
    have hadd : addTo 3 l.attempts 1 = l.attempts + 1 := by unfold addTo; omega
    rw [Option.map_some, hadd]
  let back := samplerEnd (enterSampleWait t counted)
  have hback : back.lotIn t = some { l with attempts := l.attempts + 1, state := .sampleWait, holdReason := none } := by
    simp only [back, enterSampleWait_eq hcounted]
    refine (modLot_lotIn counted t _).trans ?_
    rw [hcounted]
    rfl
  have hfails : attemptFails s = samplerTest back := by
    simp only [attemptFails, ht, if_neg hnot]
    rfl
  have haccounts : back.kept.accounts = s.kept.accounts := by
    simp only [back, enterSampleWait_eq hcounted]
    rfl
  rw [hfails, samplerTest_accounts]
  rcases samplerTest_lotIn hback with h | h
  · exact ⟨_, h, rfl, .inl rfl, rfl, haccounts⟩
  · exact ⟨_, h, rfl, .inr rfl, rfl, haccounts⟩

end

/-- A failed attempt of a lot held after it leaves the same whatever the Sampler's running figures were. -/
theorem heldBack_withSampler (s : State) (t : Fin 3) (k : Sampler) :
    latch .lotHeld (lotEvent .held t (State.modLot { s with sampler := k } t Lot.failedLast)) =
      { latch .lotHeld (lotEvent .held t (s.modLot t Lot.failedLast)) with sampler := k } := by
  have hevent (u : State) : lotEvent .held t { u with sampler := k } = { lotEvent .held t u with sampler := k } := by
    have hlot : State.lotIn { u with sampler := k } t = u.lotIn t := rfl
    unfold lotEvent
    rw [hlot]
    cases u.lotIn t with
    | none => rfl
    | some l => exact handNotice_withSampler _ _ u k
  have hmod : State.modLot { s with sampler := k } t Lot.failedLast =
      { s.modLot t Lot.failedLast with sampler := k } := rfl
  rw [hmod, hevent, latch_withSampler]

end Sys2Proof.Machine

namespace Sys2Proof.Settled

open Sys2Proof Sys2Proof.Machine

/-- Settles O48: the settle timer, the flush, the window and A5's events; the three ways for an attempt to fail share what
a failed attempt leaves. -/
theorem samplerTimers : Obligations.SamplerTimers := by
  refine ⟨fun dt s t l awake hl => ?_, fun s value => ?_, fun s t l hw ht hl hwait => ?_⟩
  · intro x idle heldBack failed
    have window (due : timerDue s.sampler.window x.now = true) (few : s.sampler.count < 3) :
        exec (.sampleWindowEnd dt) s = .next (attemptFails x) :=
      congrArg Host.Outcome.next ((whenDue_of (s := x) awake due windowEnds).trans (if_neg (Nat.not_le.mpr few)))
    refine ⟨fun due busy => ?_, fun due hv => ?_, fun ht hwait => ⟨fun due hv ha => ?_, fun due few ha => ?_, fun due few ha => ?_⟩⟩
    · refine congrArg Host.Outcome.next ((whenDue_of (s := x) awake due (settleExpired t)).trans ?_)
      have hlot : (x.modTimers t fun k => { k with settle := none }).lotIn t = some l := hl
      rw [settleExpired, enterSampleWait_eq hlot]
      exact samplerTest_stays busy
    · exact congrArg Host.Outcome.next ((whenDue_of (s := x) awake due flushEnds).trans (if_pos hv))
    · have hopened := attemptFails_holds (s := { x with sampler := { x.sampler with
          state := .window, flush := none, window := some (x.timer (x.kept.plant.window * sec)), count := 0, sum := 0 } })
        ht hl ha hwait
      rw [heldBack_withSampler] at hopened
      exact congrArg Host.Outcome.next
        ((whenDue_of (s := x) awake due flushEnds).trans ((if_neg hv).trans hopened))
    · rw [window due few, attemptFails_holds (s := x) ht hl ha hwait]
      rfl
    · obtain ⟨l', hl', rest⟩ := attemptFails_waits (s := x) ht hl ha
      exact ⟨_, l', window due few, hl', rest⟩
  · refine ⟨fun h => ?_, fun h => ⟨?_, ?_⟩⟩
    · exact if_pos h
    · exact if_neg h
    · exact if_neg h
  · have fails : handLeftValid 4 s = attemptFails s := if_pos hw
    rw [fails]
    exact ⟨fun ha => attemptFails_holds ht hl ha hwait, fun ha => attemptFails_waits ht hl ha⟩

end Sys2Proof.Settled
end

section
/-! PROOF of O60. FACTORY RESET: every setting written once, and what that writing leaves (R192). -/

namespace Sys2Proof.Machine

open Sys2Proof

/-- Writing every entry of a vector, one after another, leaves the vector of what was written. -/
theorem foldl_modAt {α : Type} {n : Nat} (d : Fin n → α) (v : Vector α n) :
    (List.finRange n).foldl (fun v i => modAt v i fun _ => d i) v = Vector.ofFn d := by
  have h (i : Fin n) := foldl_entry (fun (v : Vector α n) i => modAt v i fun _ => d i) (fun v i => v[i]) (fun _ => ())
    (fun i _ _ => d i) (fun _ _ => rfl) (fun v i => modAt_same v i _) (fun v i j hj => modAt_other v i j _ hj.symm) v i
  refine Vector.ext fun i hi => ?_
  rw [Vector.getElem_ofFn]
  exact h ⟨i, hi⟩

/-- Actions that each write one entry of a vector of the kept state leave the vector of what they write. -/
theorem foldl_kept {α : Type} {n : Nat} (act : State → Fin n → State) (get : Kept → Vector α n)
    (put : Kept → Vector α n → Kept) (d : Fin n → α) (hget : ∀ k v, get (put k v) = v)
    (hself : ∀ k, put k (get k) = k) (hput : ∀ k v w, put (put k v) w = put k w)
    (h : ∀ s i, (act s i).kept = put s.kept (modAt (get s.kept) i fun _ => d i)) (s : State) :
    ((List.finRange n).foldl act s).kept = put s.kept (Vector.ofFn d) := by
  have hkept : ((List.finRange n).foldl act s).kept
      = (List.finRange n).foldl (fun k i => put k (modAt (get k) i fun _ => d i)) s.kept :=
    (List.foldl_hom State.kept fun s i => (h s i).symm).symm
  have hvec := List.foldl_hom (put s.kept) (g₁ := fun v i => modAt v i fun _ => d i)
    (g₂ := fun k i => put k (modAt (get k) i fun _ => d i)) (l := List.finRange n) (init := get s.kept)
    fun v i => by rw [hget, hput]
  rw [hkept, ← foldl_modAt d (get s.kept), ← hvec, hself]

/-! ### What the writing of the settings leaves -/

/-- What the settings' return to their defaults leaves as it is. -/
structure Besides where
  link : Link
  clock : Clock
  permit : PermitRun
  path : Path
  flags : Vector FlagRecord 28
  supply : Supply

def State.besides (s : State) : Besides :=
  { link := s.link, clock := s.clock, permit := s.permit, path := s.path, flags := s.flags, supply := s.supply }

theorem besides_eq {s t : State} (h : t.besides = s.besides) :
    t.link = s.link ∧ t.clock = s.clock ∧ t.permit = s.permit ∧ t.path = s.path ∧ t.flags = s.flags ∧
      t.supply = s.supply :=
  ⟨congrArg Besides.link h, congrArg Besides.clock h, congrArg Besides.permit h, congrArg Besides.path h,
    congrArg Besides.flags h, congrArg Besides.supply h⟩

/-- A channel that is started afresh: its counts are cleared when its role changes (R8). -/
def afresh (old new : Role) (ch : Channel) : Channel :=
  { count := if new = old then ch.count else 0
    rejected := if new = old then ch.rejected else 0
    moving := false, rate := 0, pulseRate := 0, block := none, lastEdge := none, stale := none }

section
variable (s : State)

theorem enterStandby_cells (c : Fin 4) : enterStandby c s = { s with cells := (enterStandby c s).cells } := by
  rw [enterStandby_eq]
  rfl

theorem cellHoldExpired_cells (c : Fin 4) : cellHoldExpired c s = { s with cells := (cellHoldExpired c s).cells } := by
  unfold cellHoldExpired
  split
  · exact (enterStandby_cells _ c).trans rfl
  · rfl

theorem handHoldExpired_cells (a : Fin 5) : handHoldExpired a s = { s with cells := (handHoldExpired a s).cells } := by
  unfold handHoldExpired toConsumer
  cases lineOfInput a with
  | none => rfl
  | some l =>
    dsimp only
    cases s.cellOfLine l with
    | none => rfl
    | some c => exact cellHoldExpired_cells s c

/-- New settings of an input leave everything but its record, its watch, its hold and the cells. -/
theorem setAnalyzer_eq (a : Fin 5) (k : AnalyzerSettings) :
    ∃ held hold cells, setAnalyzer a k s = { respanned a k held hold s with cells := cells } := by
  cases h : s.analyzers[a].hold with
  | none => exact ⟨_, _, s.cells, setAnalyzer_stopped a k s h⟩
  | some t =>
    by_cases ht : t.start + k.hold * sec ≤ s.now
    · exact ⟨_, _, _, (setAnalyzer_over a k s t h ht).trans (handHoldExpired_cells _ a)⟩
    · exact ⟨_, _, s.cells, setAnalyzer_running a k s t h (Nat.not_le.mp ht)⟩

/-- A rebinding leaves everything but the channel, the lines and the loops. -/
theorem rebind_lines (c : Fin 16) (k : ChannelSettings) :
    ∃ lines loops, rebind c k s = { rebound c k s with lines := lines, loops := loops } := by
  rw [rebind_eq]
  split
  · exact ⟨_, _, ownerRate_eq _ _ _ _⟩
  · exact ⟨s.lines, s.loops, rfl⟩

theorem rebind_besides (c : Fin 16) (k : ChannelSettings) : (rebind c k s).besides = s.besides := by
  obtain ⟨_, _, h⟩ := rebind_lines s c k
  rw [h]; rfl

theorem setAnalyzer_besides (a : Fin 5) (k : AnalyzerSettings) : (setAnalyzer a k s).besides = s.besides := by
  obtain ⟨_, _, _, h⟩ := setAnalyzer_eq s a k
  rw [h]; rfl

/-- A loop that is taken OFF, and nothing else changed. -/
theorem loopOff_loops (l : Fin 4) : loopOff l s = { s with loops := (loopOff l s).loops } := by
  unfold loopOff washOff
  split <;> rfl

/-- A cell's settings written, and nothing else changed but its view. -/
theorem cellTakes_eq (c : Fin 4) (k : CellSettings) :
    cellTakes c k s =
      { s with kept := { s.kept with cells := modAt s.kept.cells c fun _ => k }, cells := (cellTakes c k s).cells } := by
  unfold cellTakes
  split <;> rfl

/-! ### The parts of a FACTORY RESET -/

/-- Every channel returned to its default. -/
def defaultChannels (s : State) : State :=
  (List.finRange 16).foldl (fun s c => rebind c ChannelSettings.default s) s

/-- Every input returned to its default. -/
def defaultAnalyzers (s : State) : State :=
  (List.finRange 5).foldl (fun s a => setAnalyzer a (AnalyzerSettings.default a) s) s

theorem defaultInputs_eq : defaultInputs s = defaultAnalyzers (defaultChannels s) := rfl

theorem rebind_channels (c : Fin 16) (k : ChannelSettings) :
    (rebind c k s).channels = modAt s.channels c (afresh s.kept.channels[c].role k.role) := by
  obtain ⟨_, _, h⟩ := rebind_lines s c k
  rw [h]; rfl

theorem rebind_kept (c : Fin 16) (k : ChannelSettings) :
    (rebind c k s).kept = { s.kept with channels := modAt s.kept.channels c fun _ => k } := by
  obtain ⟨_, _, h⟩ := rebind_lines s c k
  rw [h]; rfl

theorem setAnalyzer_analyzers (a : Fin 5) (k : AnalyzerSettings) :
    ∃ f : Analyzer → Analyzer, (setAnalyzer a k s).analyzers = modAt s.analyzers a f ∧
      ∀ x, (f x).record = [] ∧ (f x).state = x.state := by
  obtain ⟨held, hold, _, h⟩ := setAnalyzer_eq s a k
  exact ⟨fun x =>
      { x with record := [], silence := some { start := s.now, len := 3 * sec }, held := held, hold := hold },
    congrArg State.analyzers h, fun _ => ⟨rfl, rfl⟩⟩

theorem defaultInputs_besides : (defaultInputs s).besides = s.besides := by
  have ha (s : State) : (defaultAnalyzers s).besides = s.besides :=
    foldl_keeps _ State.besides (fun s a => setAnalyzer_besides s a _) _ _
  have hc : (defaultChannels s).besides = s.besides :=
    foldl_keeps _ State.besides (fun s c => rebind_besides s c _) _ _
  rw [defaultInputs_eq, ha, hc]

theorem defaultLines_besides : (defaultLines s).besides = s.besides :=
  (foldl_keeps _ State.besides (fun s l => by rw [loopOff_loops]; rfl) _ _).trans rfl

theorem defaultCells_besides : (defaultCells s).besides = s.besides :=
  foldl_keeps _ State.besides (fun s c => by rw [cellTakes_eq]; rfl) _ _

theorem defaultChannels_kept : (defaultChannels s).kept =
    { s.kept with channels := Vector.replicate 16 ChannelSettings.default } := by
  have h := foldl_kept (fun s c => rebind c ChannelSettings.default s) Kept.channels
    (fun k v => { k with channels := v }) (fun _ => ChannelSettings.default) (fun _ _ => rfl) (fun _ => rfl)
    (fun _ _ _ => rfl) (fun s c => rebind_kept s c _) s
  have hreplicate : Vector.ofFn (fun _ : Fin 16 => ChannelSettings.default) = Vector.replicate 16 ChannelSettings.default :=
    Vector.ext fun i hi => by rw [Vector.getElem_ofFn, Vector.getElem_replicate]
  rw [defaultChannels, h, hreplicate]

theorem defaultAnalyzers_kept : (defaultAnalyzers s).kept =
    { s.kept with analyzers := Vector.ofFn AnalyzerSettings.default } :=
  foldl_kept (fun s a => setAnalyzer a (AnalyzerSettings.default a) s) Kept.analyzers
    (fun k v => { k with analyzers := v }) AnalyzerSettings.default (fun _ _ => rfl) (fun _ => rfl) (fun _ _ _ => rfl)
    (fun s a => by obtain ⟨_, _, _, h⟩ := setAnalyzer_eq s a (AnalyzerSettings.default a); rw [h]; rfl) s

theorem defaultLines_kept :
    (defaultLines s).kept = { s.kept with lines := Vector.replicate 4 LineSettings.default } :=
  foldl_keeps _ State.kept (fun s l => by rw [loopOff_loops]) _ _

theorem defaultCells_kept : (defaultCells s).kept = { s.kept with cells := Vector.ofFn CellSettings.default } :=
  foldl_kept _ Kept.cells (fun k v => { k with cells := v }) CellSettings.default (fun _ _ => rfl) (fun _ => rfl)
    (fun _ _ _ => rfl) (fun s c => by rw [cellTakes_eq]) s

theorem defaultAnalyzers_channels : (defaultAnalyzers s).channels = s.channels :=
  foldl_keeps _ State.channels
    (fun s a => by obtain ⟨_, _, _, h⟩ := setAnalyzer_eq s a (AnalyzerSettings.default a); rw [h]; rfl) _ _

theorem defaultChannels_analyzers : (defaultChannels s).analyzers = s.analyzers :=
  foldl_keeps _ State.analyzers
    (fun s c => by obtain ⟨_, _, h⟩ := rebind_lines s c ChannelSettings.default; rw [h]; rfl) _ _

/-- A channel that a FACTORY RESET has started afresh; a channel that was bound has its count cleared. -/
theorem defaultInputs_channel (c : Fin 16) :
    (defaultInputs s).channels[c] = afresh s.kept.channels[c].role .noRole s.channels[c] := by
  have hfold := foldl_entry (fun s c => rebind c ChannelSettings.default s)
    (fun s c => (s.kept.channels[c], s.channels[c])) (fun _ => ())
    (fun _ _ e => (ChannelSettings.default, afresh e.1.role .noRole e.2)) (fun _ _ => rfl)
    (fun s c => by
      rw [rebind_kept, rebind_channels, modAt_same s.channels, modAt_same s.kept.channels]
      rfl)
    (fun s c d hd => by rw [rebind_kept, rebind_channels, modAt_other s.channels c d _ hd.symm,
      modAt_other s.kept.channels c d _ hd.symm]) s c
  rw [defaultInputs_eq, defaultAnalyzers_channels]
  exact (Prod.mk.inj hfold).2

/-- An input keeps its state, and its record is emptied. -/
theorem defaultInputs_analyzer (a : Fin 5) :
    (defaultInputs s).analyzers[a].record = [] ∧ (defaultInputs s).analyzers[a].state = s.analyzers[a].state := by
  have hfold (s : State) := foldl_entry (fun s a => setAnalyzer a (AnalyzerSettings.default a) s)
    (fun s a => (s.analyzers[a].record, s.analyzers[a].state)) (fun _ => ()) (fun _ _ e => ([], e.2)) (fun _ _ => rfl)
    (fun s a => by
      obtain ⟨f, h, hf⟩ := setAnalyzer_analyzers s a (AnalyzerSettings.default a)
      rw [h, modAt_same, (hf _).1, (hf _).2])
    (fun s a d hd => by
      obtain ⟨f, h, -⟩ := setAnalyzer_analyzers s a (AnalyzerSettings.default a)
      rw [h, modAt_other _ a d f hd.symm]) s a
  have h := hfold (defaultChannels s)
  rw [defaultChannels_analyzers] at h
  rw [defaultInputs_eq]
  exact Prod.mk.inj h

theorem defaultLines_loop (l : Fin 4) : (defaultLines s).loops[l].state = .off :=
  foldl_entry (fun s l => loopOff l s) (fun s l => s.loops[l].state) (fun _ => ()) (fun _ _ _ => .off) (fun _ _ => rfl)
    (fun s l => by
      unfold loopOff
      split
      · assumption
      · exact congrArg WashLoop.state (modAt_same s.loops l _))
    (fun s l m hm => by
      unfold loopOff
      split
      · rfl
      · exact congrArg WashLoop.state (modAt_other s.loops l m _ hm.symm))
    (s.modKept fun k => { k with lines := Vector.replicate 4 LineSettings.default }) l

theorem defaultLines_inputs :
    (defaultLines s).channels = s.channels ∧ (defaultLines s).analyzers = s.analyzers :=
  ⟨foldl_keeps _ State.channels (fun s l => by rw [loopOff_loops]) _ _,
    foldl_keeps _ State.analyzers (fun s l => by rw [loopOff_loops]) _ _⟩

theorem defaultCells_rest :
    (defaultCells s).channels = s.channels ∧ (defaultCells s).analyzers = s.analyzers ∧
      (defaultCells s).loops = s.loops :=
  ⟨foldl_keeps _ State.channels (fun s c => by rw [cellTakes_eq]) _ _,
    foldl_keeps _ State.analyzers (fun s c => by rw [cellTakes_eq]) _ _,
    foldl_keeps _ State.loops (fun s c => by rw [cellTakes_eq]) _ _⟩

end

/-- Where a hold stands, or the level reaches the threshold, judging the supply changes its recovery timer alone. -/
theorem judgeSupply_stays (s : State) (h : s.supply.hold = true ∨ s.threshold ≤ s.supply.level) :
    judgeSupply s = { s with supply := { s.supply with recovery := (judgeSupply s).supply.recovery } } := by
  unfold judgeSupply
  by_cases hh : s.supply.hold = true
  · rw [if_pos hh]
    split <;> rfl
  · rw [if_neg hh, if_neg (Nat.not_lt.mpr (h.resolve_left hh))]

theorem orderWrite_inFlight (kind : WriteKind) (s : State) : (orderWrite kind s).store.inFlight.isSome = true := by
  unfold orderWrite
  cases h : s.store.inFlight with
  | none => rfl
  | some w =>
    dsimp only
    split
    · rfl
    · exact congrArg Option.isSome h

theorem orderWrite_eq (kind : WriteKind) (s : State) :
    orderWrite kind s = { s with store := (orderWrite kind s).store } :=
  congrArg (fun x : State => { x with store := (orderWrite kind s).store }) (orderWrite_store kind s)

/-- With every kind enabled, the ALERT output is active for any latched flag. -/
theorem judgeAlert_unmasked (s : State) (h : s.kept.alertMask = Vector.replicate 16 true) :
    (judgeAlert s).alertActive = allFlags.any fun f => s.latched f := by
  simp only [judgeAlert, h, Fin.getElem_fin, Vector.getElem_replicate, Bool.and_true]

/-- The settings at their defaults, before the supply is judged by the default threshold and the image is written. -/
def defaulted (s : State) : State :=
  judgeAlert ((defaultCells (defaultLines (defaultInputs s))).modKept defaultKept)

theorem defaulted_besides (s : State) : (defaulted s).besides = s.besides := by
  have h (s : State) : (judgeAlert (s.modKept defaultKept)).besides = s.besides := rfl
  rw [defaulted, h, defaultCells_besides, defaultLines_besides, defaultInputs_besides]

theorem defaulted_kept (s : State) : (defaulted s).kept =
    { s.kept with
      channels := Vector.replicate 16 ChannelSettings.default
      analyzers := Vector.ofFn AnalyzerSettings.default
      films := Vector.replicate 16 0
      lines := Vector.replicate 4 LineSettings.default
      cells := Vector.ofFn CellSettings.default
      tankSettings := Vector.replicate 3 TankSettings.default
      plant := PlantSettings.default
      alertMask := Vector.replicate 16 true
      noticeMask := Vector.replicate 33 true
      accounts := Accounts.zero
      history := []
      train := [] } := by
  have h (s : State) : (judgeAlert (s.modKept defaultKept)).kept = defaultKept s.kept := rfl
  rw [defaulted, h, defaultCells_kept, defaultLines_kept, defaultInputs_eq, defaultAnalyzers_kept, defaultChannels_kept]
  rfl

theorem defaulted_channel (s : State) (c : Fin 16) :
    (defaulted s).channels[c] = afresh s.kept.channels[c].role .noRole s.channels[c] := by
  have h (s : State) : (judgeAlert (s.modKept defaultKept)).channels = s.channels := rfl
  obtain ⟨hcells, -, -⟩ := defaultCells_rest (defaultLines (defaultInputs s))
  rw [defaulted, h, hcells, (defaultLines_inputs _).1, defaultInputs_channel]

theorem afresh_unbound (old : Role) (ch : Channel) {x : Channel} (h : x = afresh old .noRole ch) :
    x.moving = false ∧ x.rate = 0 ∧ x.block = none ∧ (old ≠ .noRole → x.count = 0) ∧
      (old = .noRole → x.count = ch.count) := by
  subst h
  exact ⟨rfl, rfl, rfl, fun h => if_neg (Ne.symm h), fun h => if_pos h.symm⟩

theorem defaulted_analyzer (s : State) (a : Fin 5) :
    (defaulted s).analyzers[a].record = [] ∧ (defaulted s).analyzers[a].state = s.analyzers[a].state := by
  have h (s : State) : (judgeAlert (s.modKept defaultKept)).analyzers = s.analyzers := rfl
  obtain ⟨-, hcells, -⟩ := defaultCells_rest (defaultLines (defaultInputs s))
  rw [defaulted, h, hcells, (defaultLines_inputs _).2]
  exact defaultInputs_analyzer s a

theorem defaulted_loop (s : State) (l : Fin 4) : (defaulted s).loops[l].state = .off := by
  have h (s : State) : (judgeAlert (s.modKept defaultKept)).loops = s.loops := rfl
  obtain ⟨-, -, hcells⟩ := defaultCells_rest (defaultLines (defaultInputs s))
  rw [defaulted, h, hcells, defaultLines_loop]

theorem defaulted_alert (s : State) : (defaulted s).alertActive = allFlags.any fun f => s.latched f := by
  obtain ⟨-, -, -, -, hflags, -⟩ := besides_eq ((defaultCells_besides _).trans
    ((defaultLines_besides _).trans (defaultInputs_besides s)))
  have h (s : State) : (judgeAlert (s.modKept defaultKept)).alertActive = allFlags.any fun f => s.latched f :=
    judgeAlert_unmasked (s.modKept defaultKept) rfl
  rw [defaulted, h]
  simp only [State.latched, hflags]

/-- Where the supply stays as it is judged, judging it and ordering a write change its recovery timer and the store. -/
theorem writeJudged_eq (s : State) (h : s.supply.hold = true ∨ s.threshold ≤ s.supply.level) :
    ∃ recovery store, store.inFlight.isSome = true ∧ orderWrite .checkpoint (judgeSupply s) =
      { s with supply := { s.supply with recovery := recovery }, store := store } :=
  ⟨(judgeSupply s).supply.recovery, (orderWrite .checkpoint (judgeSupply s)).store, orderWrite_inFlight _ _,
    (orderWrite_eq _ _).trans
      (congrArg (fun x : State => { x with store := (orderWrite .checkpoint (judgeSupply s)).store })
        (judgeSupply_stays s h))⟩

theorem resetToDefaults_eq (s : State) :
    resetToDefaults s = orderWrite .checkpoint (judgeSupply (defaulted s)) := rfl

/-- The default threshold is 4.50 V. -/
theorem defaulted_stays (s : State) (h : s.supply.hold = true ∨ 450 ≤ s.supply.level) :
    (defaulted s).supply.hold = true ∨ (defaulted s).threshold ≤ (defaulted s).supply.level := by
  obtain ⟨-, -, -, -, -, hsupply⟩ := besides_eq (defaulted_besides s)
  rw [hsupply, State.threshold, congrArg Kept.plant (defaulted_kept s)]
  exact h

/-- The three conditions under which FACTORY RESET is taken (R192). -/
theorem quiet_iff (s : State) : s.quiet = true ↔
    (∀ t l, s.lotIn t = some l → l.state = .filling ∧ l.filled = 0) ∧ s.path.state = .idle ∧
      ∀ c : Fin 4, s.cells[c].state = .off := by
  have hlots : (s.liveLots.all fun l => l.state = .filling && l.filled = 0) = true ↔
      ∀ t l, s.lotIn t = some l → l.state = .filling ∧ l.filled = 0 := by
    simp only [State.liveLots, List.all_eq_true, List.mem_filterMap, List.mem_finRange, true_and, Bool.and_eq_true,
      decide_eq_true_eq]
    exact ⟨fun h t l hl => h l ⟨t, hl⟩, fun h l ⟨t, hl⟩ => h t l hl⟩
  simp only [State.quiet, Bool.and_eq_true, hlots, decide_eq_true_eq, List.all_eq_true, List.mem_finRange, true_implies,
    and_assoc]

end Sys2Proof.Machine

namespace Sys2Proof.Settled

open Sys2Proof Sys2Proof.Machine

/-- Settles O60: the entry's three conditions, and then each setting written once, the supply judged by the default
threshold and the image's write ordered. -/
theorem factoryReset : Obligations.FactoryReset := by
  intro dt tag s ready quiet
  have hh := passesHold (r := .factoryReset) s rfl
  have hquiet : (serving dt (Request.kind .factoryReset) s).quiet = true ↔ quiet := quiet_iff s
  refine ⟨fun h => ?_, fun h hlevel => ?_⟩
  · exact congrArg Host.Outcome.next
      (hostRequest_refused dt tag .factoryReset s _ ready rfl hh (if_neg fun hq => h (hquiet.mp hq)))
  · have hkept := defaulted_kept (serving dt (Request.kind .factoryReset) s)
    have hchannel := defaulted_channel (serving dt (Request.kind .factoryReset) s)
    have hanalyzer := defaulted_analyzer (serving dt (Request.kind .factoryReset) s)
    have hloop := defaulted_loop (serving dt (Request.kind .factoryReset) s)
    have halert := defaulted_alert (serving dt (Request.kind .factoryReset) s)
    have hreset := resetToDefaults_eq (serving dt (Request.kind .factoryReset) s)
    obtain ⟨hlink, hclock, hpermit, hpath, hflags, -⟩ :=
      besides_eq (defaulted_besides (serving dt (Request.kind .factoryReset) s))
    obtain ⟨recovery, store, hstore, ht⟩ :=
      writeJudged_eq (defaulted (serving dt (Request.kind .factoryReset) s)) (defaulted_stays _ hlevel)
    rw [← hreset] at ht
    generalize defaulted (serving dt (Request.kind .factoryReset) s) = d at *
    have hanswer := hostRequest_entry dt tag .factoryReset s _ _ ready rfl hh (if_pos (hquiet.mpr h))
      ((congrArg State.link ht).trans hlink)
    rw [ht, withReply_onePlace _ _ _ _ rfl] at hanswer
    refine ⟨_, congrArg Host.Outcome.next hanswer, List.mem_append_right _ List.mem_cons_self, hkept, hstore,
      hclock, hpermit, hpath, hflags, halert, hloop, fun c => ?_, hanalyzer⟩
    obtain ⟨hmoving, hrate, hblock, hcleared, hcounted⟩ :=
      afresh_unbound s.kept.channels[c].role s.channels[c] (hchannel c)
    exact ⟨hmoving, hrate, hblock, hcleared, hcounted⟩

end Sys2Proof.Settled
end

section
/-! SUPPORT. Tank Control's longer actions are made of elementary steps, each on one tank: what such a chain of steps
leaves of every other tank, and of the sump. -/

namespace Sys2Proof.Machine

open Sys2Proof

/-! ### Elementary steps -/

/-- What the Sampler's test makes of the lot it takes. -/
def Lot.atSampler (l : Lot) : Lot :=
  { l with state := .sampling }

/-- One elementary step of Tank Control that changes of the tanks only those in `P`, up to the state of a lot. -/
inductive TankStep (P : Fin 3 → Prop) : State → State → Prop
  | flag (f : Flag) (s : State) : TankStep P s (latch f s)
  | event (kind : LotEventKind) (t : Fin 3) (s : State) : TankStep P s (lotEvent kind t s)
  | tank (t : Fin 3) (f : Tank → Tank) (s : State) (ht : P t) : TankStep P s (s.modTank t f)
  | timers (t : Fin 3) (f : TankTimers → TankTimers) (s : State) (ht : P t) : TankStep P s (s.modTimers t f)
  | lists (f : Kept → Kept) (s : State) (htanks : (f s.kept).tanks = s.kept.tanks)
      (hplant : (f s.kept).plant = s.kept.plant) (hday : (f s.kept).day = s.kept.day) : TankStep P s (s.modKept f)
  | sampler (s : State) : TankStep P s (samplerTest s)
  | sampled (s : State) : TankStep P s (samplerEnd s)
  | pump (s : State) : TankStep P s (pumpJudge s)

/-- A chain of elementary steps. -/
def TankSteps (P : Fin 3 → Prop) : State → State → Prop :=
  Relation.ReflTransGen (TankStep P)

section
variable {P : Fin 3 → Prop} {s x y : State}

theorem TankSteps.trans (h : TankSteps P s x) (h' : TankSteps P x y) : TankSteps P s y :=
  Relation.ReflTransGen.trans h h'

theorem TankSteps.refl : TankSteps P s s :=
  Relation.ReflTransGen.refl

theorem TankSteps.step (h : TankSteps P s x) (h' : TankStep P x y) : TankSteps P s y :=
  Relation.ReflTransGen.tail h h'

/-! ### What the steps leave -/

theorem pumpJudge_keeps {β : Type} (read : State → β) (hstart : ∀ s, read (startPump s) = read s)
    (hstop : ∀ s, read (stopPump s) = read s) (s : State) : read (pumpJudge s) = read s := by
  unfold pumpJudge
  split
  · exact hstart s
  · split
    · exact hstop s
    · rfl

theorem startPump_keeps {β : Type} (read : State → β) (hloop : ∀ u l f, read (State.modLoop u l f) = read u)
    (hsump : ∀ (u : State) k, read { u with sump := k } = read u) (s : State) : read (startPump s) = read s := by
  unfold startPump
  dsimp only
  split
  · exact (backupEvent_keeps read hloop _ _).trans (hsump s _)
  · exact hsump s _

@[simp] theorem pumpJudge_kept (s : State) : (pumpJudge s).kept = s.kept :=
  pumpJudge_keeps State.kept (startPump_keeps _ (fun _ _ _ => rfl) fun _ _ => rfl) (fun _ => rfl) s

@[simp] theorem pumpJudge_timers (s : State) : (pumpJudge s).timers = s.timers :=
  pumpJudge_keeps State.timers (startPump_keeps _ (fun _ _ _ => rfl) fun _ _ => rfl) (fun _ => rfl) s

@[simp] theorem pumpJudge_path (s : State) : (pumpJudge s).path = s.path :=
  pumpJudge_keeps State.path (startPump_keeps _ (fun _ _ _ => rfl) fun _ _ => rfl) (fun _ => rfl) s

@[simp] theorem pumpJudge_flags (s : State) : (pumpJudge s).flags = s.flags :=
  pumpJudge_keeps State.flags (startPump_keeps _ (fun _ _ _ => rfl) fun _ _ => rfl) (fun _ => rfl) s

theorem lotEvent_link (kind : LotEventKind) (t : Fin 3) (s : State) :
    lotEvent kind t s = { s with link := (lotEvent kind t s).link } := by
  unfold lotEvent
  split
  · rfl
  · exact handNotice_eq s _ _

theorem samplerTest_path (s : State) : (samplerTest s).path = s.path := by
  rcases samplerTest_cases s with h | ⟨_, _, _, _, _, h⟩ <;> rw [h]
  rfl

theorem samplerTest_sump (s : State) : (samplerTest s).sump = s.sump := by
  rcases samplerTest_cases s with h | ⟨_, _, _, _, _, h⟩ <;> rw [h]
  rfl

theorem samplerTest_timers (s : State) : (samplerTest s).timers = s.timers := by
  rcases samplerTest_cases s with h | ⟨_, _, _, _, _, h⟩ <;> rw [h]
  rfl

theorem samplerTest_flags (s : State) : (samplerTest s).flags = s.flags := by
  rcases samplerTest_cases s with h | ⟨_, _, _, _, _, h⟩ <;> rw [h]
  rfl

theorem modTank_same (s : State) (t : Fin 3) (f : Tank → Tank) : (s.modTank t f).kept.tanks[t] = f s.kept.tanks[t] :=
  modAt_same _ _ _

theorem modTank_other (s : State) {t u : Fin 3} (f : Tank → Tank) (h : t ≠ u) :
    (s.modTank t f).kept.tanks[u] = s.kept.tanks[u] :=
  modAt_other _ _ _ _ h

/-- The Sampler's test leaves of a tank all but the state of its lot. -/
theorem samplerTest_tank (s : State) (t : Fin 3) :
    (samplerTest s).kept.tanks[t].state = s.kept.tanks[t].state ∧
      ((samplerTest s).lotIn t = s.lotIn t ∨ (samplerTest s).lotIn t = (s.lotIn t).map Lot.atSampler) := by
  rcases samplerTest_cases s with h | ⟨n, rest, u, _, _, h⟩
  · rw [h]; exact ⟨rfl, .inl rfl⟩
  · have htank : (samplerTest s).kept.tanks[t] =
        ((s.modKept fun k => { k with sampleWait := rest }).modTank u
          fun k => { k with lot := k.lot.map Lot.atSampler }).kept.tanks[t] := by
      rw [h]; rfl
    rw [State.lotIn, htank]
    by_cases hu : u = t
    · subst hu
      rw [modTank_same]
      exact ⟨rfl, .inr rfl⟩
    · rw [modTank_other _ _ hu]
      exact ⟨rfl, .inl rfl⟩

/-- A tank that an action spares: its state and its max fill timer stay, the Sampler may have taken its lot, the path
stays, and no flag is cleared. -/
structure Spares (t : Fin 3) (s x : State) : Prop where
  state : x.kept.tanks[t].state = s.kept.tanks[t].state
  lot : x.lotIn t = s.lotIn t ∨ x.lotIn t = (s.lotIn t).map Lot.atSampler
  maxFill : x.timers[t].maxFill = s.timers[t].maxFill
  path : x.path = s.path
  flags : ∀ f, s.latched f = true → x.latched f = true

theorem Spares.trans {t : Fin 3} (h : Spares t s x) (h' : Spares t x y) : Spares t s y where
  state := h'.state.trans h.state
  lot := by
    rcases h'.lot with hy | hy <;> rcases h.lot with hx | hx <;> rw [hy, hx]
    · exact .inl rfl
    · exact .inr rfl
    · exact .inr rfl
    · exact .inr (by rw [Option.map_map]; rfl)
  maxFill := h'.maxFill.trans h.maxFill
  path := h'.path.trans h.path
  flags f hf := h'.flags f (h.flags f hf)

/-- The lot of a spared tank, but for its state. -/
theorem Spares.lotIn {t : Fin 3} {l : Lot} (h : Spares t s x) (hl : s.lotIn t = some l) :
    ∃ l', x.lotIn t = some l' ∧ (l' = l ∨ l' = l.atSampler) := by
  rcases h.lot with hx | hx <;> rw [hl] at hx
  · exact ⟨l, hx, .inl rfl⟩
  · exact ⟨l.atSampler, hx, .inr rfl⟩

/-- What leaves the tanks, their timers, the path and the flags spares every tank. -/
theorem Spares.of_eq (t : Fin 3) (htank : x.kept.tanks[t] = s.kept.tanks[t]) (htimers : x.timers[t] = s.timers[t])
    (hpath : x.path = s.path) (hflags : ∀ f, s.latched f = true → x.latched f = true) : Spares t s x where
  state := congrArg Tank.state htank
  lot := .inl (congrArg Tank.lot htank)
  maxFill := congrArg TankTimers.maxFill htimers
  path := hpath
  flags := hflags

theorem TankStep.spares {t : Fin 3} (h : TankStep P s x) (ht : ¬P t) : Spares t s x := by
  cases h with
  | flag f =>
    exact .of_eq t (by rw [latch_kept]) (by rw [latch_timers]) (latch_path s f) fun g hg => latch_keeps_latched f hg
  | event kind u => rw [lotEvent_link]; exact .of_eq t rfl rfl rfl fun _ hf => hf
  | tank u f _ hu =>
    exact .of_eq t (modTank_other s f fun h => ht (h ▸ hu)) rfl rfl fun _ hf => hf
  | timers u f _ hu =>
    exact .of_eq t rfl (modAt_other _ _ _ _ fun h => ht (h ▸ hu)) rfl fun _ hf => hf
  | lists f _ htanks =>
    exact .of_eq t (congrArg (fun v : Vector Tank 3 => v[t]) htanks) rfl rfl fun _ hf => hf
  | sampler =>
    obtain ⟨hstate, hlot⟩ := samplerTest_tank s t
    exact ⟨hstate, hlot, by rw [samplerTest_timers], samplerTest_path s,
      fun f hf => by rw [State.latched, samplerTest_flags]; exact hf⟩
  | sampled => exact .of_eq t rfl rfl rfl fun _ hf => hf
  | pump =>
    exact .of_eq t (by rw [pumpJudge_kept]) (by rw [pumpJudge_timers]) (pumpJudge_path s)
      fun f hf => by rw [State.latched, pumpJudge_flags]; exact hf

theorem TankSteps.spares {t : Fin 3} (h : TankSteps P s x) (ht : ¬P t) : Spares t s x := by
  induction h with
  | refl => exact .of_eq t rfl rfl rfl fun _ hf => hf
  | tail _ step ih => exact ih.trans (step.spares ht)

theorem TankStep.flags (h : TankStep P s x) {f : Flag} (hf : s.latched f = true) : x.latched f = true := by
  cases h with
  | flag g => exact latch_keeps_latched g hf
  | event kind u => rw [lotEvent_link]; exact hf
  | sampler => rw [State.latched, samplerTest_flags]; exact hf
  | pump => rw [State.latched, pumpJudge_flags]; exact hf
  | _ => exact hf

theorem TankSteps.flags (h : TankSteps P s x) {f : Flag} (hf : s.latched f = true) : x.latched f = true := by
  induction h with
  | refl => exact hf
  | tail _ step ih => exact step.flags ih

theorem TankStep.path (h : TankStep P s x) : x.path = s.path := by
  cases h with
  | flag f => exact latch_path s f
  | event kind u => rw [lotEvent_link]
  | sampler => exact samplerTest_path s
  | pump => exact pumpJudge_path s
  | _ => rfl

theorem TankSteps.path (h : TankSteps P s x) : x.path = s.path := by
  induction h with
  | refl => rfl
  | tail _ step ih => exact step.path.trans ih

theorem TankStep.fixed (h : TankStep P s x) : x.fixed = s.fixed := by
  cases h with
  | flag f => exact latch_fixed s f
  | event kind u => exact lotEvent_fixed s kind u
  | sampler => exact samplerTest_fixed s
  | pump => exact pumpJudge_fixed s
  | lists f _ _ hplant hday =>
    have hstamp : (s.modKept f).stamp = s.stamp := by
      simp only [State.stamp, State.modKept, hday]
      rfl
    simp only [State.fixed, hstamp]
    exact congrArg (fun p => { s.fixed with plant := p }) hplant
  | _ => rfl

theorem TankSteps.fixed (h : TankSteps P s x) : x.fixed = s.fixed := by
  induction h with
  | refl => rfl
  | tail _ step ih => exact step.fixed.trans ih

/-- What is known of the sump, kept by every action that leaves the sump alone and by the pump's judgement. -/
structure PumpStable (Q : State → Prop) : Prop where
  alike : ∀ {s x : State}, x.fixed = s.fixed → x.sump = s.sump → Q s → Q x
  judged : ∀ {s : State}, Q s → Q (pumpJudge s)

theorem TankStep.stable {Q : State → Prop} (hQ : PumpStable Q) (h : TankStep P s x) (hs : Q s) : Q x := by
  have hfixed := h.fixed
  cases h with
  | flag f => exact hQ.alike hfixed (latch_sump s f) hs
  | event kind u => exact hQ.alike hfixed (by rw [lotEvent_link]) hs
  | sampler => exact hQ.alike hfixed (samplerTest_sump s) hs
  | pump => exact hQ.judged hs
  | _ => exact hQ.alike hfixed rfl hs

theorem TankSteps.stable {Q : State → Prop} (hQ : PumpStable Q) (h : TankSteps P s x) (hs : Q s) : Q x := by
  induction h with
  | refl => exact hs
  | tail _ step ih => exact step.stable hQ ih

end

/-! ### The actions as chains of steps -/

section
variable {P : Fin 3 → Prop} (s : State)

theorem enterHeld_steps {t : Fin 3} (ht : P t) (reason : HoldReason) : TankSteps P s (enterHeld t reason s) :=
  ((TankSteps.refl.step (.tank t _ s ht)).step (.event .held t _)).step (.flag .lotHeld _)

theorem closeFill_steps {t : Fin 3} (ht : P t) : TankSteps P s (closeFill t s) :=
  (TankSteps.refl.step (.timers t _ s ht)).step (.tank t _ _ ht)

theorem dropFromLists_steps (n : Nat) : TankSteps P s (dropFromLists n s) :=
  TankSteps.refl.step (.lists _ s rfl rfl rfl)

theorem enterSampleWait_steps {t : Fin 3} (ht : P t) : TankSteps P s (enterSampleWait t s) := by
  unfold enterSampleWait
  split
  · exact .refl
  · exact (TankSteps.refl.step (.tank t _ s ht)).step (.lists _ _ rfl rfl rfl)

theorem enterSettling_steps {t : Fin 3} (ht : P t) : TankSteps P s (enterSettling t s) := by
  unfold enterSettling
  split
  · exact .refl
  · have hsettling (f : Lot → Lot) : TankSteps P s (s.modLot t f) := TankSteps.refl.step (.tank t _ s ht)
    dsimp only
    split
    · exact ((hsettling _).trans (enterSampleWait_steps _ ht)).step (.sampler _)
    · exact (hsettling _).step (.timers t _ _ ht)

theorem closeSteps_steps {t : Fin 3} (ht : P t) (byHigh : Bool) : TankSteps P s (closeSteps t byHigh s) :=
  (((((closeFill_steps s ht).step (.tank t _ _ ht)).step (.tank t _ _ ht)).trans (enterSettling_steps _ ht)).step
    (.event .closed t _)).step (.pump _)

theorem openLot_steps {t : Fin 3} (ht : P t) : TankSteps P s (openLot t s) :=
  (((TankSteps.refl.step (.lists (fun k => { k with nextLot := nextNumber s.freshNumber }) s rfl rfl rfl)).step
    (.tank t (fun _ => { state := .filling, lot := some (Lot.opening s.freshNumber s.stamp s.kept.tankSettings[t]) })
      _ ht)).step (.timers t _ _ ht)).step (.pump _)

/-- No tank outside `P` can be opened now: one of them is FILLING, or none of them is EMPTY. -/
def Unopened (P : Fin 3 → Prop) (s : State) : Prop :=
  (∃ t, ¬P t ∧ s.kept.tanks[t].state = .filling) ∨ ∀ t, ¬P t → s.kept.tanks[t].state ≠ .empty

theorem Unopened.after {s x : State} (h : Unopened P s) (hs : TankSteps P s x) : Unopened P x :=
  h.imp (fun ⟨t, ht, hf⟩ => ⟨t, ht, (hs.spares ht).state.trans hf⟩)
    fun h t ht => (hs.spares ht).state ▸ h t ht

theorem fillingTank_isSome {s : State} {t : Fin 3} (h : s.kept.tanks[t].state = .filling) :
    s.fillingTank.isSome = true :=
  List.find?_isSome.mpr ⟨t, List.mem_finRange t, decide_eq_true h⟩

theorem emptyTank_empty {s : State} {t : Fin 3} (h : s.emptyTank = some t) : s.kept.tanks[t].state = .empty :=
  of_decide_eq_true (List.find?_some (p := fun t : Fin 3 => s.kept.tanks[t].state = .empty) h)

theorem fillTurns_filling {s : State} (h : s.fillingTank.isSome = true) (k : Nat) : fillTurns k s = s := by
  cases k with
  | zero => rfl
  | succ k => exact if_pos h

theorem fillTurns_steps {s : State} (h : Unopened P s) (k : Nat) : TankSteps P s (fillTurns k s) := by
  induction k generalizing s with
  | zero => exact .refl
  | succ k ih =>
    rcases h with ⟨t, _, hf⟩ | h
    · rw [fillTurns_filling (fillingTank_isSome hf)]
      exact .refl
    unfold fillTurns
    split
    · exact .refl
    split
    · exact .refl
    next t he =>
      have ht : P t := Classical.not_not.mp fun ht => h t ht (emptyTank_empty he)
      have hopened := openLot_steps s ht
      have hclosed := hopened.trans (closeSteps_steps (openLot t s) ht true)
      dsimp only
      split
      · exact (hclosed.trans (ih (Unopened.after (.inr h) hclosed))).step (.pump _)
      · exact hopened

theorem fillSelection_steps {s : State} (h : Unopened P s) : TankSteps P s (fillSelection s) :=
  fillTurns_steps h 3

theorem closeLot_steps {s : State} {t : Fin 3} (ht : P t) (h : Unopened P s) (byHigh : Bool) :
    TankSteps P s (closeLot t byHigh s) :=
  have hclosed := closeSteps_steps s ht byHigh
  (hclosed.trans (fillSelection_steps (h.after hclosed))).step (.pump _)

theorem stopFilling_steps {s : State} {t : Fin 3} (ht : P t) (h : Unopened P s) (reason : HoldReason) :
    TankSteps P s (stopFilling t reason s) :=
  have hheld := ((closeFill_steps s ht).trans (enterHeld_steps _ ht reason)).step (.pump _)
  hheld.trans (fillSelection_steps (h.after hheld))

/-- With no drain running there is none to stop. -/
theorem stopHeld_idle {s : State} (h : s.path.state = .idle) (cause : StopCause) (reason : HoldReason) :
    stopHeld cause reason s = s := by
  refine if_neg ?_
  rw [Path.draining, h]
  decide

theorem stopLot_steps {s : State} {t : Fin 3} (ht : P t) (h : Unopened P s) (hidle : s.path.state = .idle)
    (cause : StopCause) (reason : HoldReason) : TankSteps P s (stopLot t cause reason s) := by
  unfold stopLot
  split
  · exact .refl
  next l _ =>
    have hdropped := (dropFromLists_steps (P := P) s l.number).trans (enterHeld_steps _ ht reason)
    cases l.state with
    | filling => exact stopFilling_steps ht h reason
    | settling => exact (TankSteps.refl.step (.timers t _ s ht)).trans (enterHeld_steps _ ht reason)
    | sampleWait => exact hdropped
    | queued => exact hdropped
    | polishWait => exact hdropped
    | sampling =>
      exact ((TankSteps.refl.step (.sampled s)).trans (enterHeld_steps _ ht reason)).step (.sampler _)
    | discharging => dsimp only; rw [stopHeld_idle hidle]; exact .refl
    | polishing => dsimp only; rw [stopHeld_idle hidle]; exact .refl
    | held => exact enterHeld_steps s ht reason

theorem switchFaultTest_steps {s : State} {t : Fin 3} (ht : P t) (h : Unopened P s) (hidle : s.path.state = .idle) :
    TankSteps P s (switchFaultTest t s) := by
  unfold switchFaultTest
  split
  · split
    · exact TankSteps.refl.step (.flag _ s)
    · have hfaulted : TankSteps P s (latch (.tankSwitchFault t) (s.modTank t fun k => { k with state := .outOfService })) :=
        (TankSteps.refl.step (.tank t _ s ht)).step (.flag _ _)
      exact hfaulted.trans (stopLot_steps ht (h.after hfaulted) (hfaulted.path ▸ hidle) _ _)
  · exact .refl

theorem makeUnknown_steps {t : Fin 3} (ht : P t) : TankSteps P s (makeUnknown t s) := by
  unfold makeUnknown
  split
  · exact (((TankSteps.refl.step (.lists (fun k => { k with nextLot := nextNumber s.freshNumber }) s rfl rfl rfl)).step
      (.tank t (fun _ => { state := .closed, lot := some (Lot.unknown s.freshNumber s.kept.tankSettings[t]) }) _ ht)).step
      (.event .held t _)).step (.flag .lotHeld _)
  · exact .refl

end

/-- A fold of actions on tanks is a chain of steps, where each of them is. -/
theorem foldl_steps {P : Fin 3 → Prop} (act : Fin 3 → State → State) (I : State → Prop)
    (hI : ∀ {s x}, TankSteps P s x → I s → I x) (l : List (Fin 3))
    (hact : ∀ t ∈ l, ∀ s, I s → TankSteps P s (act t s)) (s : State) (hs : I s) :
    TankSteps P s (l.foldl (fun s t => act t s) s) := by
  induction l generalizing s with
  | nil => exact .refl
  | cons t l ih =>
    have hstep := hact t List.mem_cons_self s hs
    exact hstep.trans (ih (fun u hu => hact u (List.mem_cons_of_mem _ hu)) _ (hI hstep hs))

/-- An action on each tank is what comes before a tank, the action on that tank, and what comes after it. -/
theorem eachTank_split (act : Fin 3 → State → State) (t : Fin 3) : ∃ before after : List (Fin 3),
    t ∉ before ∧ t ∉ after ∧ ∀ s, eachTank act s =
      after.foldl (fun s t => act t s) (act t (before.foldl (fun s t => act t s) s)) := by
  obtain ⟨before, after, hl⟩ := List.append_of_mem (List.mem_finRange t)
  have hnodup := List.nodup_finRange 3
  rw [hl, List.nodup_middle, List.nodup_cons, List.mem_append, not_or] at hnodup
  obtain ⟨⟨hbefore, hafter⟩, -⟩ := hnodup
  exact ⟨before, after, hbefore, hafter, fun s => by rw [eachTank, hl, List.foldl_append, List.foldl_cons]⟩

end Sys2Proof.Machine
end

section
/-! SUPPORT. The arbiter's decision leaves the fixed fields, as the actions of tanks and drains do. -/

namespace Sys2Proof.Machine

open Sys2Proof

section
variable (s : State)

theorem withPermit_fixed (p : PermitRun) : State.fixed { s with permit := p } = s.fixed := rfl

theorem setDayFlags_fixed (f : DayFlags → DayFlags) : (setDayFlags f s).fixed = s.fixed := rfl

theorem putInForce_fixed (p : Permit) : (putInForce p s).fixed = s.fixed := by
  have hday (x : State) : (x.modDay fun d => { d with dayStart := p.dayStart }).fixed = x.fixed := rfl
  have hkept : (s.modKept fun k =>
      { k with permit := { active := some p, digest := some (digestOf p), corrupt := false, next := none } }).fixed
      = s.fixed := rfl
  rw [putInForce, hday, withPermit_fixed, clearByPart_fixed, hkept]

theorem judgeWindow_fixed : (judgeWindow id s).fixed = s.fixed := by
  unfold judgeWindow
  dsimp only [id]
  split
  · rfl
  · rw [interruptDischarge_fixed, withPermit_fixed]
  · rfl
  · rfl

theorem activate_fixed : (activate id s).fixed = s.fixed := by
  unfold activate
  split
  · rfl
  · exact (judgeWindow_fixed _).trans (putInForce_fixed s _)

theorem foundCorrupt_fixed : (foundCorrupt s).fixed = s.fixed := by
  have hmarked : (s.modKept fun k => { k with permit := { k.permit with corrupt := true } }).fixed = s.fixed := rfl
  rw [foundCorrupt, withPermit_fixed, setDayFlags_fixed, latch_fixed, interruptDischarge_fixed, withPermit_fixed, hmarked]

theorem digestCheck_fixed : (digestCheck id s).fixed = s.fixed := by
  unfold digestCheck
  split
  · rfl
  · split
    · rfl
    · rw [activate_fixed, foundCorrupt_fixed]

theorem routeAbove_fixed (t : Fin 3) : (routeAbove t s).fixed = s.fixed := by
  unfold routeAbove
  split
  · rfl
  · dsimp only
    split <;> simp

theorem judgeHeads_fixed (k : Nat) : (judgeHeads k s).fixed = s.fixed := by
  induction k generalizing s with
  | zero => rfl
  | succ k ih =>
    unfold judgeHeads
    split
    · split
      · rfl
      · split
        · rw [ih, routeAbove_fixed, dropFromLists_fixed]
        · rfl
    · rfl

theorem takeDischarge_fixed (t : Fin 3) (grant : Grant) (remaining : Int) :
    (takeDischarge t grant remaining s).fixed = s.fixed := by
  unfold takeDischarge
  split
  · rfl
  · dsimp only
    split
    · rw [handNotice_fixed]; rfl
    · rw [runDry_fixed, handNotice_fixed]; rfl

theorem takePolish_fixed (t : Fin 3) : (takePolish t s).fixed = s.fixed := by
  unfold takePolish
  split
  · rfl
  · dsimp only
    split
    · rw [handNotice_fixed]; rfl
    · rw [drainLowLost_fixed, handNotice_fixed]; rfl

theorem polishStep_fixed : (polishStep s).fixed = s.fixed := by
  unfold polishStep
  split
  · rfl
  · split
    · split
      · rfl
      · exact takePolish_fixed s _
    · rfl

theorem refuseRelease_fixed (p : Permit) : (refuseRelease s p).fixed = s.fixed := by
  unfold refuseRelease
  split
  · rw [setDayFlags_fixed, latch_fixed]
  · rfl

theorem judgeRelease_fixed (t : Fin 3) (l : Lot) (p : Permit) : (judgeRelease t l p s).fixed = s.fixed := by
  unfold judgeRelease
  dsimp only
  split
  · exact takeDischarge_fixed s _ _ _
  · rw [polishStep_fixed, refuseRelease_fixed]

theorem decide_fixed : (Machine.decide s).fixed = s.fixed := by
  have hjudged (k : Nat) : (judgeHeads k (digestCheck id s)).fixed = s.fixed := by
    rw [judgeHeads_fixed, digestCheck_fixed]
  unfold Machine.decide
  split
  · exact polishStep_fixed s
  · dsimp only
    split
    · split
      · rw [polishStep_fixed, hjudged]
      · split
        · rw [polishStep_fixed, hjudged]
        · rw [judgeRelease_fixed, hjudged]
    · rw [polishStep_fixed, hjudged]

theorem occasion_fixed : (occasion s).fixed = s.fixed := by
  unfold occasion
  split
  · exact decide_fixed s
  · rfl

/-- The arbiter's first decision sets the mark that it has started. -/
theorem firstDecision_fixed : (firstDecision s).fixed = { s.fixed with pathStarted := true } := by
  rw [firstDecision, occasion_fixed]
  rfl

/-- The starting levels are taken, whatever Tank Control, the cells and the arbiter then do. -/
theorem startingLevels_fixed : (startingLevels s).fixed =
    { s.fixed with
      switches := s.switches.map fun k => { k with accepted := some k.pin, debounce := none }
      startUp := { s.startUp with levels := none }, levelsTaken := true, pathStarted := true } := by
  have hflow (x : State) : ((List.finRange 4).foldl (fun s c => startingFlow c s) x).fixed = x.fixed :=
    foldl_keeps _ State.fixed (fun s c => startingFlow_fixed s c) _ x
  unfold startingLevels
  dsimp only
  rw [firstDecision_fixed, hflow, takeLevels_fixed]
  rfl

end

end Sys2Proof.Machine
end

section
/-! PROOF of O59, first part. The end of the restore and its judgement of the supply, the starting levels, and a completed
write of the image (R18, R187 to R189). -/

namespace Sys2Proof.Machine

open Sys2Proof

/-! ### The supply found low at the restore's end (assumption 5) -/

section
variable (s : State)

/-- In a supply hold the pump is not wanted, and its judgement changes the sump alone. -/
theorem pumpJudge_held (h : s.sump.hold = true) : ∃ sump, pumpJudge s = { s with sump := sump } := by
  have hwanted : s.pumpWanted = false := by simp [State.pumpWanted, h]
  cases hp : s.sump.pump with
  | true => exact ⟨_, pumpJudge_stops hwanted hp⟩
  | false => exact ⟨s.sump, pumpJudge_stays (hwanted.trans hp.symm)⟩

theorem holdSampler_eq : ∃ sampler kept, holdSampler s = { s with sampler := sampler, kept := kept } := by
  unfold holdSampler
  dsimp only
  split
  · exact ⟨_, s.kept, rfl⟩
  · unfold enterSampleWait
    split
    · exact ⟨_, s.kept, rfl⟩
    · exact ⟨_, _, rfl⟩

/-- A supply hold marks the blocks; beside the marks it changes the sump, the Sampler, the lots and the lists. -/
theorem holdBlocks_eq : ∃ sump sampler kept, holdBlocks s =
    { s with
      supply := { s.supply with hold := true, recovery := none }
      cells := s.cells.map (·.setHold s.now)
      loops := s.loops.map fun k => { k.forceClosed.unwatched with hold := true }
      sump := sump, sampler := sampler, kept := kept } := by
  let marked : State := { s with
    supply := { s.supply with hold := true, recovery := none }
    cells := s.cells.map (·.setHold s.now)
    loops := s.loops.map fun k => { k.forceClosed.unwatched with hold := true } }
  have hblocks : holdBlocks s = holdSampler (pumpJudge { marked with sump := { s.sump with hold := true } }) := rfl
  obtain ⟨sump, hpump⟩ := pumpJudge_held { marked with sump := { s.sump with hold := true } } rfl
  rw [hblocks, hpump]
  obtain ⟨sampler, kept, hsampler⟩ := holdSampler_eq { marked with sump := sump }
  exact ⟨sump, sampler, kept, hsampler⟩

theorem holdPath_idle (h : s.path.state = .idle) : holdPath s = { s with path := { s.path with hold := true } } := by
  simp only [holdPath, h, State.modPath]

theorem latch_inbound (f : Flag) : (latch f s).link.inbound = s.link.inbound := by
  have hhanded (k : Link) (enabled : Bool) (key : Fin 33) (content : NoticeContent) :
      (k.handed enabled key content).inbound = k.inbound := by
    unfold Link.handed
    split
    · dsimp only
      split
      · split <;> rfl
      · rfl
    · rfl
  unfold latch
  split
  · rfl
  · rw [handAlert, handNotice_handed]
    exact hhanded _ _ _ _

theorem setHold_hold (k : Cell) (now : Micros) : (k.setHold now).hold = true := by
  unfold Cell.setHold
  split <;> rfl

/-- What a supply found low makes of an IDLE path's blocks. -/
theorem firstJudgement_low (hlow : s.supply.level < s.threshold) (hidle : s.path.state = .idle) :
    let t := firstJudgement s
    t.phase = s.phase ∧ t.startUp = s.startUp ∧ t.supply.hold = true ∧ t.path.hold = true ∧
      t.latched .supplyLow = true ∧ t.store = s.store ∧ (∀ c : Fin 4, t.cells[c].hold = true) ∧
      (∀ l : Fin 4, t.loops[l].hold = true) ∧ t.link.inbound = s.link.inbound := by
  obtain ⟨sump, sampler, kept, hblocks⟩ := holdBlocks_eq s
  have ht : firstJudgement s = latch .supplyLow (holdPath (holdBlocks s)) := if_pos hlow
  have hpath : (holdBlocks s).path.state = .idle := by
    rw [hblocks]
    exact hidle
  dsimp only
  rw [ht, holdPath_idle _ hpath, hblocks]
  refine ⟨latch_phase _ _, latch_startUp _ _, ?_, ?_, latch_latched _ _, latch_store _ _, fun c => ?_, fun l => ?_,
    latch_inbound _ _⟩
  · rw [latch_supply]
  · rw [latch_path]
  · rw [latch_cells]
    dsimp only
    rw [Vector.map_fin]
    exact setHold_hold _ _
  · rw [latch_loops]
    dsimp only
    rw [Vector.map_fin]

/-- With no frame waiting, the restore's end claims no place. -/
theorem execRestoreEnd_eq (dt : Micros) (h : s.phase = .restoring)
    (hin : (endRestore (s.after dt)).link.inbound = []) :
    exec (.restoreEnd dt) s = .next (endRestore (s.after dt)) := by
  have hexec : execRestoreEnd dt s = .next (claims 0 (endRestore (s.after dt))) := congrArg Host.Outcome.next (if_pos h)
  exact hexec.trans (congrArg Host.Outcome.next (settle_done _ 0 _ hin (.inr rfl)))

end

/-- The start of the running part, before the supply is judged. -/
def State.restored (s : State) : State :=
  { s with
    phase := .running
    startUp := { s.startUp with levels := some { start := s.now, len := s.kept.plant.debounce * ms } } }

theorem endRestore_eq (s : State) :
    endRestore s = if s.supply.hold then s.restored else firstJudgement s.restored := rfl

theorem endRestore_stands {s : State}
    (h : s.supply.hold = true ∨ thresholdOf s.kept.plant.threshold ≤ s.supply.level) : endRestore s = s.restored := by
  rw [endRestore_eq]
  split
  · rfl
  · next hh => exact if_neg (Nat.not_lt.mpr (h.resolve_left hh))

/-- The marks of a state whose fixed fields are those after the starting levels. -/
theorem marks_of_fixed {s x : State} (h : x.fixed =
    { s.fixed with
      switches := s.switches.map fun k => { k with accepted := some k.pin, debounce := none }
      startUp := { s.startUp with levels := none }, levelsTaken := true, pathStarted := true }) :
    x.startUp.levels = none ∧ x.sump.levelsTaken = true ∧ x.path.started = true ∧
      ∀ i : Fin 12, x.switches[i] =
        { pin := s.switches[i].pin, accepted := some s.switches[i].pin, debounce := none } := by
  have hswitches : x.switches = s.switches.map fun k => { k with accepted := some k.pin, debounce := none } :=
    congrArg Fixed.switches h
  have hstartUp : x.startUp = { s.startUp with levels := none } := congrArg Fixed.startUp h
  exact ⟨by rw [hstartUp], congrArg Fixed.levelsTaken h, congrArg Fixed.pathStarted h,
    fun i => by rw [hswitches]; exact Vector.map_fin _ _ _⟩

theorem completeWrite_waiting (s : State) (w : ImageWrite) (kind : WriteKind) (h : s.store.inFlight = some w)
    (hw : s.store.waiting = some kind) :
    completeWrite s = { s with
      store := { image := none, inFlight := some { kind := kind, content := s.kept }, waiting := none }
      startUp := { s.startUp with restoreStands := false } } := by
  simp [completeWrite, h, hw, startWrite]

/-- The restore ends in the NORMAL or the HOLD that the judgement of the supply has found. -/
theorem restoreEnds (dt : Micros) (s : State) :
    let x := s.after dt
    let levels : Option Timer := some { start := x.now, len := s.kept.plant.debounce * ms }
    let threshold := thresholdOf s.kept.plant.threshold
    (s.phase = .restoring → s.link.inbound = [] →
      (s.supply.hold = true ∨ threshold ≤ s.supply.level → exec (.restoreEnd dt) s = .next { x with
        phase := .running, startUp := { s.startUp with levels := levels } }) ∧
      (s.supply.hold = false → s.supply.level < threshold → s.path.state = .idle →
        ∃ t, exec (.restoreEnd dt) s = .next t ∧ t.phase = .running ∧ t.startUp.levels = levels ∧
          t.supply.hold = true ∧ t.path.hold = true ∧ t.latched .supplyLow = true ∧ t.store = s.store ∧
          (∀ c : Fin 4, t.cells[c].hold = true) ∧ ∀ l : Fin 4, t.loops[l].hold = true)) := by
  intro x levels threshold hphase hin
  refine ⟨fun h => ?_, fun hhold hlow hidle => ?_⟩
  · have hend : endRestore (s.after dt) = (s.after dt).restored := endRestore_stands h
    rw [execRestoreEnd_eq s dt hphase (by rw [hend]; exact hin), hend]
    rfl
  · have hend : endRestore (s.after dt) = firstJudgement (s.after dt).restored := by
      rw [endRestore_eq]
      exact if_neg (by rw [State.after_supply, hhold]; decide)
    obtain ⟨hrunning, hlevels, hsupply, hpath, hflag, hstore, hcells, hloops, hin'⟩ :=
      firstJudgement_low (s.after dt).restored hlow hidle
    refine ⟨_, execRestoreEnd_eq s dt hphase (by rw [hend, hin']; exact hin), ?_⟩
    rw [hend]
    exact ⟨hrunning, congrArg StartUp.levels hlevels, hsupply, hpath, hflag, hstore, hcells, hloops⟩

theorem execStartingLevels {dt : Micros} {s : State} (hawake : s.awake = true)
    (hdue : timerDue s.startUp.levels (s.after dt).now = true) :
    exec (.switchStartingLevels dt) s = .next (startingLevels (s.after dt)) :=
  congrArg Host.Outcome.next (whenDue_of (s := s.after dt) hawake hdue startingLevels)

/-- A completed write of the image: nothing without a write in flight, and the store with the image and the next write
with one. -/
theorem imageWritten {dt : Micros} {s : State} (hawake : s.awake = true) :
    let x := s.after dt
    (s.store.inFlight = none → exec (.imageWriteComplete dt) s = .next x) ∧
      ∀ w : ImageWrite, s.store.inFlight = some w →
        (s.store.waiting = none → exec (.imageWriteComplete dt) s = .next { x with
          store :=
            { image := some { content := w.content, crc := crc32 (Config.imageBytes w.content) }
              inFlight := none, waiting := none }
          startUp := { s.startUp with restoreStands := false } }) ∧
        ∀ kind : WriteKind, s.store.waiting = some kind → exec (.imageWriteComplete dt) s = .next { x with
          store := { image := none, inFlight := some { kind := kind, content := s.kept }, waiting := none }
          startUp := { s.startUp with restoreStands := false } } := by
  have hexec : exec (.imageWriteComplete dt) s = .next (completeWrite (s.after dt)) :=
    congrArg Host.Outcome.next (whenAwake_of (s := s.after dt) hawake completeWrite)
  refine ⟨fun hnone => ?_, fun w hw => ⟨fun hwaiting => ?_, fun kind hwaiting => ?_⟩⟩ <;> rw [hexec]
  · have hwrite : completeWrite (s.after dt) = s.after dt := by
      rw [completeWrite, State.after_store, hnone]
    rw [hwrite]
  · rw [completeWrite_image (s.after dt) w hw hwaiting]
    rfl
  · rw [completeWrite_waiting (s.after dt) w kind hw hwaiting]
    rfl

end Sys2Proof.Machine
end

section
/-! PROOF of O59, second part. What Tank Control makes of the starting levels: the switch fault tests (R82), the sump
(R76, R78), a restored FILLING lot (R81, R85), and the lots of a failed restore (R102). -/

namespace Sys2Proof.Machine

open Sys2Proof

/-! ### Tank Control's actions on the starting levels -/

/-- What follows the switch fault tests. -/
def controlStarts (restored : Bool) (s : State) : State :=
  let judged := startFilling (startSump s)
  samplerTest (pumpJudge (fillSelection (if restored then judged else eachTank makeUnknown judged)))

/-- The state with the mark that the levels are taken. -/
def State.taken (s : State) : State :=
  { s with sump := { s.sump with levelsTaken := true } }

theorem startSump_eq (s : State) : startSump s = { s with sump := (startSump s).sump } := by
  unfold startSump
  split <;> rfl

theorem startSump_spares (s : State) (t : Fin 3) : Spares t s (startSump s) := by
  rw [startSump_eq]
  exact .of_eq t rfl rfl rfl fun _ hf => hf

theorem makeUnknown_dry {s : State} {t : Fin 3} (h : s.covered (.tankLow t) = false) : makeUnknown t s = s := by
  refine if_neg ?_
  rw [h, Bool.false_and]
  exact Bool.false_ne_true

theorem fillingTank_filling {s : State} {t : Fin 3} (h : s.fillingTank = some t) :
    s.kept.tanks[t].state = .filling :=
  of_decide_eq_true (List.find?_some (p := fun t : Fin 3 => s.kept.tanks[t].state = .filling) h)

section
variable {P : Fin 3 → Prop}

/-- The start of the filling tank acts on that tank and on the EMPTY ones. -/
theorem startFilling_steps {s : State} (he : ∀ t, ¬P t → s.kept.tanks[t].state ≠ .empty)
    (hf : ∀ t, ¬P t → s.kept.tanks[t].state ≠ .filling) : TankSteps P s (startFilling s) := by
  unfold startFilling
  split
  · exact .refl
  next t ht =>
    have hP : P t := Classical.not_not.mp fun h => hf t h (fillingTank_filling ht)
    split
    · exact closeLot_steps hP (.inr he) true
    · exact TankSteps.refl.step (.timers t _ s hP)

/-- Where each tank outside `P` is dry, the lots of unknown content are in tanks of `P`. -/
theorem makeUnknowns_steps {s : State} (hdry : ∀ t, ¬P t → s.covered (.tankLow t) = false) :
    TankSteps P s (eachTank makeUnknown s) := by
  refine foldl_steps makeUnknown (fun x => ∀ t, ¬P t → x.covered (.tankLow t) = false)
    (fun hsteps h t ht => (covered_of_fixed hsteps.fixed _).trans (h t ht)) _ (fun t _ x h => ?_) s hdry
  by_cases ht : P t
  · exact makeUnknown_steps x ht
  · rw [makeUnknown_dry (h t ht)]
    exact .refl

/-- What Tank Control begins with acts on tanks of `P`, where the others are not FILLING or EMPTY and need no lot. -/
theorem controlStarts_steps {s : State} {restored : Bool} (he : ∀ t, ¬P t → s.kept.tanks[t].state ≠ .empty)
    (hf : ∀ t, ¬P t → s.kept.tanks[t].state ≠ .filling)
    (hdry : restored = true ∨ ∀ t, ¬P t → s.covered (.tankLow t) = false) :
    TankSteps P (startSump s) (controlStarts restored s) := by
  have hstate (t : Fin 3) : (startSump s).kept.tanks[t].state = s.kept.tanks[t].state := (startSump_spares s t).state
  have hfilled : TankSteps P (startSump s) (startFilling (startSump s)) :=
    startFilling_steps (fun t ht => hstate t ▸ he t ht) fun t ht => hstate t ▸ hf t ht
  have hmade : TankSteps P (startSump s)
      (if restored then startFilling (startSump s) else eachTank makeUnknown (startFilling (startSump s))) := by
    cases restored with
    | true => exact hfilled
    | false =>
      refine hfilled.trans (makeUnknowns_steps fun t ht => ?_)
      rw [covered_of_fixed hfilled.fixed, covered_of_fixed (startSump_fixed s)]
      exact hdry.resolve_left (by decide) t ht
  have hempty : Unopened P (startSump s) := .inr fun t ht => hstate t ▸ he t ht
  exact ((hmade.trans (fillSelection_steps (hempty.after hmade))).step (.pump _)).step (.sampler _)

/-- The switch fault tests of some tanks, on a path that is IDLE. -/
theorem faultTests_steps {s : State} (l : List (Fin 3)) (hl : ∀ t ∈ l, P t) (hidle : s.path.state = .idle)
    (h : Unopened P s) : TankSteps P s (l.foldl (fun s t => switchFaultTest t s) s) :=
  foldl_steps switchFaultTest (fun x => x.path.state = .idle ∧ Unopened P x)
    (fun hsteps ⟨hidle, h⟩ => ⟨hsteps.path ▸ hidle, h.after hsteps⟩) l
    (fun t ht _ ⟨hidle, h⟩ => switchFaultTest_steps (hl t ht) h hidle) s ⟨hidle, h⟩

end

/-- Every chain of steps acts on some tank. -/
theorem unopened_any (s : State) : Unopened (fun _ => True) s :=
  .inr fun _ h => absurd trivial h

/-- A tank that is not EMPTY is not opened. -/
theorem unopened_other {s : State} {t : Fin 3} (h : s.kept.tanks[t].state ≠ .empty) : Unopened (· ≠ t) s :=
  .inr fun _ hu => Classical.not_not.mp hu ▸ h

/-! ### Switch faults (R82) -/

/-- The number and the current volume of a lot. -/
def Lot.identity (l : Lot) : Nat × Nat :=
  (l.number, l.current)

/-- What a stop leaves of a lot that it holds. -/
structure HeldAt (t : Fin 3) (l : Lot) (reason : HoldReason) (s : State) : Prop where
  flag : s.latched .lotHeld = true
  lot : ∃ l', s.lotIn t = some l' ∧ l'.identity = l.identity ∧ l'.holdReason = some reason

theorem HeldAt.after {t : Fin 3} {l : Lot} {reason : HoldReason} {s x : State} (h : HeldAt t l reason s)
    (hs : Spares t s x) : HeldAt t l reason x := by
  obtain ⟨l', hl', hidentity, hreason⟩ := h.lot
  obtain ⟨l'', hl'', heq⟩ := hs.lotIn hl'
  refine ⟨hs.flags _ h.flag, l'', hl'', ?_⟩
  rcases heq with rfl | rfl <;> exact ⟨hidentity, hreason⟩

/-- What leaves the state of a tank, what is read of its lot, and the flags. -/
structure KeepsLot {β : Type} (read : Lot → β) (t : Fin 3) (s x : State) : Prop where
  state : x.kept.tanks[t].state = s.kept.tanks[t].state
  lot : ∀ l, s.lotIn t = some l → ∃ l', x.lotIn t = some l' ∧ read l' = read l
  flags : ∀ f, s.latched f = true → x.latched f = true

section
variable {β : Type} {read : Lot → β} {t : Fin 3} {s x y : State}

theorem KeepsLot.modLot (h : KeepsLot read t s x) (f : Lot → Lot) (hf : ∀ l, read (f l) = read l) :
    KeepsLot read t s (x.modLot t f) where
  state := by rw [State.modLot, modTank_same]; exact h.state
  lot l hl := by
    obtain ⟨l', hl', hread⟩ := h.lot l hl
    exact ⟨f l', (modLot_lotIn x t f).trans (congrArg (Option.map f) hl'), (hf l').trans hread⟩
  flags := h.flags

/-- What leaves a tank and the flags keeps its lot. -/
theorem KeepsLot.of_eq (htank : x.kept.tanks[t] = s.kept.tanks[t]) (hflags : x.flags = s.flags) :
    KeepsLot read t s x where
  state := congrArg Tank.state htank
  lot l hl := ⟨l, (congrArg Tank.lot htank).trans hl, rfl⟩
  flags f hf := by rw [State.latched, hflags]; exact hf

/-- What then spares the tank keeps what does not read the state of the lot. -/
theorem KeepsLot.after (h : KeepsLot read t s x) (hs : Spares t x y) (hread : ∀ l : Lot, read l.atSampler = read l) :
    KeepsLot read t s y where
  state := hs.state.trans h.state
  lot l hl := by
    obtain ⟨l', hl', hx⟩ := h.lot l hl
    obtain ⟨l'', hl'', heq⟩ := hs.lotIn hl'
    refine ⟨l'', hl'', ?_⟩
    rcases heq with rfl | rfl
    · exact hx
    · exact (hread l').trans hx
  flags f hf := hs.flags f (h.flags f hf)

end

/-- A lot that is held: its tank keeps its state. -/
theorem enterHeld_at {t : Fin 3} {s x : State} (h : KeepsLot Lot.identity t s x) (reason : HoldReason) :
    (enterHeld t reason x).kept.tanks[t].state = s.kept.tanks[t].state ∧
      (∀ f, s.latched f = true → (enterHeld t reason x).latched f = true) ∧
      ∀ l, s.lotIn t = some l → HeldAt t l reason (enterHeld t reason x) := by
  let held := x.modLot t fun l => { l with state := .held, holdReason := some reason }
  have hheld : KeepsLot Lot.identity t s held := h.modLot _ fun _ => rfl
  have htold : Spares t held (enterHeld t reason x) :=
    TankSteps.spares (P := fun _ => False) ((TankSteps.refl.step (.event .held t held)).step (.flag .lotHeld _)) id
  refine ⟨htold.state.trans hheld.state, fun f hf => htold.flags f (hheld.flags f hf), fun l hl => ⟨latch_latched _ _, ?_⟩⟩
  obtain ⟨l', hl', hidentity⟩ := h.lot l hl
  have hlot : held.lotIn t = some { l' with state := .held, holdReason := some reason } :=
    (modLot_lotIn x t _).trans (congrArg _ hl')
  obtain ⟨l'', hl'', heq⟩ := htold.lotIn hlot
  refine ⟨l'', hl'', ?_⟩
  rcases heq with rfl | rfl <;> exact ⟨hidentity, rfl⟩

/-- A stop on an IDLE path holds every lot that the path has not: what comes before the hold keeps the lot, and what
comes after it acts on other tanks. -/
theorem stopLot_holds {t : Fin 3} {s : State} {l : Lot} (hl : s.lotIn t = some l)
    (hopen : s.kept.tanks[t].state ≠ .empty) (hd : l.state ≠ .discharging ∧ l.state ≠ .polishing) (cause : StopCause)
    (reason : HoldReason) : ∃ x, KeepsLot Lot.identity t s x ∧ Spares t (enterHeld t reason x) (stopLot t cause reason s) := by
  have hself (x : State) : Spares t x x := .of_eq t rfl rfl rfl fun _ hf => hf
  have hdropped : ∃ x, KeepsLot Lot.identity t s x ∧ Spares t (enterHeld t reason x) (enterHeld t reason (dropFromLists l.number s)) :=
    ⟨_, KeepsLot.of_eq (x := dropFromLists l.number s) rfl rfl, hself _⟩
  unfold stopLot
  rw [hl]
  dsimp only
  cases hstate : l.state with
  | filling =>
    have htimer : KeepsLot Lot.identity t s (s.modTimers t fun k => { k with maxFill := none }) := .of_eq rfl rfl
    have hclosed : KeepsLot Lot.identity t s (closeFill t s) :=
      htimer.modLot (fun l => { l with closed := some s.stamp }) fun _ => rfl
    have hopen' : (enterHeld t reason (closeFill t s)).kept.tanks[t].state ≠ .empty := by
      rw [(enterHeld_at hclosed reason).1]; exact hopen
    have hpump : TankSteps (· ≠ t) (enterHeld t reason (closeFill t s)) (pumpJudge (enterHeld t reason (closeFill t s))) :=
      TankSteps.refl.step (.pump _)
    exact ⟨_, hclosed,
      (hpump.trans (fillSelection_steps ((unopened_other hopen').after hpump))).spares fun h => h rfl⟩
  | settling => exact ⟨_, KeepsLot.of_eq (x := s.modTimers t _) rfl rfl, hself _⟩
  | sampleWait => exact hdropped
  | queued => exact hdropped
  | polishWait => exact hdropped
  | sampling =>
    exact ⟨_, KeepsLot.of_eq (x := samplerEnd s) rfl rfl,
      TankSteps.spares (P := fun _ => False) (TankSteps.refl.step (.sampler _)) id⟩
  | discharging => exact absurd hstate hd.1
  | polishing => exact absurd hstate hd.2
  | held => exact ⟨s, .of_eq rfl rfl, hself _⟩

/-- A stop keeps the state of the tank, clears no flag, and holds a lot that the path has not. -/
theorem stopLot_at {t : Fin 3} {s : State} (hidle : s.path.state = .idle) (hopen : s.kept.tanks[t].state ≠ .empty)
    (cause : StopCause) (reason : HoldReason) :
    (stopLot t cause reason s).kept.tanks[t].state = s.kept.tanks[t].state ∧
      (∀ f, s.latched f = true → (stopLot t cause reason s).latched f = true) ∧
      ∀ l, s.lotIn t = some l → l.state ≠ .discharging ∧ l.state ≠ .polishing →
        HeldAt t l reason (stopLot t cause reason s) := by
  cases hl : s.lotIn t with
  | none =>
    have hstop : stopLot t cause reason s = s := by simp only [stopLot, hl]
    rw [hstop]
    exact ⟨rfl, fun _ hf => hf, fun _ h => nomatch h⟩
  | some l =>
    by_cases hd : l.state ≠ .discharging ∧ l.state ≠ .polishing
    · obtain ⟨x, hx, hafter⟩ := stopLot_holds hl hopen hd cause reason
      obtain ⟨hstate, hflags, hheld⟩ := enterHeld_at hx reason
      refine ⟨hafter.state.trans hstate, fun f hf => hafter.flags f (hflags f hf), fun l' hl' _ => ?_⟩
      exact (hheld l' (hl.trans hl')).after hafter
    · have hstop : stopLot t cause reason s = s := by
        rw [not_and_or, Classical.not_not, Classical.not_not] at hd
        rcases hd with h | h <;> simp only [stopLot, hl, h] <;> exact stopHeld_idle hidle _ _
      rw [hstop]
      exact ⟨rfl, fun _ hf => hf, fun l' hl' h' => absurd (Option.some.inj hl' ▸ h') hd⟩

/-- The test of a tank whose switches disagree. -/
theorem switchFaultTest_found {t : Fin 3} {s : State} (hidle : s.path.state = .idle) (h : s.switchesDisagree t = true) :
    (switchFaultTest t s).kept.tanks[t].state = .outOfService ∧
      (switchFaultTest t s).latched (.tankSwitchFault t) = true ∧
      (s.kept.tanks[t].state ≠ .outOfService → ∀ l, s.lotIn t = some l →
        l.state ≠ .discharging ∧ l.state ≠ .polishing → HeldAt t l .switchFault (switchFaultTest t s)) := by
  by_cases hout : s.kept.tanks[t].state = .outOfService
  · have htest : switchFaultTest t s = latch (.tankSwitchFault t) s := by
      rw [switchFaultTest, if_pos h, if_pos hout]
    rw [htest]
    exact ⟨by rw [latch_kept, hout], latch_latched _ _, fun h => absurd hout h⟩
  · let faulted := latch (.tankSwitchFault t) (s.modTank t fun k => { k with state := .outOfService })
    have htest : switchFaultTest t s = stopLot t .switchFault .switchFault faulted := by
      rw [switchFaultTest, if_pos h, if_neg hout]
    have htank : faulted.kept.tanks[t] = { s.kept.tanks[t] with state := .outOfService } := by
      rw [show faulted.kept = _ from latch_kept _ _]
      exact modTank_same _ _ _
    have hlot : faulted.lotIn t = s.lotIn t := by rw [State.lotIn, htank]; rfl
    have hpath : faulted.path.state = .idle := by
      rw [show faulted.path = _ from latch_path _ _]
      exact hidle
    obtain ⟨hstate, hflags, hheld⟩ := stopLot_at hpath (by rw [htank]; nofun) .switchFault .switchFault
    rw [htest]
    exact ⟨by rw [hstate, htank], hflags _ (latch_latched _ _), fun _ l hl => hheld l (hlot.trans hl)⟩

end Sys2Proof.Machine
end

section
/-! PROOF of O59, third part. The clauses on the starting levels, and the assembled statement. -/

namespace Sys2Proof.Machine

open Sys2Proof

/-! ### A tank whose switches disagree -/

/-- A tank whose switches disagree is OUT_OF_SERVICE after the tests, and its lot HELD unless the path has it. -/
theorem faultTests_found {s : State} {t : Fin 3} (hidle : s.path.state = .idle) (h : s.switchesDisagree t = true) :
    let u := eachTank switchFaultTest s
    u.kept.tanks[t].state = .outOfService ∧ u.latched (.tankSwitchFault t) = true ∧
      (s.kept.tanks[t].state ≠ .outOfService → s.kept.tanks[t].state ≠ .empty → ∀ l, s.lotIn t = some l →
        l.state ≠ .discharging ∧ l.state ≠ .polishing → HeldAt t l .switchFault u) := by
  obtain ⟨before, after, hbefore, hafter, hsplit⟩ := eachTank_split switchFaultTest t
  have hx := faultTests_steps before (fun _ _ => trivial) hidle (unopened_any s)
  rw [hsplit]
  generalize hxs : before.foldl (fun s t => switchFaultTest t s) s = x at hx
  have hidle' : x.path.state = .idle := hx.path ▸ hidle
  obtain ⟨hout, hflag, hheld⟩ := switchFaultTest_found hidle' (switchesDisagree_of_fixed hx.fixed t ▸ h)
  have hy : (switchFaultTest t x).path.state = .idle :=
    (switchFaultTest_steps (P := fun _ => True) trivial (unopened_any x) hidle').path ▸ hidle'
  have hrest : Spares t (switchFaultTest t x) (after.foldl (fun s t => switchFaultTest t s) (switchFaultTest t x)) :=
    (faultTests_steps (P := (· ≠ t)) after (fun u hu hut => hafter (hut ▸ hu)) hy
      (unopened_other (by rw [hout]; nofun))).spares fun h => h rfl
  refine ⟨hrest.state.trans hout, hrest.flags _ hflag, fun hin hfull l hl hd => ?_⟩
  have hspared : Spares t s x := by
    rw [← hxs]
    exact (faultTests_steps (P := (· ≠ t)) before (fun u hu hut => hbefore (hut ▸ hu)) hidle (unopened_other hfull)).spares fun h => h rfl
  obtain ⟨l', hl', heq⟩ := hspared.lotIn hl
  have hheld' := (hheld (by rw [hspared.state]; exact hin) l' hl' (by
    rcases heq with rfl | rfl
    · exact hd
    · exact ⟨nofun, nofun⟩)).after hrest
  obtain ⟨hlot, l'', hl'', hidentity, hreason⟩ := hheld'
  refine ⟨hlot, l'', hl'', ?_⟩
  rcases heq with rfl | rfl <;> exact ⟨hidentity, hreason⟩

/-- What follows the tests leaves a tank OUT_OF_SERVICE whose lower switch is uncovered. -/
theorem controlStarts_spares {s : State} {t : Fin 3} (restored : Bool) (ht : s.kept.tanks[t].state = .outOfService)
    (hdry : s.covered (.tankLow t) = false) : Spares t s (controlStarts restored s) := by
  have heq (u : Fin 3) (hu : ¬u ≠ t) : u = t := Classical.not_not.mp hu
  exact (startSump_spares s t).trans ((controlStarts_steps (P := (· ≠ t)) (fun u hu => by rw [heq u hu, ht]; nofun)
    (fun u hu => by rw [heq u hu, ht]; nofun) (.inr fun u hu => heq u hu ▸ hdry)).spares fun h => h rfl)

/-! ### The sump -/

/-- A sump at rest stays so while no call mark is set. -/
theorem restingSump_stable (k : Sump) (hpump : k.pump = false) (hcall : k.callMark = false) :
    PumpStable fun s => s.sump = k where
  alike _ hsump hs := hsump.trans hs
  judged {s} hs := by
    have hwanted : s.pumpWanted = false := by simp [State.pumpWanted, hs, hpump, hcall]
    rw [pumpJudge_stays (by rw [hwanted, hs, hpump])]
    exact hs

/-- The call mark stands as SUMP_HIGH, and the backup timer runs with it while the pump does not. -/
structure SumpStands (s : State) : Prop where
  call : s.sump.callMark = s.covered .sumpHigh
  pump : s.sump.pump = true → s.covered .sumpHigh = true
  timer : s.sump.backupTimer = if s.covered .sumpHigh && !s.sump.pump then some s.backupStarted else none

theorem sumpStands_stable : PumpStable SumpStands where
  alike hfixed hsump h := by
    refine ⟨?_, ?_, ?_⟩ <;> rw [hsump]
    · rw [covered_of_fixed hfixed]; exact h.call
    · rw [covered_of_fixed hfixed]; exact h.pump
    · rw [covered_of_fixed hfixed, backupStarted_of_fixed hfixed]; exact h.timer
  judged {s} h := by
    have hfixed := pumpJudge_fixed s
    by_cases hsame : s.pumpWanted = s.sump.pump
    · rw [pumpJudge_stays hsame]; exact h
    cases hp : s.sump.pump with
    | false =>
      have hwanted : s.pumpWanted = true := by simpa [hp] using hsame
      have hcall : s.covered .sumpHigh = true := by
        rw [← h.call]
        simp only [State.pumpWanted, hp, Bool.false_or, Bool.and_eq_true] at hwanted
        exact hwanted.1.1.2
      rw [pumpJudge_starts hwanted hp] at hfixed ⊢
      refine ⟨?_, ?_, ?_⟩ <;> rw [startPump_sump, covered_of_fixed hfixed]
      · exact h.call
      · exact fun _ => hcall
      · rw [Bool.not_true, Bool.and_false]; rfl
    | true =>
      have hwanted : s.pumpWanted = false := by simpa [hp] using hsame
      have hcall := h.pump hp
      rw [pumpJudge_stops hwanted hp]
      refine ⟨rfl, nofun, ?_⟩
      have hstop : (stopPump s).sump.backupTimer = some s.backupStarted := if_pos hcall
      have hgo : ((stopPump s).covered .sumpHigh && !(stopPump s).sump.pump) = true := by
        rw [show (stopPump s).covered .sumpHigh = true from hcall]; rfl
      rw [hstop, if_pos hgo]
      rfl

/-- The pump's judgement leaves the pump as it is wanted. -/
theorem pumpJudge_pump (s : State) : (pumpJudge s).sump.pump = s.pumpWanted := by
  cases hw : s.pumpWanted <;> cases hp : s.sump.pump
  · rw [pumpJudge_stays (hw.trans hp.symm), hp]
  · rw [pumpJudge_stops hw hp]; rfl
  · rw [pumpJudge_starts hw hp, startPump_sump]
  · rw [pumpJudge_stays (hw.trans hp.symm), hp]

theorem fillingTank_congr {s x : State} (h : ∀ t : Fin 3, x.kept.tanks[t].state = s.kept.tanks[t].state) :
    x.fillingTank = s.fillingTank := by
  simp only [State.fillingTank, h]

/-- The sump's start sets the call mark and the backup timer by SUMP_HIGH. -/
theorem startSump_stands {s : State} (hpump : s.sump.pump = false) (hcall : s.sump.callMark = false)
    (htimer : s.sump.backupTimer = none) : SumpStands (startSump s) := by
  have hfixed := startSump_fixed s
  cases h : s.covered .sumpHigh with
  | false =>
    have hstart : startSump s = s := if_neg (by rw [h]; exact Bool.false_ne_true)
    rw [hstart]
    refine ⟨hcall.trans h.symm, fun hp => absurd (hpump.symm.trans hp) Bool.false_ne_true, ?_⟩
    rw [h, htimer]; rfl
  | true =>
    have hstart : startSump s = { s with sump := { s.sump with callMark := true, backupTimer := some s.backupStarted } } :=
      if_pos h
    rw [hstart]
    refine ⟨h.symm, fun _ => h, ?_⟩
    have hgo : (s.covered .sumpHigh && !s.sump.pump) = true := by rw [h, hpump]; rfl
    exact (if_pos hgo).symm

/-- The sump and the pump after Tank Control has taken the starting levels. -/
theorem controlStarts_sump (restored : Bool) {s : State} (hpump : s.sump.pump = false) (hcall : s.sump.callMark = false)
    (htimer : s.sump.backupTimer = none) :
    let u := controlStarts restored s
    SumpStands u ∧ u.sump.pump = (u.fillingTank.isSome && s.covered .sumpHigh && s.covered .sumpLow && !s.sump.hold) := by
  let filled := fillSelection
    (if restored then startFilling (startSump s) else eachTank makeUnknown (startFilling (startSump s)))
  have hstarted := startSump_stands hpump hcall htimer
  have hsteps : TankSteps (fun _ => True) (startSump s) filled := by
    have hfilled : TankSteps (fun _ => True) (startSump s) (startFilling (startSump s)) :=
      startFilling_steps (fun _ h => absurd trivial h) fun _ h => absurd trivial h
    refine TankSteps.trans ?_ (fillSelection_steps (unopened_any _))
    cases restored with
    | true => exact hfilled
    | false => exact hfilled.trans (makeUnknowns_steps fun _ h => absurd trivial h)
  have hfixed : filled.fixed = s.fixed := hsteps.fixed.trans (startSump_fixed s)
  have hstands : SumpStands filled := hsteps.stable sumpStands_stable hstarted
  have hpumped : TankSteps (fun _ => False) filled (controlStarts restored s) :=
    (TankSteps.refl.step (.pump filled)).step (.sampler _)
  refine ⟨hpumped.stable sumpStands_stable hstands, ?_⟩
  have hu : (controlStarts restored s).sump.pump = filled.pumpWanted :=
    (congrArg Sump.pump (samplerTest_sump (pumpJudge filled))).trans (pumpJudge_pump filled)
  have hcalled : (filled.sump.pump || filled.sump.callMark) = s.covered .sumpHigh := by
    rw [hstands.call, ← covered_of_fixed hfixed]
    cases hp : filled.sump.pump with
    | false => exact Bool.false_or _
    | true => rw [hstands.pump hp]; rfl
  rw [hu, State.pumpWanted, hcalled, covered_of_fixed hfixed, sumpHold_of_fixed hfixed,
    fillingTank_congr fun t => (hpumped.spares (t := t) id).state]

/-! ### The fill selection (R80) -/

theorem openLot_tank (s : State) (t : Fin 3) : (openLot t s).kept.tanks[t] =
    { state := .filling, lot := some (Lot.opening s.freshNumber s.stamp s.kept.tankSettings[t]) } := by
  rw [openLot, pumpJudge_kept]
  exact modAt_same s.kept.tanks t _

/-- The close that a lot's record and table show. -/
def Lot.closing (l : Lot) : Nat × Option Stamp × Bool × TankSettings :=
  (l.number, l.closed, l.volumeSuspect, l.settings)

/-- A lot that enters its settle time keeps all but its state and its hold reason. -/
theorem enterSettling_keeps {s x : State} {t : Fin 3} (h : KeepsLot Lot.closing t s x) :
    KeepsLot Lot.closing t s (enterSettling t x) := by
  cases hl : x.lotIn t with
  | none =>
    have hsettle : enterSettling t x = x := by simp only [enterSettling, hl]
    rw [hsettle]; exact h
  | some l =>
    have hsettling := h.modLot (fun l => { l with state := .settling, holdReason := none }) fun _ => rfl
    have hlot : (x.modLot t fun l => { l with state := .settling, holdReason := none }).lotIn t = _ :=
      (modLot_lotIn x t _).trans (congrArg _ hl)
    simp only [enterSettling, hl]
    split
    · have hwaits := hsettling.modLot (fun l => { l with state := .sampleWait, holdReason := none }) fun _ => rfl
      rw [enterSampleWait_eq hlot]
      exact hwaits.after (TankSteps.spares (P := fun _ => False)
        ((TankSteps.refl.step (.lists _ _ rfl rfl rfl)).step (.sampler _)) id) fun _ => rfl
    · exact ⟨hsettling.state, hsettling.lot, hsettling.flags⟩

/-- The state with a lot's close recorded: its time, what its volume leaves suspect, and the tank CLOSED. -/
def closed (t : Fin 3) (byHigh : Bool) (s : State) : State :=
  ((closeFill t s).modLot t fun l =>
    { l with volumeSuspect := l.volumeSuspect || (byHigh && l.filled * 2 < l.settings.capacity) }).modTank t
      fun k => { k with state := .closed }

theorem closeSteps_eq (t : Fin 3) (byHigh : Bool) (s : State) :
    closeSteps t byHigh s = pumpJudge (lotEvent .closed t (enterSettling t (closed t byHigh s))) := rfl

/-- The steps of a close keep what the close has recorded. -/
theorem closeSteps_keeps (t : Fin 3) (byHigh : Bool) (s : State) :
    KeepsLot Lot.closing t (closed t byHigh s) (closeSteps t byHigh s) := by
  rw [closeSteps_eq]
  exact (enterSettling_keeps (.of_eq rfl rfl)).after (TankSteps.spares (P := fun _ => False)
    ((TankSteps.refl.step (.event .closed t _)).step (.pump _)) id) fun _ => rfl

theorem closed_state (t : Fin 3) (byHigh : Bool) (s : State) : (closed t byHigh s).kept.tanks[t].state = .closed :=
  congrArg Tank.state (modTank_same _ t _)

theorem closeSteps_state (t : Fin 3) (byHigh : Bool) (s : State) :
    (closeSteps t byHigh s).kept.tanks[t].state = .closed :=
  (closeSteps_keeps t byHigh s).state.trans (closed_state t byHigh s)

theorem pumpJudge_fillingTank (s : State) : (pumpJudge s).fillingTank = s.fillingTank :=
  fillingTank_congr fun _ => by rw [pumpJudge_kept]

/-- A turn opens a lot in the first EMPTY tank; one that is full at once is closed, and the next turn follows. -/
theorem fillTurns_turn {s : State} {t : Fin 3} (k : Nat) (hf : ¬s.fillingTank.isSome = true)
    (he : s.emptyTank = some t) : fillTurns (k + 1) s =
      if (openLot t s).covered (.tankHigh t) then pumpJudge (fillTurns k (closeSteps t true (openLot t s)))
      else openLot t s := by
  simp only [fillTurns, if_neg hf, he]

/-- What a lot that is opened full and closed at once leaves. -/
theorem openAndClose (s : State) (t : Fin 3) :
    (closeSteps t true (openLot t s)).kept.tanks[t].state = .closed ∧
      ∀ u, u ≠ t → (closeSteps t true (openLot t s)).kept.tanks[u].state = s.kept.tanks[u].state :=
  ⟨closeSteps_state t true _, fun _ hu => (((openLot_steps (P := (· = t)) s rfl).trans
    (closeSteps_steps (P := (· = t)) (openLot t s) rfl true)).spares hu).state⟩

/-- With a turn for each EMPTY tank, the fill selection leaves an EMPTY tank only beside a FILLING one. -/
theorem fillTurns_fills (k : Nat) (s : State) (empties : List (Fin 3)) (hlen : empties.length ≤ k)
    (hempties : ∀ t : Fin 3, s.kept.tanks[t].state = .empty → t ∈ empties) (t : Fin 3)
    (ht : (fillTurns k s).kept.tanks[t].state = .empty) : (fillTurns k s).fillingTank.isSome = true := by
  induction k generalizing s empties with
  | zero =>
    have hnil : empties = [] := List.length_eq_zero_iff.mp (Nat.le_zero.mp hlen)
    exact absurd (hempties t ht) (hnil ▸ List.not_mem_nil)
  | succ k ih =>
    by_cases hfilling : s.fillingTank.isSome = true
    · rw [fillTurns_filling hfilling]
      exact hfilling
    cases hempty : s.emptyTank with
    | none =>
      have hturns : fillTurns (k + 1) s = s := by simp only [fillTurns, if_neg hfilling, hempty]
      rw [hturns] at ht
      exact absurd (decide_eq_true ht) (List.find?_eq_none.mp hempty t (List.mem_finRange t))
    | some u =>
      rw [fillTurns_turn k hfilling hempty] at ht ⊢
      by_cases hhigh : (openLot u s).covered (.tankHigh u) = true
      · rw [if_pos hhigh] at ht ⊢
        obtain ⟨hclosed, hothers⟩ := openAndClose s u
        generalize closeSteps u true (openLot u s) = x at *
        rw [pumpJudge_kept] at ht
        rw [pumpJudge_fillingTank]
        have hu := hempties u (emptyTank_empty hempty)
        refine ih x (empties.erase u) ?_ (fun v hv => ?_) ht
        · rw [List.length_erase_of_mem hu]
          omega
        · have hvu : v ≠ u := by
            rintro rfl
            rw [hclosed] at hv
            cases hv
          exact (List.mem_erase_of_ne hvu).mpr (hempties v (hothers v hvu ▸ hv))
      · rw [if_neg hhigh]
        exact fillingTank_isSome (t := u) (by rw [openLot_tank])

/-- Tank Control leaves an EMPTY tank only beside a FILLING one. -/
theorem controlStarts_fills (restored : Bool) (s : State) (t : Fin 3)
    (ht : (controlStarts restored s).kept.tanks[t].state = .empty) :
    (controlStarts restored s).fillingTank.isSome = true := by
  let made := if restored then startFilling (startSump s) else eachTank makeUnknown (startFilling (startSump s))
  have hpumped : TankSteps (fun _ => False) (fillSelection made) (controlStarts restored s) :=
    (TankSteps.refl.step (.pump _)).step (.sampler _)
  rw [fillingTank_congr fun t => (hpumped.spares (t := t) id).state]
  rw [(hpumped.spares (t := t) id).state] at ht
  exact fillTurns_fills 3 made (List.finRange 3) (Nat.le_refl 3) (fun t _ => List.mem_finRange t) t ht

end Sys2Proof.Machine
end

section
/-! PROOF of O59, fourth part. A restored FILLING lot, and the lots of a failed restore. -/

namespace Sys2Proof.Machine

open Sys2Proof

/-! ### The first tank with a property -/

theorem find_finRange {n : Nat} {p : Fin n → Bool} {t : Fin n} :
    (List.finRange n).find? p = some t ↔ p t = true ∧ ∀ u < t, p u = false := by
  rw [List.find?_eq_some_iff_getElem]
  refine and_congr_right fun _ => ⟨?_, fun h => ⟨t.val, by simp, by simp, fun j hj => ?_⟩⟩
  · rintro ⟨i, hi, hget, hbefore⟩ u hu
    rw [List.getElem_finRange] at hget
    have hui : u.val < i := by
      have : i = t.val := congrArg Fin.val hget
      omega
    have := hbefore u.val hui
    rw [List.getElem_finRange] at this
    simpa using this
  · rw [List.getElem_finRange]
    have := h ⟨j, by omega⟩ (by exact hj)
    simpa using this

theorem fillingTank_eq_some {s : State} {t : Fin 3} : s.fillingTank = some t ↔
    s.kept.tanks[t].state = .filling ∧ ∀ u < t, s.kept.tanks[u].state ≠ .filling := by
  simp only [State.fillingTank, find_finRange, decide_eq_true_eq, decide_eq_false_iff_not, ne_eq]

theorem emptyTank_eq_some {s : State} {t : Fin 3} : s.emptyTank = some t ↔
    s.kept.tanks[t].state = .empty ∧ ∀ u < t, s.kept.tanks[u].state ≠ .empty := by
  simp only [State.emptyTank, find_finRange, decide_eq_true_eq, decide_eq_false_iff_not, ne_eq]

/-! ### A restored FILLING lot (R81, R85) -/

/-- What a switch fault test leaves beside a FILLING tank whose switches agree: that tank, and no new FILLING one. -/
structure Beside (t : Fin 3) (s x : State) : Prop where
  spares : Spares t s x
  fixed : x.fixed = s.fixed
  filling : ∀ v : Fin 3, x.kept.tanks[v].state = .filling → s.kept.tanks[v].state = .filling

theorem Beside.refl (t : Fin 3) (s : State) : Beside t s s :=
  ⟨.of_eq t rfl rfl rfl fun _ hf => hf, rfl, fun _ h => h⟩

theorem switchFaultTest_beside {s : State} {t : Fin 3} (hidle : s.path.state = .idle)
    (hfilling : s.kept.tanks[t].state = .filling) (hagree : s.switchesDisagree t = false) (u : Fin 3) :
    Beside t s (switchFaultTest u s) := by
  cases hu : s.switchesDisagree u with
  | false =>
    have htest : switchFaultTest u s = s := if_neg (by rw [hu]; exact Bool.false_ne_true)
    rw [htest]
    exact .refl t s
  | true =>
    have htu : t ≠ u := by
      rintro rfl
      exact absurd (hagree.symm.trans hu) Bool.false_ne_true
    have hsteps : TankSteps (· = u) s (switchFaultTest u s) :=
      switchFaultTest_steps rfl (.inl ⟨t, htu, hfilling⟩) hidle
    refine ⟨hsteps.spares htu, hsteps.fixed, fun v hv => ?_⟩
    by_cases hvu : v = u
    · subst hvu
      rw [(switchFaultTest_found hidle hu).1] at hv
      cases hv
    · rw [← (hsteps.spares hvu).state]
      exact hv

theorem faultTests_beside {t : Fin 3} (l : List (Fin 3)) {s : State} (hidle : s.path.state = .idle)
    (hfilling : s.kept.tanks[t].state = .filling) (hagree : s.switchesDisagree t = false) :
    Beside t s (l.foldl (fun s t => switchFaultTest t s) s) := by
  induction l generalizing s with
  | nil => exact .refl t s
  | cons u l ih =>
    have hstep := switchFaultTest_beside hidle hfilling hagree u
    have hrest := ih (s := switchFaultTest u s) (hstep.spares.path ▸ hidle) (hstep.spares.state.trans hfilling)
      ((switchesDisagree_of_fixed hstep.fixed t).trans hagree)
    exact ⟨hstep.spares.trans hrest.spares, hrest.fixed.trans hstep.fixed,
      fun v hv => hstep.filling v (hrest.filling v hv)⟩

/-- After a restore, what follows the start of the filling tank spares a tank that is not EMPTY. -/
theorem restored_spares {s : State} {t : Fin 3} {x : State}
    (hx : TankSteps (· ≠ t) x (startFilling (startSump s))) (hfull : x.kept.tanks[t].state ≠ .empty) :
    Spares t x (controlStarts true s) := by
  have hsteps : TankSteps (· ≠ t) x (controlStarts true s) :=
    ((hx.trans (fillSelection_steps ((unopened_other hfull).after hx))).step (.pump _)).step (.sampler _)
  exact hsteps.spares fun h => h rfl

theorem startFilling_high {s : State} {t : Fin 3} (hf : s.fillingTank = some t) (h : s.covered (.tankHigh t) = true) :
    startFilling s = closeLot t true s := by
  rw [startFilling, hf]
  exact if_pos h

theorem startFilling_below {s : State} {t : Fin 3} (hf : s.fillingTank = some t) (h : s.covered (.tankHigh t) = false) :
    startFilling s = s.modTimers t fun k =>
      { k with maxFill := (s.lotIn t).bind fun l => s.maxFillTimer l.settings.maxFill } := by
  rw [startFilling, hf]
  exact if_neg (by rw [h]; exact Bool.false_ne_true)

theorem startFilling_none {s : State} (hf : s.fillingTank = none) : startFilling s = s := by
  rw [startFilling, hf]

/-- A restored FILLING lot below its upper switch is timed by its max fill time. -/
theorem restored_times {s : State} {t : Fin 3} {l : Lot} (hf : s.fillingTank = some t) (hl : s.lotIn t = some l)
    (hhigh : s.covered (.tankHigh t) = false) :
    (controlStarts true s).kept.tanks[t].state = .filling ∧
      (controlStarts true s).timers[t].maxFill = s.maxFillTimer l.settings.maxFill := by
  have hfixed := startSump_fixed s
  have hspares := startSump_spares s t
  let timed := (startSump s).modTimers t fun k =>
    { k with maxFill := ((startSump s).lotIn t).bind fun l => (startSump s).maxFillTimer l.settings.maxFill }
  have hfilling : (startSump s).fillingTank = some t :=
    (fillingTank_congr fun u => (startSump_spares s u).state).trans hf
  have hstart : startFilling (startSump s) = timed :=
    startFilling_below hfilling ((covered_of_fixed hfixed _).trans hhigh)
  have hstate : timed.kept.tanks[t].state = .filling := hspares.state.trans (fillingTank_filling hf)
  have hrest : Spares t timed (controlStarts true s) :=
    restored_spares (by rw [hstart]; exact .refl) (by rw [hstate]; nofun)
  have hlot : (startSump s).lotIn t = some l := by
    rw [startSump_eq]
    exact hl
  have htimer : timed.timers[t].maxFill = (startSump s).maxFillTimer l.settings.maxFill := by
    have h : timed.timers[t] = _ := modAt_same _ _ _
    rw [h, hlot]
    rfl
  refine ⟨hrest.state.trans hstate, (hrest.maxFill.trans htimer).trans ?_⟩
  simp only [State.maxFillTimer, State.timer, now_of_fixed hfixed]

/-- What a close records of a lot. -/
def Lot.closedAt (stamp : Stamp) (byHigh : Bool) (l : Lot) : Lot :=
  { l with
    closed := some stamp
    volumeSuspect := l.volumeSuspect || (byHigh && l.filled * 2 < l.settings.capacity) }

theorem closed_lotIn (t : Fin 3) (byHigh : Bool) (s : State) :
    (closed t byHigh s).lotIn t = (s.lotIn t).map (·.closedAt s.stamp byHigh) := by
  have hclosed : closed t byHigh s = ((s.modTimers t fun k => { k with maxFill := none }).modLot t
      (·.closedAt s.stamp byHigh)).modTank t fun k => { k with state := .closed } := by
    rw [closed, closeFill, modLot_twice]
    rfl
  rw [hclosed, State.lotIn, modTank_same]
  exact modLot_lotIn (s.modTimers t _) t _

/-- A restored FILLING lot at its upper switch is closed at once. -/
theorem restored_closes {s : State} {t : Fin 3} {l : Lot} (hf : s.fillingTank = some t) (hl : s.lotIn t = some l)
    (hhigh : s.covered (.tankHigh t) = true) :
    (controlStarts true s).kept.tanks[t].state = .closed ∧ ∃ l', (controlStarts true s).lotIn t = some l' ∧
      l'.number = l.number ∧ l'.closed = some s.stamp ∧
      l'.volumeSuspect = (l.volumeSuspect || l.filled * 2 < l.settings.capacity) := by
  have hfixed := startSump_fixed s
  have hfilling : (startSump s).fillingTank = some t :=
    (fillingTank_congr fun u => (startSump_spares s u).state).trans hf
  have hstart : startFilling (startSump s) = closeLot t true (startSump s) :=
    startFilling_high hfilling ((covered_of_fixed hfixed _).trans hhigh)
  have hclosed := closeSteps_keeps t true (startSump s)
  have hstate := closeSteps_state t true (startSump s)
  have hopen : (closeSteps t true (startSump s)).kept.tanks[t].state ≠ .empty := by rw [hstate]; nofun
  have hrest : Spares t (closeSteps t true (startSump s)) (controlStarts true s) :=
    restored_spares (by
      rw [hstart]
      exact (fillSelection_steps (unopened_other hopen)).step (.pump _)) hopen
  have hkept := hclosed.after hrest fun _ => rfl
  have hlot : (closed t true (startSump s)).lotIn t = some (l.closedAt s.stamp true) := by
    have hstarted : (startSump s).lotIn t = some l := by
      rw [startSump_eq]
      exact hl
    rw [closed_lotIn, hstarted, stamp_of_fixed hfixed]
    rfl
  obtain ⟨l', hl', hclosing⟩ := hkept.lot _ hlot
  simp only [Lot.closing, Prod.mk.injEq] at hclosing
  obtain ⟨hnumber, hat, hsuspect, -⟩ := hclosing
  exact ⟨hkept.state.trans (closed_state t true _), l', hl', hnumber, hat, hsuspect⟩

/-! ### The lots of a failed restore (R102) -/

/-- The tanks and the next lot number, with no lot in Sample Wait. -/
structure TableIs (tanks : Fin 3 → Tank) (next : Nat) (s : State) : Prop where
  tank : ∀ t : Fin 3, s.kept.tanks[t] = tanks t
  waiting : s.kept.sampleWait = []
  next : s.kept.nextLot = next

theorem TableIs.of_kept {tanks : Fin 3 → Tank} {next : Nat} {s x : State} (h : TableIs tanks next s)
    (hk : x.kept = s.kept) : TableIs tanks next x := by
  refine ⟨?_, ?_, ?_⟩ <;> rw [hk]
  · exact h.tank
  · exact h.waiting
  · exact h.next

theorem TableIs.modTank {tanks : Fin 3 → Tank} {next : Nat} {s : State} (h : TableIs tanks next s) (t : Fin 3)
    (f : Tank → Tank) : TableIs (Function.update tanks t (f (tanks t))) next (s.modTank t f) where
  tank u := by
    by_cases hu : u = t
    · subst hu
      rw [modTank_same, h.tank, Function.update_self]
    · rw [modTank_other _ _ (Ne.symm hu), h.tank, Function.update_of_ne hu]
  waiting := h.waiting
  next := h.next

theorem lotEvent_kept (kind : LotEventKind) (t : Fin 3) (s : State) : (lotEvent kind t s).kept = s.kept := by
  rw [lotEvent_link]

/-- The test of a tank without a lot. -/
theorem TableIs.switchFaultTest {tanks : Fin 3 → Tank} {next : Nat} {s : State} (h : TableIs tanks next s) (t : Fin 3)
    (ht : tanks t = { state := .empty, lot := none }) :
    TableIs (Function.update tanks t
      { state := if s.switchesDisagree t then .outOfService else .empty, lot := none }) next
      (Machine.switchFaultTest t s) := by
  cases hd : s.switchesDisagree t with
  | false =>
    have htest : Machine.switchFaultTest t s = s := if_neg (by rw [hd]; exact Bool.false_ne_true)
    rw [htest]
    have hsame : Function.update tanks t { state := .empty, lot := none } = tanks := by
      rw [← ht, Function.update_eq_self]
    simpa only [Bool.false_eq_true, if_false, hsame] using h
  | true =>
    let faulted := latch (.tankSwitchFault t) (s.modTank t fun k => { k with state := .outOfService })
    have hempty : s.kept.tanks[t].state ≠ .outOfService := by
      rw [h.tank, ht]
      nofun
    have hfaulted : TableIs (Function.update tanks t { state := .outOfService, lot := none }) next faulted := by
      have := (h.modTank t fun k => { k with state := .outOfService }).of_kept
        (latch_kept (s.modTank t fun k => { k with state := .outOfService }) (.tankSwitchFault t))
      rwa [ht] at this
    have hnone : faulted.lotIn t = none := by
      rw [State.lotIn, hfaulted.tank, Function.update_self]
    have htest : Machine.switchFaultTest t s = faulted := by
      rw [Machine.switchFaultTest, if_pos hd, if_neg hempty]
      show stopLot t .switchFault .switchFault faulted = faulted
      simp only [stopLot, hnone]
    rw [htest]
    exact hfaulted

/-- With no lot of the next number on the table, it is the fresh one. -/
theorem TableIs.freshNumber {tanks : Fin 3 → Tank} {next : Nat} {s : State} (h : TableIs tanks next s)
    (hfree : ∀ t l, (tanks t).lot = some l → l.number ≠ next) : s.freshNumber = next := by
  have hnone : s.tankOfLot next = none := by
    rw [State.tankOfLot, List.find?_eq_none]
    intro t _
    rw [State.lotIn, h.tank]
    cases hl : (tanks t).lot with
    | none => simp
    | some l => simpa using hfree t l hl
  rw [State.freshNumber, h.next, passOver, hnone]
  rfl

/-- A lot of unknown content is made in a tank that is covered and in service. -/
theorem TableIs.makeUnknown {tanks : Fin 3 → Tank} {next : Nat} {s : State} (h : TableIs tanks next s) (t : Fin 3)
    (hwet : s.covered (.tankLow t) = true) (hin : (tanks t).state ≠ .outOfService)
    (hfree : ∀ t l, (tanks t).lot = some l → l.number ≠ next) :
    TableIs (Function.update tanks t
      { state := .closed, lot := some (Lot.unknown next s.kept.tankSettings[t]) }) (nextNumber next)
      (Machine.makeUnknown t s) ∧ (Machine.makeUnknown t s).latched .lotHeld = true := by
  have hgo : s.kept.tanks[t].state ≠ .outOfService := by rwa [h.tank]
  let numbered := s.modKept fun k => { k with nextLot := nextNumber next }
  let made := numbered.modTank t fun _ => { state := .closed, lot := some (Lot.unknown next s.kept.tankSettings[t]) }
  have hmake : Machine.makeUnknown t s = latch .lotHeld (lotEvent .held t made) := by
    simp only [Machine.makeUnknown, hwet, h.freshNumber hfree, Bool.true_and, decide_eq_true_eq]
    exact if_pos hgo
  have hnumbered : TableIs tanks (nextNumber next) numbered := ⟨h.tank, h.waiting, rfl⟩
  have hmade := hnumbered.modTank t fun _ =>
    { state := .closed, lot := some (Lot.unknown next s.kept.tankSettings[t]) }
  rw [hmake]
  exact ⟨hmade.of_kept ((latch_kept _ _).trans (lotEvent_kept _ _ _)), latch_latched _ _⟩

theorem makeUnknown_tankSettings (t : Fin 3) (s : State) :
    (makeUnknown t s).kept.tankSettings = s.kept.tankSettings := by
  unfold Machine.makeUnknown
  split
  · dsimp only
    rw [latch_kept, lotEvent_kept]
    rfl
  · rfl

/-- The number of covered tanks before the `k`th. -/
def wetBefore (low : Fin 3 → Bool) (k : Nat) : Nat :=
  ((List.finRange 3).filter fun v => v.val < k && low v).length

theorem wetBefore_succ : ∀ (low : Fin 3 → Bool) (t : Fin 3),
    wetBefore low (t.val + 1) = wetBefore low t.val + if low t then 1 else 0 := by
  decide

theorem wetBefore_lt : ∀ (low : Fin 3 → Bool) (v t : Fin 3), v < t → low v = true →
    wetBefore low v.val < wetBefore low t.val := by
  decide

theorem wetBefore_le (low : Fin 3 → Bool) (k : Nat) : wetBefore low k ≤ 3 :=
  (List.length_filter_le _ _).trans (Nat.le_of_eq List.length_finRange)

/-- The table with the lots of unknown content of the covered tanks before the `k`th. -/
def unknownTable (low : Fin 3 → Bool) (base : Fin 3 → Tank) (settings : Vector TankSettings 3) (k : Nat) (v : Fin 3) :
    Tank :=
  if v.val < k ∧ low v = true then
    { state := .closed, lot := some (Lot.unknown (wetBefore low v.val + 1) settings[v]) }
  else base v

/-- What the making of unknown lots has reached before the `k`th tank. -/
structure MadeBefore (low : Fin 3 → Bool) (base : Fin 3 → Tank) (settings : Vector TankSettings 3) (k : Nat)
    (s : State) : Prop where
  table : TableIs (unknownTable low base settings k) (wetBefore low k + 1) s
  wet : ∀ t : Fin 3, s.covered (.tankLow t) = low t
  settings : s.kept.tankSettings = settings
  flag : ∀ v : Fin 3, v.val < k → low v = true → s.latched .lotHeld = true

theorem unknownTable_succ (low : Fin 3 → Bool) (base : Fin 3 → Tank) (settings : Vector TankSettings 3) (t : Fin 3) :
    unknownTable low base settings (t.val + 1) =
      if low t then Function.update (unknownTable low base settings t.val) t
        { state := .closed, lot := some (Lot.unknown (wetBefore low t.val + 1) settings[t]) }
      else unknownTable low base settings t.val := by
  funext v
  by_cases hv : v = t
  · subst hv
    cases hl : low v <;> simp [unknownTable, hl]
  · have hlt : v.val < t.val + 1 ↔ v.val < t.val := by
      have := fun h => hv (Fin.ext h)
      omega
    cases low t <;> simp [unknownTable, hlt, Function.update_of_ne hv]

theorem MadeBefore.step {low : Fin 3 → Bool} {base : Fin 3 → Tank} {settings : Vector TankSettings 3} {s : State}
    {t : Fin 3} (h : MadeBefore low base settings t.val s) (hbase : ∀ v, (base v).lot = none)
    (hin : low t = true → (base t).state ≠ .outOfService) :
    MadeBefore low base settings (t.val + 1) (makeUnknown t s) := by
  have hsteps : TankSteps (fun _ => True) s (makeUnknown t s) := makeUnknown_steps s trivial
  have hwet (u : Fin 3) : (makeUnknown t s).covered (.tankLow u) = low u :=
    (covered_of_fixed hsteps.fixed _).trans (h.wet u)
  cases hl : low t with
  | false =>
    rw [makeUnknown_dry ((h.wet t).trans hl)]
    refine ⟨?_, h.wet, h.settings, fun v hv hlv => h.flag v ?_ hlv⟩
    · rw [unknownTable_succ, wetBefore_succ, hl]
      exact h.table
    · have hne : v.val ≠ t.val := fun heq => by
        rw [Fin.ext heq, hl] at hlv
        cases hlv
      omega
  | true =>
    have hself : unknownTable low base settings t.val t = base t :=
      if_neg fun h => absurd h.1 (Nat.lt_irrefl _)
    have hfree (v : Fin 3) (l : Lot) (hv : (unknownTable low base settings t.val v).lot = some l) :
        l.number ≠ wetBefore low t.val + 1 := by
      unfold unknownTable at hv
      split at hv
      · next hlow =>
        have hlt := wetBefore_lt low v t hlow.1 hlow.2
        obtain rfl := Option.some.inj hv
        intro heq
        have hnumber : wetBefore low v.val + 1 = wetBefore low t.val + 1 := heq
        omega
      · rw [hbase] at hv
        cases hv
    obtain ⟨htable, hflag⟩ := h.table.makeUnknown t ((h.wet t).trans hl) (hself ▸ hin hl) hfree
    have hnext : nextNumber (wetBefore low t.val + 1) = wetBefore low (t.val + 1) + 1 := by
      have hle := wetBefore_le low t.val
      rw [nextNumber, if_neg (by omega), wetBefore_succ, hl]
      rfl
    refine ⟨?_, hwet, ?_, fun _ _ _ => hflag⟩
    · rw [unknownTable_succ, hl, ← hnext]
      rw [h.settings] at htable
      exact htable
    · exact (makeUnknown_tankSettings t s).trans h.settings

theorem makeUnknowns_made {low : Fin 3 → Bool} {base : Fin 3 → Tank} {s : State} (htable : TableIs base 1 s)
    (hwet : ∀ t : Fin 3, s.covered (.tankLow t) = low t) (hbase : ∀ v, (base v).lot = none)
    (hin : ∀ t, low t = true → (base t).state ≠ .outOfService) :
    MadeBefore low base s.kept.tankSettings 3 (eachTank makeUnknown s) := by
  have hnone : unknownTable low base s.kept.tankSettings 0 = base :=
    funext fun v => if_neg fun h => absurd h.1 (Nat.not_lt_zero _)
  have hzero : wetBefore low 0 = 0 := by simp [wetBefore]
  have hstart : MadeBefore low base s.kept.tankSettings (0 : Fin 3).val s :=
    ⟨by rw [Fin.val_zero, hnone, hzero]; exact htable, hwet, rfl, fun v hv => absurd hv (Nat.not_lt_zero _)⟩
  have h1 : MadeBefore low base s.kept.tankSettings (1 : Fin 3).val (makeUnknown 0 s) := hstart.step hbase (hin 0)
  have h2 : MadeBefore low base s.kept.tankSettings (2 : Fin 3).val (makeUnknown 1 (makeUnknown 0 s)) :=
    h1.step hbase (hin 1)
  exact h2.step hbase (hin 2)

/-- The tank of an empty table after its switch fault test. -/
def testedTank (s : State) (t : Fin 3) : Tank :=
  { state := if s.switchesDisagree t then .outOfService else .empty, lot := none }

/-- The switch fault tests of an empty table. -/
theorem faultTests_table {s : State} {next : Nat} (h : TableIs (fun _ => { state := .empty, lot := none }) next s) :
    TableIs (testedTank s) next (eachTank switchFaultTest s) := by
  have hdisagree (x : State) (hx : x.fixed = s.fixed) (t : Fin 3) : x.switchesDisagree t = s.switchesDisagree t :=
    switchesDisagree_of_fixed hx t
  have h0 := h.switchFaultTest 0 rfl
  have h1 := h0.switchFaultTest 1 (by rw [Function.update_of_ne (by decide)])
  have h2 := h1.switchFaultTest 2 (by rw [Function.update_of_ne (by decide), Function.update_of_ne (by decide)])
  rw [hdisagree (switchFaultTest 0 s) (switchFaultTest_fixed s 0),
    hdisagree (switchFaultTest 1 (switchFaultTest 0 s))
      ((switchFaultTest_fixed _ 1).trans (switchFaultTest_fixed s 0))] at h2
  refine ⟨fun t => (h2.tank t).trans ?_, h2.waiting, h2.next⟩
  match t with
  | 0 => rfl
  | 1 => rfl
  | 2 => rfl

theorem fillSelection_full {s : State} (h : s.emptyTank = none) : fillSelection s = s := by
  by_cases hf : s.fillingTank.isSome = true
  · exact fillTurns_filling hf 3
  · simp only [fillSelection, fillTurns, if_neg hf, h]

theorem fillSelection_opens {s : State} {t : Fin 3} (hf : s.fillingTank = none) (he : s.emptyTank = some t)
    (hhigh : s.covered (.tankHigh t) = false) : fillSelection s = openLot t s := by
  have hopened : ¬(openLot t s).covered (.tankHigh t) = true := by
    rw [covered_of_fixed (openLot_fixed s t), hhigh]
    exact Bool.false_ne_true
  exact (fillTurns_turn 2 (by rw [hf]; exact Bool.false_ne_true) he).trans (if_neg hopened)

theorem openLot_kept (t : Fin 3) (s : State) :
    (openLot t s).kept.sampleWait = s.kept.sampleWait ∧
      ∀ u : Fin 3, u ≠ t → (openLot t s).kept.tanks[u] = s.kept.tanks[u] := by
  rw [openLot, pumpJudge_kept]
  exact ⟨rfl, fun u hu => modAt_other s.kept.tanks t u _ (Ne.symm hu)⟩

/-- Filling the first dry tank of a table leaves the other tanks as they are. -/
theorem fillSelection_table {tanks : Fin 3 → Tank} {next : Nat} {s : State} (h : TableIs tanks next s)
    (hf : ∀ t, (tanks t).state ≠ .filling) (hdry : ∀ t, (tanks t).state = .empty → s.covered (.tankHigh t) = false) :
    (fillSelection s).kept.sampleWait = [] ∧
      (∀ t : Fin 3, (tanks t).state ≠ .empty → (fillSelection s).kept.tanks[t] = tanks t) ∧
      ∀ t : Fin 3, (tanks t).state = .empty → (∀ u < t, (tanks u).state ≠ .empty) →
        (fillSelection s).kept.tanks[t].state = .filling := by
  have hnone : s.fillingTank = none := by
    rw [State.fillingTank, List.find?_eq_none]
    intro t _
    rw [h.tank, decide_eq_true_eq]
    exact hf t
  cases he : s.emptyTank with
  | none =>
    rw [fillSelection_full he]
    refine ⟨h.waiting, fun t _ => h.tank t, fun t ht _ => ?_⟩
    have := List.find?_eq_none.mp he t (List.mem_finRange t)
    rw [h.tank, decide_eq_true_eq] at this
    exact absurd ht this
  | some e =>
    obtain ⟨hempty, hfirst⟩ := emptyTank_eq_some.mp he
    rw [h.tank] at hempty
    rw [fillSelection_opens hnone he (hdry e hempty)]
    obtain ⟨hwaiting, hothers⟩ := openLot_kept e s
    refine ⟨hwaiting.trans h.waiting, fun t ht => ?_, fun t ht hbefore => ?_⟩
    · rw [hothers t fun hte => ht (hte ▸ hempty)]
      exact h.tank t
    · have hte : t = e := by
        rcases lt_trichotomy t e with hlt | heq | hgt
        · exact absurd ((h.tank t).symm ▸ ht) (hfirst t hlt)
        · exact heq
        · exact absurd hempty (hbefore e hgt)
      rw [hte, openLot_tank]

end Sys2Proof.Machine
end

section
/-! PROOF of O59, fifth part. Tank Control's start as a whole, clause by clause. -/

namespace Sys2Proof.Machine

open Sys2Proof

/-- The switch fault tests as they come first in the start of Tank Control. -/
def State.tested (s : State) : State :=
  eachTank switchFaultTest s.taken

theorem takeLevels_tested (s : State) : takeLevels s = controlStarts s.startUp.restored s.tested := rfl

theorem tested_fixed (s : State) : s.tested.fixed = s.taken.fixed :=
  eachTank_fixed switchFaultTest (fun t s => switchFaultTest_fixed s t) s.taken

theorem takeLevels_fixed_taken (s : State) : (takeLevels s).fixed = s.taken.fixed :=
  takeLevels_fixed s

section
variable {s : State} (hidle : s.path.state = .idle)
include hidle

/-- A tank whose switches disagree is OUT_OF_SERVICE, and its lot is HELD. -/
theorem takeLevels_faulted {t : Fin 3} (hhigh : s.covered (.tankHigh t) = true) (hlow : s.covered (.tankLow t) = false) :
    (takeLevels s).kept.tanks[t].state = .outOfService ∧ (takeLevels s).latched (.tankSwitchFault t) = true ∧
      (s.kept.tanks[t].state ≠ .outOfService → s.kept.tanks[t].state ≠ .empty → ∀ l, s.lotIn t = some l →
        l.state ≠ .discharging ∧ l.state ≠ .polishing → HeldAt t l .switchFault (takeLevels s)) := by
  have hdisagree : s.taken.switchesDisagree t = true := by
    have h : (s.covered (.tankHigh t) && !s.covered (.tankLow t)) = true := by
      rw [hhigh, hlow]
      rfl
    exact h
  obtain ⟨hout, hflag, hheld⟩ := faultTests_found (s := s.taken) hidle hdisagree
  have hrest : Spares t s.tested (takeLevels s) :=
    controlStarts_spares _ hout ((covered_of_fixed (tested_fixed s) _).trans hlow)
  exact ⟨hrest.state.trans hout, hrest.flags _ hflag,
    fun hin hfull l hl hd => (hheld hin hfull l hl hd).after hrest⟩

/-- The sump after the starting levels. -/
theorem takeLevels_sump (hpump : s.sump.pump = false) (hcall : s.sump.callMark = false)
    (htimer : s.sump.backupTimer = none) :
    (takeLevels s).sump.callMark = s.covered .sumpHigh ∧
      (takeLevels s).sump.pump =
        ((takeLevels s).fillingTank.isSome && s.covered .sumpHigh && s.covered .sumpLow && !s.sump.hold) ∧
      (takeLevels s).sump.backupTimer =
        if s.covered .sumpHigh && !(takeLevels s).sump.pump then some s.backupStarted else none := by
  have hsump : s.tested.sump = s.taken.sump :=
    (faultTests_steps (P := fun _ => True) (List.finRange 3) (fun _ _ => trivial) (s := s.taken) hidle
      (unopened_any _)).stable (restingSump_stable s.taken.sump hpump hcall) rfl
  obtain ⟨hstands, hwanted⟩ := controlStarts_sump s.startUp.restored (s := s.tested) (by rw [hsump]; exact hpump)
    (by rw [hsump]; exact hcall) (by rw [hsump]; exact htimer)
  have hcovered (w : Switch) : (takeLevels s).covered w = s.covered w :=
    covered_of_fixed (takeLevels_fixed_taken s) w
  have htested (w : Switch) : s.tested.covered w = s.covered w := covered_of_fixed (tested_fixed s) w
  have hstarted : (takeLevels s).backupStarted = s.backupStarted :=
    (backupStarted_of_fixed (takeLevels_fixed_taken s)).trans rfl
  rw [← takeLevels_tested] at hstands hwanted
  refine ⟨hstands.call.trans (hcovered _), ?_, ?_⟩
  · rw [hwanted, htested, htested, hsump]
    rfl
  · rw [hstands.timer, hcovered, hstarted]

/-- The switch fault tests beside a FILLING tank whose switches agree leave it the filling one. -/
theorem tested_filling {t : Fin 3} (hf : s.fillingTank = some t)
    (hagree : (s.covered (.tankHigh t) && !s.covered (.tankLow t)) = false) :
    Spares t s.taken s.tested ∧ s.tested.fillingTank = some t := by
  obtain ⟨hfilling, hfirst⟩ := fillingTank_eq_some.mp hf
  have hbeside : Beside t s.taken s.tested := faultTests_beside (s := s.taken) (List.finRange 3) hidle hfilling hagree
  exact ⟨hbeside.spares, fillingTank_eq_some.mpr ⟨hbeside.spares.state.trans hfilling,
    fun u hu h => hfirst u hu (hbeside.filling u h)⟩⟩

theorem takeLevels_times {t : Fin 3} {l : Lot} (hr : s.startUp.restored = true) (hf : s.fillingTank = some t)
    (hl : s.lotIn t = some l) (hhigh : s.covered (.tankHigh t) = false) :
    (takeLevels s).kept.tanks[t].state = .filling ∧
      (takeLevels s).timers[t].maxFill = s.maxFillTimer l.settings.maxFill := by
  obtain ⟨hspares, hfilling⟩ := tested_filling hidle hf (by rw [hhigh]; rfl)
  obtain ⟨l', hl', heq⟩ := hspares.lotIn hl
  have hsettings : l'.settings = l.settings := by
    rcases heq with rfl | rfl <;> rfl
  have hnow : s.tested.now = s.now := (now_of_fixed (tested_fixed s)).trans rfl
  obtain ⟨hstate, htimer⟩ := restored_times hfilling hl' ((covered_of_fixed (tested_fixed s) _).trans hhigh)
  rw [takeLevels_tested, hr]
  refine ⟨hstate, htimer.trans ?_⟩
  rw [hsettings]
  simp only [State.maxFillTimer, State.timer, hnow]

theorem takeLevels_closes {t : Fin 3} {l : Lot} (hr : s.startUp.restored = true) (hf : s.fillingTank = some t)
    (hl : s.lotIn t = some l) (hhigh : s.covered (.tankHigh t) = true) (hlow : s.covered (.tankLow t) = true) :
    (takeLevels s).kept.tanks[t].state = .closed ∧ ∃ l', (takeLevels s).lotIn t = some l' ∧
      l'.number = l.number ∧ l'.closed = some s.stamp ∧
      l'.volumeSuspect = (l.volumeSuspect || l.filled * 2 < l.settings.capacity) := by
  obtain ⟨hspares, hfilling⟩ := tested_filling hidle hf (by rw [hhigh, hlow]; rfl)
  obtain ⟨l', hl', heq⟩ := hspares.lotIn hl
  have hstamp : s.tested.stamp = s.stamp := (stamp_of_fixed (tested_fixed s)).trans rfl
  obtain ⟨hstate, l'', hl'', hnumber, hclosed, hsuspect⟩ :=
    restored_closes hfilling hl' ((covered_of_fixed (tested_fixed s) _).trans hhigh)
  rw [takeLevels_tested, hr]
  refine ⟨hstate, l'', hl'', ?_⟩
  rw [hnumber, hclosed, hsuspect, hstamp]
  rcases heq with rfl | rfl <;> exact ⟨rfl, rfl, rfl⟩

end

section
variable {s : State} {t : Fin 3}

/-- A covered tank is EMPTY and in service after its test, and so is a dry one. -/
theorem testedTank_agree (h : s.covered (.tankLow t) = true ∨ s.covered (.tankHigh t) = false) :
    (testedTank s t).state = .empty := by
  have hagree : s.switchesDisagree t = false := by
    rcases h with h | h <;> rw [State.switchesDisagree, h]
    · exact Bool.and_false _
    · exact Bool.false_and _
  exact if_neg (by rw [hagree]; exact Bool.false_ne_true)

theorem testedTank_disagree (hhigh : s.covered (.tankHigh t) = true) (hlow : s.covered (.tankLow t) = false) :
    (testedTank s t).state = .outOfService := by
  have hdisagree : s.switchesDisagree t = true := by
    rw [State.switchesDisagree, hhigh, hlow]
    rfl
  exact if_pos hdisagree

theorem testedTank_filling : (testedTank s t).state ≠ .filling := by
  unfold testedTank
  dsimp only
  split <;> nofun

end

section
variable {low : Fin 3 → Bool} {base : Fin 3 → Tank} {settings : Vector TankSettings 3} {t : Fin 3}

theorem unknownTable_wet (h : low t = true) : unknownTable low base settings 3 t =
    { state := .closed, lot := some (Lot.unknown (wetBefore low t.val + 1) settings[t]) } :=
  if_pos ⟨t.isLt, h⟩

theorem unknownTable_dry (h : low t = false) : unknownTable low base settings 3 t = base t :=
  if_neg fun h' => absurd (h.symm.trans h'.2) Bool.false_ne_true

end

/-- What follows the making of unknown lots does to a table without a FILLING lot. -/
theorem controlStarts_made {s : State} (hf : (startSump s).fillingTank = none)
    (hw : (fillSelection (eachTank makeUnknown (startSump s))).kept.sampleWait = []) :
    (controlStarts false s).kept = (fillSelection (eachTank makeUnknown (startSump s))).kept ∧
      TankSteps (fun _ => True) (eachTank makeUnknown (startSump s)) (controlStarts false s) := by
  have hstarts : controlStarts false s =
      samplerTest (pumpJudge (fillSelection (eachTank makeUnknown (startFilling (startSump s))))) := rfl
  rw [startFilling_none hf] at hstarts
  generalize eachTank makeUnknown (startSump s) = made at *
  rw [hstarts]
  refine ⟨?_, ((fillSelection_steps (unopened_any made)).step (.pump _)).step (.sampler _)⟩
  rw [samplerTest_noneWaits (by rw [pumpJudge_kept]; exact hw), pumpJudge_kept]

/-- The lots that a failed restore leaves with no tank of a lot known. -/
theorem takeLevels_unknown {s : State} (hr : s.startUp.restored = false)
    (hempty : ∀ t : Fin 3, s.kept.tanks[t] = { state := .empty, lot := none }) (hw : s.kept.sampleWait = [])
    (hn : s.kept.nextLot = 1) :
    let low (t : Fin 3) := s.covered (.tankLow t)
    (∀ t, low t = true → (takeLevels s).latched .lotHeld = true ∧ ∃ settings, (takeLevels s).kept.tanks[t] =
      { state := .closed, lot := some (Lot.unknown (wetBefore low t.val + 1) settings) }) ∧
    ∀ t, low t = false → s.covered (.tankHigh t) = false →
      (∀ v < t, low v = true ∨ s.covered (.tankHigh v) = true) → (takeLevels s).kept.tanks[t].state = .filling := by
  intro low
  let base := testedTank s.taken
  have htested : TableIs base 1 s.tested := faultTests_table (s := s.taken) ⟨hempty, hw, hn⟩
  have hstarted : TableIs base 1 (startSump s.tested) := htested.of_kept (by rw [startSump_eq])
  have hcovered (w : Switch) : (startSump s.tested).covered w = s.covered w :=
    covered_of_fixed ((startSump_fixed _).trans (tested_fixed s)) w
  have hnone : (startSump s.tested).fillingTank = none := by
    rw [State.fillingTank, List.find?_eq_none]
    intro t _
    rw [hstarted.tank, decide_eq_true_eq]
    exact testedTank_filling
  have hmade : MadeBefore low base (startSump s.tested).kept.tankSettings 3 (eachTank makeUnknown (startSump s.tested)) :=
    makeUnknowns_made hstarted (fun t => hcovered _) (fun _ => rfl) fun t ht => by
      rw [testedTank_agree (s := s.taken) (.inl ht)]
      nofun
  have hhigh (t : Fin 3) : (eachTank makeUnknown (startSump s.tested)).covered (.tankHigh t) = s.covered (.tankHigh t) :=
    (covered_of_fixed (eachTank_fixed makeUnknown (fun t s => makeUnknown_fixed s t) _) _).trans (hcovered _)
  generalize (startSump s.tested).kept.tankSettings = settings at hmade
  obtain ⟨hwaiting, hkeeps, hfills⟩ := fillSelection_table hmade.table
    (fun t => by
      cases ht : low t with
      | true => rw [unknownTable_wet ht]; nofun
      | false => rw [unknownTable_dry ht]; exact testedTank_filling)
    (fun t hstate => by
      rw [hhigh]
      cases ht : low t with
      | true => rw [unknownTable_wet ht] at hstate; cases hstate
      | false =>
        rw [unknownTable_dry ht] at hstate
        refine Bool.eq_false_iff.mpr fun h => ?_
        have hout : (base t).state = .outOfService := testedTank_disagree (s := s.taken) h ht
        rw [hout] at hstate
        cases hstate)
  obtain ⟨hkept, hsteps⟩ := controlStarts_made hnone hwaiting
  rw [takeLevels_tested, hr, hkept]
  refine ⟨fun t ht => ⟨hsteps.flags (hmade.flag t t.isLt ht), settings[t], ?_⟩, fun t ht hdry hbefore => hfills t ?_ ?_⟩
  · rw [hkeeps t (by rw [unknownTable_wet ht]; nofun), unknownTable_wet ht]
  · rw [unknownTable_dry ht]
    exact testedTank_agree (s := s.taken) (.inr hdry)
  · intro v hv
    cases hlow : low v with
    | true => rw [unknownTable_wet hlow]; nofun
    | false =>
      have hup : s.covered (.tankHigh v) = true := (hbefore v hv).resolve_left (by rw [hlow]; exact Bool.false_ne_true)
      have hout : (base v).state = .outOfService := testedTank_disagree (s := s.taken) hup hlow
      rw [unknownTable_dry hlow, hout]
      nofun

end Sys2Proof.Machine

namespace Sys2Proof.Settled

open Sys2Proof Sys2Proof.Machine

/-- Settles O59: the actions at the start-up's end, and then what the start of Tank Control does to a tank whose switches
disagree, the sump, the EMPTY tanks, a restored FILLING lot and the table of a failed restore. -/
theorem startUpEnds : Obligations.StartUpEnds := by
  refine ⟨fun dt s => ?_, fun s hidle => ?_⟩
  · intro x levels threshold
    refine ⟨?_, ?_, ?_, ?_⟩
    · exact restoreEnds dt s
    · intro hawake hdue
      exact ⟨_, execStartingLevels hawake hdue, marks_of_fixed (s := s.after dt) (startingLevels_fixed (s.after dt))⟩
    · exact fun hawake hdue => execStartingLevels hawake hdue
    · exact fun hawake => imageWritten hawake
  intro u low high call
  refine ⟨fun t hhigh hlow => ?_, fun hpump hcall htimer => ?_, ?_, fun t l hr hf hl => ⟨fun hhigh => ?_,
      fun hhigh hlow => ?_⟩, fun hr hempty hw hn t => ?_⟩
  · obtain ⟨hout, hflag, hheld⟩ := takeLevels_faulted hidle hhigh hlow
    refine ⟨hout, hflag, fun l hl hin hfull hd => ?_⟩
    obtain ⟨hlot, l', hl', hidentity, hreason⟩ := hheld hin hfull l hl hd
    obtain ⟨hnumber, hcurrent⟩ := Prod.mk.inj hidentity
    exact ⟨hlot, l', hl', hnumber, hcurrent, hreason⟩
  · have hsump := takeLevels_sump hidle hpump hcall htimer
    exact hsump
  · rintro ⟨t, ht⟩
    exact controlStarts_fills _ s.tested t ht
  · have htimes := takeLevels_times hidle hr hf hl hhigh
    exact htimes
  · have hcloses := takeLevels_closes hidle hr hf hl hhigh hlow
    exact hcloses
  · obtain ⟨hwet, hdry⟩ := takeLevels_unknown hr hempty hw hn
    refine ⟨fun ht => ?_, hdry t⟩
    obtain ⟨hflag, settings, htank⟩ := hwet t ht
    have hstate : (takeLevels s).kept.tanks[t].state = .closed := by rw [htank]
    have hlot : (takeLevels s).lotIn t = some (Lot.unknown (wetBefore low t.val + 1) settings) := by
      rw [State.lotIn, htank]
    exact ⟨hstate, hflag, _, hlot, rfl, rfl, rfl, rfl, rfl, rfl, rfl, rfl, rfl⟩

end Sys2Proof.Settled
end

section
/-! SUPPORT. What the actions of the blocks leave of the silver on the books: the accounts, the day total and the train.
Most actions leave the books, the Retained Store and the queues of the Plant Link as they are but for notices; those that
can end or start a drain may order a write, which captures the books as they stand. One lemma for each action, in the
order of the model's files. -/

namespace Sys2Proof.Machine

open Sys2Proof

/-- The silver on the books: the Silver Accounts, the day discharge total and the Cartridge Train (R22, R118, R151). -/
structure Books where
  accounts : Accounts
  total : NanoAccount
  train : List Cartridge

def Kept.books (k : Kept) : Books :=
  { accounts := k.accounts, total := k.day.total, train := k.train }

/-- What no notice changes of the Plant Link. -/
def Link.rest (k : Link) : Link :=
  { k with outbound := [], notices := [] }

/-- What those actions leave: the books of the working copy, the Retained Store, and the Plant Link but for its notices. -/
structure Ledger where
  books : Books
  store : Store
  link : Link

def State.ledger (s : State) : Ledger :=
  { books := s.kept.books, store := s.store, link := s.link.rest }

section
variable {s t : State} (h : t.ledger = s.ledger)
include h

theorem books_of_ledger : t.kept.books = s.kept.books := congrArg Ledger.books h
theorem store_of_ledger : t.store = s.store := congrArg Ledger.store h
theorem rest_of_ledger : t.link.rest = s.link.rest := congrArg Ledger.link h

end

theorem accounts_of_books {k m : Kept} (h : k.books = m.books) : k.accounts = m.accounts := congrArg Books.accounts h
theorem train_of_books {k m : Kept} (h : k.books = m.books) : k.train = m.train := congrArg Books.train h

section
variable (s : State)

/-! ### Named updates -/

@[simp] theorem modChannel_ledger (i : Fin 16) (f : Channel → Channel) : (s.modChannel i f).ledger = s.ledger := rfl
@[simp] theorem modAnalyzer_ledger (i : Fin 5) (f : Analyzer → Analyzer) : (s.modAnalyzer i f).ledger = s.ledger := rfl
@[simp] theorem modSwitch_ledger (i : Fin 12) (f : SwitchInput → SwitchInput) : (s.modSwitch i f).ledger = s.ledger := rfl
@[simp] theorem modLine_ledger (i : Fin 4) (f : LineUnit → LineUnit) : (s.modLine i f).ledger = s.ledger := rfl
@[simp] theorem modLoop_ledger (i : Fin 4) (f : WashLoop → WashLoop) : (s.modLoop i f).ledger = s.ledger := rfl
@[simp] theorem modCell_ledger (i : Fin 4) (f : Cell → Cell) : (s.modCell i f).ledger = s.ledger := rfl
@[simp] theorem modTimers_ledger (i : Fin 3) (f : TankTimers → TankTimers) : (s.modTimers i f).ledger = s.ledger := rfl
@[simp] theorem modTank_ledger (i : Fin 3) (f : Tank → Tank) : (s.modTank i f).ledger = s.ledger := rfl
@[simp] theorem modLot_ledger (i : Fin 3) (f : Lot → Lot) : (s.modLot i f).ledger = s.ledger := rfl
@[simp] theorem modPath_ledger (f : Path → Path) : (s.modPath f).ledger = s.ledger := rfl

/-! ### Flags and notices -/

@[simp] theorem handNotice_ledger (key : Fin 33) (content : NoticeContent) :
    (handNotice key content s).ledger = s.ledger := by
  have hrest : (s.link.handed s.kept.noticeMask[key] key content).rest = s.link.rest := by
    unfold Link.handed
    split
    · dsimp only
      split
      · split <;> rfl
      · rfl
    · rfl
  rw [handNotice_handed]
  exact congrArg (fun k => { s.ledger with link := k }) hrest

@[simp] theorem modFlag_ledger (i : Fin 28) (f : FlagRecord → FlagRecord) : (s.modFlag i f).ledger = s.ledger := rfl

@[simp] theorem judgeAlert_ledger : (judgeAlert s).ledger = s.ledger := rfl

@[simp] theorem latch_ledger (f : Flag) : (latch f s).ledger = s.ledger := by
  unfold latch
  split
  · rfl
  · simp [handAlert]

@[simp] theorem clearByPart_ledger (f : Flag) : (clearByPart f s).ledger = s.ledger := by
  unfold clearByPart
  split
  · simp [handAlert]
  · rfl

@[simp] theorem latchIf_ledger (b : Bool) (f : Flag) : (latchIf b f s).ledger = s.ledger := by
  unfold latchIf; split <;> simp

/-! ### Cells -/

@[simp] theorem stageDuty_ledger (c : Fin 4) (target : Nat) : (stageDuty c target s).ledger = s.ledger := rfl

@[simp] theorem cellFaulted_ledger (c : Fin 4) (reason : CellFault) : (cellFaulted c reason s).ledger = s.ledger := by
  simp [cellFaulted]

@[simp] theorem finishTick_ledger (c : Fin 4) (n : Nat) : (finishTick c n s).ledger = s.ledger := rfl

@[simp] theorem cellTick_ledger (c : Fin 4) : (cellTick c s).ledger = s.ledger := by
  unfold cellTick
  split
  · simp
  · split <;> simp
  · simp
  · simp

@[simp] theorem tickAndRestart_ledger (c : Fin 4) : (tickAndRestart c s).ledger = s.ledger := by
  simp [tickAndRestart]

@[simp] theorem testPrimed_ledger (c : Fin 4) : (testPrimed c s).ledger = s.ledger := by
  unfold testPrimed
  dsimp only
  split <;> simp

@[simp] theorem enterPriming_ledger (c : Fin 4) : (enterPriming c s).ledger = s.ledger := by
  simp [enterPriming]

@[simp] theorem enterStandby_ledger (c : Fin 4) : (enterStandby c s).ledger = s.ledger := by
  simp [enterStandby]

@[simp] theorem cellEnteredValid_ledger (c : Fin 4) : (cellEnteredValid c s).ledger = s.ledger := by
  simp [cellEnteredValid]

@[simp] theorem cellLeftValid_ledger (c : Fin 4) (state : AnalyzerState) (held : Bool) :
    (cellLeftValid c state held s).ledger = s.ledger := by
  unfold cellLeftValid
  dsimp only
  split
  · split <;> simp
  · simp

@[simp] theorem cellHoldExpired_ledger (c : Fin 4) : (cellHoldExpired c s).ledger = s.ledger := by
  rw [cellHoldExpired_cells]; rfl

@[simp] theorem cellFlowChange_ledger (c : Fin 4) (covered : Bool) : (cellFlowChange c covered s).ledger = s.ledger := by
  unfold cellFlowChange
  dsimp only
  split <;> simp

@[simp] theorem recoverCell_ledger (c : Fin 4) : (recoverCell c s).ledger = s.ledger := by
  unfold recoverCell
  dsimp only
  split
  · simp
  · split <;> simp

@[simp] theorem startingFlow_ledger (c : Fin 4) : (startingFlow c s).ledger = s.ledger := by
  simp [startingFlow]

@[simp] theorem primingExpired_ledger (c : Fin 4) : (primingExpired c s).ledger = s.ledger :=
  cellFaulted_ledger s c _

/-! ### Wash loops -/

@[simp] theorem retarget_ledger (l : Fin 4) : (retarget l s).ledger = s.ledger := rfl
@[simp] theorem washOff_ledger (l : Fin 4) : (washOff l s).ledger = s.ledger := rfl
@[simp] theorem washIdle_ledger (l : Fin 4) : (washIdle l s).ledger = s.ledger := rfl
@[simp] theorem washRun_ledger (l : Fin 4) : (washRun l s).ledger = s.ledger := rfl
@[simp] theorem washPulse_ledger (l : Fin 4) (q : Nat) : (washPulse l q s).ledger = s.ledger := rfl

@[simp] theorem retargetIfActive_ledger (l : Fin 4) : (retargetIfActive l s).ledger = s.ledger := by
  unfold retargetIfActive; split <;> simp

@[simp] theorem ownerRate_ledger (r : Role) (rate : Nat) (moving : Bool) :
    (ownerRate r rate moving s).ledger = s.ledger := by
  rw [ownerRate_eq]; rfl

@[simp] theorem startCycle_ledger (l : Fin 4) : (startCycle l s).ledger = s.ledger := by
  have hjudged : (judgeCycle l s).ledger = s.ledger := by
    unfold judgeCycle
    dsimp only
    split
    · split
      · split <;> simp
      · simp
    · rfl
  exact (modLoop_ledger _ _ _).trans hjudged

@[simp] theorem backupAt_ledger (b : Bool) (l : Fin 4) : (backupAt b l s).ledger = s.ledger := by
  unfold backupAt
  dsimp only
  split <;> simp

@[simp] theorem recoverLoop_ledger (l : Fin 4) : (recoverLoop l s).ledger = s.ledger := by
  simp [recoverLoop]

end

section
variable (s : State)

@[simp] theorem recoverCells_ledger : (recoverCells s).ledger = s.ledger :=
  foldl_keeps _ State.ledger (fun s c => recoverCell_ledger s c) _ s

@[simp] theorem backupEvent_ledger (b : Bool) : (backupEvent b s).ledger = s.ledger :=
  foldl_keeps _ State.ledger (fun s l => backupAt_ledger s b l) _ s

@[simp] theorem recoverLoops_ledger : (recoverLoops s).ledger = s.ledger :=
  foldl_keeps _ State.ledger (fun s l => recoverLoop_ledger s l) _ s

/-! ### Lots, the Sampler and the pump -/

@[simp] theorem lotEvent_ledger (kind : LotEventKind) (t : Fin 3) : (lotEvent kind t s).ledger = s.ledger := by
  unfold lotEvent
  split
  · rfl
  · exact handNotice_ledger s _ _

@[simp] theorem dropFromLists_ledger (n : Nat) : (dropFromLists n s).ledger = s.ledger := rfl

@[simp] theorem enterHeld_ledger (t : Fin 3) (reason : HoldReason) : (enterHeld t reason s).ledger = s.ledger := by
  simp [enterHeld]

@[simp] theorem enterSampleWait_ledger (t : Fin 3) : (enterSampleWait t s).ledger = s.ledger := by
  unfold enterSampleWait; split <;> rfl

@[simp] theorem enterQueued_ledger (t : Fin 3) : (enterQueued t s).ledger = s.ledger := by
  unfold enterQueued; split <;> rfl

@[simp] theorem enterQueueHead_ledger (t : Fin 3) : (enterQueueHead t s).ledger = s.ledger := by
  unfold enterQueueHead; split <;> rfl

@[simp] theorem enterPolishWait_ledger (t : Fin 3) : (enterPolishWait t s).ledger = s.ledger := by
  unfold enterPolishWait; split <;> rfl

@[simp] theorem samplerTest_ledger : (samplerTest s).ledger = s.ledger := by
  rcases samplerTest_cases s with h | ⟨_, _, _, _, _, h⟩ <;> rw [h]
  rfl

@[simp] theorem samplerEnd_ledger : (samplerEnd s).ledger = s.ledger := rfl

@[simp] theorem attemptFails_ledger : (attemptFails s).ledger = s.ledger := by
  unfold attemptFails
  split
  · simp
  · dsimp only; split <;> simp

@[simp] theorem pumpJudge_ledger : (pumpJudge s).ledger = s.ledger :=
  pumpJudge_keeps State.ledger (startPump_keeps _ (fun _ _ _ => rfl) fun _ _ => rfl) (fun _ => rfl) s

@[simp] theorem openLot_ledger (t : Fin 3) : (openLot t s).ledger = s.ledger :=
  (pumpJudge_ledger _).trans rfl

@[simp] theorem enterSettling_ledger (t : Fin 3) : (enterSettling t s).ledger = s.ledger := by
  unfold enterSettling
  split
  · rfl
  · dsimp only; split <;> simp

@[simp] theorem closeFill_ledger (t : Fin 3) : (closeFill t s).ledger = s.ledger := rfl

@[simp] theorem closeSteps_ledger (t : Fin 3) (byHigh : Bool) : (closeSteps t byHigh s).ledger = s.ledger := by
  simp [closeSteps]

@[simp] theorem fillTurns_ledger (k : Nat) : (fillTurns k s).ledger = s.ledger := by
  induction k generalizing s with
  | zero => rfl
  | succ k ih =>
    unfold fillTurns
    split
    · rfl
    · split
      · rfl
      · dsimp only; split <;> simp [ih]

@[simp] theorem fillSelection_ledger : (fillSelection s).ledger = s.ledger := fillTurns_ledger _ _

@[simp] theorem closeLot_ledger (t : Fin 3) (byHigh : Bool) : (closeLot t byHigh s).ledger = s.ledger := by
  simp [closeLot]

@[simp] theorem leaveTable_ledger (t : Fin 3) (d : Disposition) (hauled : Nat) (unknown : Bool) :
    (leaveTable t d hauled unknown s).ledger = s.ledger := by
  unfold leaveTable
  split
  · rfl
  · exact (handNotice_ledger _ _ _).trans rfl

/-! ### Handing a lot back, and the end of a drain -/

@[simp] theorem handBackReturned_ledger (t : Fin 3) : (handBackReturned t s).ledger = s.ledger := by
  simp [handBackReturned]

@[simp] theorem handBackDrained_ledger (t : Fin 3) : (handBackDrained t s).ledger = s.ledger := by
  simp [handBackDrained]

@[simp] theorem handBackHeld_ledger (reason : HoldReason) (t : Fin 3) : (handBackHeld reason t s).ledger = s.ledger := by
  simp [handBackHeld]

@[simp] theorem handBackPassed_ledger (t : Fin 3) : (handBackPassed t s).ledger = s.ledger := by
  simp [handBackPassed]

@[simp] theorem handBackAbandoned_ledger (t : Fin 3) : (handBackAbandoned t s).ledger = s.ledger := by
  simp [handBackAbandoned]

theorem handBack_ledger (how : Fin 3 → State → State) (h : ∀ t s, (how t s).ledger = s.ledger) :
    (handBack how s).ledger = s.ledger := by
  unfold handBack
  split
  · rfl
  · exact h _ _

@[simp] theorem addDayVolume_ledger (q : Nat) : (addDayVolume q s).ledger = s.ledger := rfl

@[simp] theorem pathEnds_ledger : (pathEnds s).ledger = s.ledger := by
  unfold pathEnds
  dsimp only
  split <;> simp

/-! ### The permit, the arbiter's routing, and the day -/

@[simp] theorem putInForce_ledger (p : Permit) : (putInForce p s).ledger = s.ledger := by
  have hcleared (x : State) : (clearByPart .permitCorrupt x).ledger = x.ledger := clearByPart_ledger x _
  exact (hcleared _).trans rfl

@[simp] theorem setDayFlags_ledger (f : DayFlags → DayFlags) : (setDayFlags f s).ledger = s.ledger := rfl

@[simp] theorem routeAbove_ledger (t : Fin 3) : (routeAbove t s).ledger = s.ledger := by
  unfold routeAbove
  split
  · rfl
  · dsimp only; split <;> simp

@[simp] theorem judgeHeads_ledger (k : Nat) : (judgeHeads k s).ledger = s.ledger := by
  induction k generalizing s with
  | zero => rfl
  | succ k ih =>
    unfold judgeHeads
    split
    · split
      · rfl
      · split <;> simp [ih]
    · rfl

@[simp] theorem refuseRelease_ledger (p : Permit) : (refuseRelease s p).ledger = s.ledger := by
  unfold refuseRelease; split <;> simp

@[simp] theorem clearCapReached_ledger : (clearCapReached s).ledger = s.ledger := by
  unfold clearCapReached; split <;> simp

@[simp] theorem setStandingFlags_ledger : (setStandingFlags s).ledger = s.ledger := rfl

/-! ### The Sampler and Tank Control -/

@[simp] theorem flushEnds_ledger : (flushEnds s).ledger = s.ledger := by
  unfold flushEnds
  dsimp only
  split
  · rfl
  · exact (attemptFails_ledger _).trans rfl

@[simp] theorem samplerPublished_ledger (value : Nat) : (samplerPublished value s).ledger = s.ledger := by
  unfold samplerPublished; split <;> rfl

@[simp] theorem samplerLeftValid_ledger : (samplerLeftValid s).ledger = s.ledger := by
  unfold samplerLeftValid; split <;> simp

@[simp] theorem holdSampler_ledger : (holdSampler s).ledger = s.ledger := by
  unfold holdSampler
  dsimp only
  split
  · rfl
  · exact (samplerEnd_ledger _).trans ((enterSampleWait_ledger _ _).trans rfl)

@[simp] theorem recoverSampler_ledger : (recoverSampler s).ledger = s.ledger :=
  (samplerTest_ledger _).trans rfl

@[simp] theorem settleExpired_ledger (t : Fin 3) : (settleExpired t s).ledger = s.ledger := by
  simp [settleExpired]

@[simp] theorem stopFilling_ledger (t : Fin 3) (reason : HoldReason) : (stopFilling t reason s).ledger = s.ledger := by
  simp [stopFilling]

@[simp] theorem sumpHighChange_ledger (covered : Bool) : (sumpHighChange covered s).ledger = s.ledger := by
  unfold sumpHighChange
  split <;> exact (pumpJudge_ledger _).trans rfl

@[simp] theorem backupArises_ledger : (backupArises s).ledger = s.ledger := by
  unfold backupArises
  rw [backupEvent_ledger, latch_ledger]; rfl

@[simp] theorem transferPulse_ledger (q : Nat) : (transferPulse q s).ledger = s.ledger := by
  unfold transferPulse
  split
  · unfold fillPulse
    dsimp only
    split <;> simp
  · rfl

@[simp] theorem maxFillExpired_ledger (t : Fin 3) : (maxFillExpired t s).ledger = s.ledger := by
  unfold maxFillExpired; split <;> simp

@[simp] theorem holdBlocks_ledger : (holdBlocks s).ledger = s.ledger := by
  unfold holdBlocks holdTanks
  rw [holdSampler_ledger]
  exact (pumpJudge_ledger _).trans rfl

@[simp] theorem recoverTanks_ledger : (recoverTanks s).ledger = s.ledger := by
  unfold recoverTanks
  rw [recoverSampler_ledger]
  exact (pumpJudge_ledger _).trans rfl

@[simp] theorem makeUnknown_ledger (t : Fin 3) : (makeUnknown t s).ledger = s.ledger := by
  unfold makeUnknown
  split
  · dsimp only
    rw [latch_ledger, lotEvent_ledger]; rfl
  · rfl

@[simp] theorem startSump_ledger : (startSump s).ledger = s.ledger := by
  unfold startSump; split <;> rfl

@[simp] theorem startFilling_ledger : (startFilling s).ledger = s.ledger := by
  unfold startFilling
  split
  · rfl
  · split <;> simp

/-! ### The inputs -/

theorem toConsumer_ledger (a : Fin 5) (toCell : Fin 4 → State → State) (toSampler : State → State)
    (hcell : ∀ c s, (toCell c s).ledger = s.ledger) (hsampler : ∀ s, (toSampler s).ledger = s.ledger) :
    (toConsumer a toCell toSampler s).ledger = s.ledger := by
  unfold toConsumer
  split
  · exact hsampler _
  · split
    · rfl
    · exact hcell _ _

@[simp] theorem handEnteredValid_ledger (a : Fin 5) : (handEnteredValid a s).ledger = s.ledger :=
  toConsumer_ledger s a _ _ (fun c s => cellEnteredValid_ledger s c) fun _ => rfl

@[simp] theorem handPublished_ledger (a : Fin 5) (value : Nat) : (handPublished a value s).ledger = s.ledger :=
  toConsumer_ledger s a _ _ (fun _ _ => rfl) fun s => samplerPublished_ledger s value

@[simp] theorem handLeftValid_ledger (a : Fin 5) : (handLeftValid a s).ledger = s.ledger :=
  toConsumer_ledger s a _ _ (fun c s => cellLeftValid_ledger s c _ _) samplerLeftValid_ledger

@[simp] theorem handHoldExpired_ledger (a : Fin 5) : (handHoldExpired a s).ledger = s.ledger := by
  rw [handHoldExpired_cells]; rfl

@[simp] theorem handLeaving_ledger (a : Fin 5) : (handLeaving a s).ledger = s.ledger := by
  unfold handLeaving; split <;> simp

@[simp] theorem enterFaulty_ledger (a : Fin 5) (state : AnalyzerState) : (enterFaulty a state s).ledger = s.ledger := by
  unfold enterFaulty
  dsimp only
  split <;> simp

@[simp] theorem publish_ledger (a : Fin 5) : (publish a s).ledger = s.ledger := by
  unfold publish
  dsimp only
  rw [handPublished_ledger]
  split <;> simp

@[simp] theorem takeResult_ledger (a : Fin 5) (r : PeriodResult) : (takeResult a r s).ledger = s.ledger := by
  unfold takeResult
  dsimp only
  split
  · simp
  · split <;> simp
  · split <;> simp

@[simp] theorem risingEdge_ledger (a : Fin 5) : (risingEdge a s).ledger = s.ledger := by
  unfold risingEdge
  dsimp only
  split
  · simp
  · split <;> simp

@[simp] theorem silent_ledger (a : Fin 5) : (silent a s).ledger = s.ledger := by
  simp [silent]

@[simp] theorem holdRunsOut_ledger (a : Fin 5) : (holdRunsOut a s).ledger = s.ledger := by
  simp [holdRunsOut]

@[simp] theorem setAnalyzer_ledger (a : Fin 5) (k : AnalyzerSettings) : (setAnalyzer a k s).ledger = s.ledger := by
  obtain ⟨_, _, _, h⟩ := setAnalyzer_eq s a k
  rw [h]; rfl

@[simp] theorem rebind_ledger (c : Fin 16) (k : ChannelSettings) : (rebind c k s).ledger = s.ledger := by
  obtain ⟨_, _, h⟩ := rebind_lines s c k
  rw [h]; rfl

@[simp] theorem limitBlock_ledger (c : Fin 16) : (limitBlock c s).ledger = s.ledger := by
  unfold limitBlock
  split
  · rfl
  · simp

@[simp] theorem goStale_ledger (c : Fin 16) : (goStale c s).ledger = s.ledger := by
  simp [goStale]

/-! ### Start-up and settings -/

@[simp] theorem latchResults_ledger : (latchResults s).ledger = s.ledger := by
  simp [latchResults]

@[simp] theorem latchStanding_ledger : (latchStanding s).ledger = s.ledger := by
  simp [latchStanding]

@[simp] theorem latchCap_ledger : (latchCap s).ledger = s.ledger := by
  unfold latchCap; split <;> simp

@[simp] theorem autostart_ledger (c : Fin 4) : (autostart c s).ledger = s.ledger := by
  unfold autostart; split <;> simp

@[simp] theorem cellTakes_ledger (c : Fin 4) (k : CellSettings) : (cellTakes c k s).ledger = s.ledger := by
  rw [cellTakes_eq]; rfl

@[simp] theorem loopTakesLine_ledger (l : Fin 4) (old : LineSettings) : (loopTakesLine l old s).ledger = s.ledger := by
  have hswitched : (if old.enabled && !s.kept.lines[l].enabled then washOff l s
      else if !old.enabled && s.kept.lines[l].enabled then
        if s.lines[l].filmMoving then washRun l s else washIdle l s
      else s).ledger = s.ledger := by
    split
    · simp
    · split
      · split <;> simp
      · rfl
  unfold loopTakesLine
  dsimp only
  rw [retargetIfActive_ledger]
  split
  · split
    · exact hswitched
    · split <;> simpa using hswitched
  · exact hswitched

/-- Every setting returned to its default but for the books themselves. -/
theorem defaultCells_ledger : (defaultCells (defaultLines (defaultInputs s))).ledger = s.ledger := by
  have hcells (x : State) : (defaultCells x).ledger = x.ledger :=
    foldl_keeps _ State.ledger (fun s c => cellTakes_ledger s c _) _ x
  have hlines (x : State) : (defaultLines x).ledger = x.ledger :=
    (foldl_keeps _ State.ledger (fun s l => by rw [loopOff_loops]; rfl) _ _).trans rfl
  have hanalyzers (x : State) : (defaultAnalyzers x).ledger = x.ledger :=
    foldl_keeps _ State.ledger (fun s a => setAnalyzer_ledger s a _) _ x
  have hchannels (x : State) : (defaultChannels x).ledger = x.ledger :=
    foldl_keeps _ State.ledger (fun s c => rebind_ledger s c _) _ x
  rw [hcells, hlines, defaultInputs_eq, hanalyzers, hchannels]

end

end Sys2Proof.Machine
end

section
/-! SUPPORT. The actions that may order a write of the retained image: each carries the books, in the working copy as in
the images. -/

namespace Sys2Proof.Machine

open Sys2Proof

/-- The Retained Store holds `k`, as its image or in the write in flight. -/
def State.Stored (s : State) (k : Kept) : Prop :=
  (∃ i, s.store.image = some i ∧ i.content = k) ∨ ∃ w, s.store.inFlight = some w ∧ w.content = k

theorem throughout_iff {P : Kept → Prop} {s : State} : Throughout P s ↔ P s.kept ∧ ∀ k, s.Stored k → P k := by
  constructor
  · rintro ⟨hkept, himage, hflight⟩
    refine ⟨hkept, ?_⟩
    rintro k (⟨i, hi, rfl⟩ | ⟨w, hw, rfl⟩)
    · exact himage i hi
    · exact hflight w hw
  · rintro ⟨hkept, hstored⟩
    exact ⟨hkept, fun i hi => hstored _ (.inl ⟨i, hi, rfl⟩), fun w hw => hstored _ (.inr ⟨w, hw, rfl⟩)⟩

/-- `t` has the books of `s`, and holds no image but those of `s` and images with the same books; of the Plant Link it
differs by notices at most. -/
structure Carries (s t : State) : Prop where
  link : t.link.rest = s.link.rest
  books : t.kept.books = s.kept.books
  stored : ∀ k, t.Stored k → s.Stored k ∨ k.books = s.kept.books

section
variable {s t u : State}

theorem Carries.of_ledger (h : t.ledger = s.ledger) : Carries s t where
  link := rest_of_ledger h
  books := books_of_ledger h
  stored k hk := by
    rw [State.Stored, store_of_ledger h] at hk
    exact .inl hk

theorem Carries.refl (s : State) : Carries s s := .of_ledger rfl

theorem Carries.trans (h : Carries s t) (h' : Carries t u) : Carries s u where
  link := h'.link.trans h.link
  books := h'.books.trans h.books
  stored k hk := by
    rcases h'.stored k hk with hk | hk
    · exact h.stored k hk
    · exact .inr (hk.trans h.books)

/-- An action that leaves the ledger, after one that carries the books. -/
theorem Carries.then (h : Carries s t) (h' : u.ledger = t.ledger) : Carries s u := h.trans (.of_ledger h')

/-- A property of the books holds throughout a state that carries them. -/
theorem Carries.throughout {R : Books → Prop} (h : Carries s t) (hs : Throughout (fun k => R k.books) s) :
    Throughout (fun k => R k.books) t := by
  obtain ⟨hkept, hstored⟩ := throughout_iff.mp hs
  refine throughout_iff.mpr ⟨by rw [h.books]; exact hkept, fun k hk => ?_⟩
  rcases h.stored k hk with hk | hk
  · exact hstored k hk
  · rw [hk]; exact hkept

end

theorem foldl_carries {α : Type} (act : State → α → State) (h : ∀ s a, Carries s (act s a)) (l : List α) (s : State) :
    Carries s (l.foldl act s) := by
  induction l generalizing s with
  | nil => exact .refl s
  | cons a l ih => exact (h s a).trans (ih _)

section
variable (s : State)

/-! ### Writes -/

theorem startWrite_carries (kind : WriteKind) : Carries s (startWrite kind s) where
  link := rfl
  books := rfl
  stored k hk := by
    rcases hk with ⟨_, hi, -⟩ | ⟨w, hw, rfl⟩
    · cases hi
    · cases hw; exact .inr rfl

theorem orderWrite_carries (kind : WriteKind) : Carries s (orderWrite kind s) := by
  unfold orderWrite
  split
  · exact startWrite_carries s kind
  · split
    · exact startWrite_carries s _
    · exact ⟨rfl, rfl, fun _ hk => .inl hk⟩

theorem completeWrite_carries : Carries s (completeWrite s) := by
  unfold completeWrite
  split
  · exact .refl s
  next w hw =>
    let done : State := { s with
      store := { image := some w.content.stored, inFlight := none, waiting := none }
      startUp := { s.startUp with restoreStands := false } }
    have hdone : Carries s done := by
      refine ⟨rfl, rfl, ?_⟩
      rintro k (⟨i, hi, rfl⟩ | ⟨_, hw', -⟩)
      · cases hi; exact .inl (.inr ⟨w, hw, rfl⟩)
      · cases hw'
    dsimp only
    split
    · exact hdone
    · exact hdone.trans (startWrite_carries done _)

/-! ### Stops of a drain -/

/-- A stop carries the books when its handing back leaves the ledger. -/
theorem stopDrain_carries (cause : StopCause) (how : Fin 3 → State → State) (h : ∀ t s, (how t s).ledger = s.ledger) :
    Carries s (stopDrain cause how s) := by
  have hback (f : Path → Path) : Carries s (handBack how (s.modPath f)) := .of_ledger (handBack_ledger _ how h)
  unfold stopDrain
  dsimp only
  split
  · exact ((hback _).trans (orderWrite_carries _ _)).then rfl
  · exact (hback _).then rfl

theorem interruptDischarge_carries (cause : StopCause) : Carries s (interruptDischarge cause s) := by
  unfold interruptDischarge
  split
  · exact stopDrain_carries _ _ _ fun t s => handBackReturned_ledger s t
  · exact .refl s

theorem stopHeld_carries (cause : StopCause) (reason : HoldReason) : Carries s (stopHeld cause reason s) := by
  unfold stopHeld
  split
  · exact stopDrain_carries _ _ _ fun t s => handBackHeld_ledger s reason t
  · exact .refl s

theorem runDry_carries : Carries s (runDry s) := by
  unfold runDry
  split
  · exact .refl s
  · exact (Carries.of_ledger (modLot_ledger s _ _)).trans (stopDrain_carries _ _ _ fun t s => handBackDrained_ledger s t)

theorem drainLowLost_carries : Carries s (drainLowLost s) := by
  unfold drainLowLost
  split
  · exact runDry_carries s
  · exact stopDrain_carries _ _ _ fun t s => handBackHeld_ledger s .levelLost t
  · exact .refl s
  · exact .refl s

theorem drainTimedOut_carries : Carries s (drainTimedOut s) :=
  (stopHeld_carries s _ _).then (latch_ledger _ _)

theorem polishPulse_carries (q : Nat) : Carries s (polishPulse q s) := by
  unfold polishPulse
  dsimp only
  split
  · exact (Carries.of_ledger (modPath_ledger s _)).trans (stopDrain_carries _ _ _ fun t s => handBackPassed_ledger s t)
  · exact .of_ledger (modPath_ledger s _)

theorem holdPath_carries : Carries s (holdPath s) := by
  have hback (how : Fin 3 → State → State) (h : ∀ t s, (how t s).ledger = s.ledger) (x : State) :
      Carries x (stopForHold how x) := .of_ledger ((handBack_ledger _ how h).trans (modPath_ledger x _))
  have hmarked (f : Path → Path) : Carries s (s.modPath f) := .of_ledger (modPath_ledger s f)
  unfold holdPath
  dsimp only
  split
  · exact (((hmarked _).trans (hback _ (fun t s => handBackReturned_ledger s t) _)).trans (orderWrite_carries _ _)).then
      (pathEnds_ledger _)
  · exact ((hmarked _).trans (hback _ (fun t s => handBackAbandoned_ledger s t) _)).then (pathEnds_ledger _)
  · exact (hmarked _).then (pathEnds_ledger _)
  · exact hmarked _

/-! ### The permit and the arbiter -/

section
variable (tell : State → State) (htell : ∀ s, Carries s (tell s))
include htell

theorem judgeWindow_carries : Carries s (judgeWindow tell s) := by
  have hjudged : Carries s { s with permit := { s.permit with windowOpen := s.windowNow } } := .of_ledger rfl
  unfold judgeWindow
  dsimp only
  split
  · exact hjudged.trans (htell _)
  · exact hjudged.trans (interruptDischarge_carries _ _)
  · exact hjudged
  · exact hjudged

theorem activate_carries : Carries s (activate tell s) := by
  unfold activate
  split
  · exact .refl s
  · exact ((Carries.of_ledger (putInForce_ledger s _)).trans (judgeWindow_carries _ tell htell)).trans (htell _)

theorem digestCheck_carries : Carries s (digestCheck tell s) := by
  have hfound : Carries s (foundCorrupt s) := by
    let marked : State := { s with
      kept := { s.kept with permit := { s.kept.permit with corrupt := true } }
      permit := { s.permit with check := none } }
    have hmarked : Carries s marked := .of_ledger rfl
    have hflagged (x : State) (f : DayFlags → DayFlags) (p : PermitRun) :
        State.ledger { setDayFlags f (latch .permitCorrupt x) with permit := p } = x.ledger := latch_ledger x _
    exact (hmarked.trans (interruptDischarge_carries marked .permitCorrupt)).then (hflagged _ _ _)
  unfold digestCheck
  split
  · exact .refl s
  · split
    · exact .refl s
    · exact hfound.trans (activate_carries _ tell htell)

end

theorem takeDischarge_carries (t : Fin 3) (grant : Grant) (remaining : Int) :
    Carries s (takeDischarge t grant remaining s) := by
  unfold takeDischarge
  split
  · exact .refl s
  · dsimp only
    split
    · exact .of_ledger (by simp)
    · exact (Carries.of_ledger (by simp)).trans (runDry_carries _)

theorem takePolish_carries (t : Fin 3) : Carries s (takePolish t s) := by
  unfold takePolish
  split
  · exact .refl s
  · dsimp only
    split
    · exact .of_ledger (by simp)
    · exact (Carries.of_ledger (by simp)).trans (drainLowLost_carries _)

theorem polishStep_carries : Carries s (polishStep s) := by
  unfold polishStep
  split
  · exact .refl s
  · split
    · split
      · exact .refl s
      · exact takePolish_carries s _
    · exact .refl s

theorem judgeRelease_carries (t : Fin 3) (l : Lot) (p : Permit) : Carries s (judgeRelease t l p s) := by
  unfold judgeRelease
  dsimp only
  split
  · exact takeDischarge_carries s _ _ _
  · exact (Carries.of_ledger (refuseRelease_ledger s p)).trans (polishStep_carries _)

theorem decide_carries : Carries s (decide s) := by
  have hchecked : Carries s (digestCheck id s) := digestCheck_carries s id Carries.refl
  have hjudged := hchecked.then (judgeHeads_ledger (digestCheck id s) (digestCheck id s).kept.dischargeQueue.length)
  unfold decide
  split
  · exact polishStep_carries s
  · dsimp only
    split
    · split
      · exact hjudged.trans (polishStep_carries _)
      · split
        · exact hjudged.trans (polishStep_carries _)
        · exact hjudged.trans (judgeRelease_carries _ _ _ _)
    · exact hjudged.trans (polishStep_carries _)

theorem occasion_carries : Carries s (occasion s) := by
  unfold occasion
  split
  · exact decide_carries s
  · exact .refl s

theorem firstDecision_carries : Carries s (firstDecision s) :=
  (Carries.of_ledger (modPath_ledger s _)).trans (occasion_carries _)

theorem closingExpired_carries : Carries s (closingExpired s) :=
  (Carries.of_ledger (pathEnds_ledger s)).trans (occasion_carries _)

theorem recoverPath_carries : Carries s (recoverPath s) :=
  (Carries.of_ledger (modPath_ledger s _)).trans (occasion_carries _)

theorem checkExpired_carries : Carries s (checkExpired s) := by
  let restarted : State :=
    { s with permit := { s.permit with check := s.usablePermit.map fun _ => s.timer checkSpan } }
  have hrestarted : Carries s restarted := .of_ledger rfl
  exact hrestarted.trans (digestCheck_carries restarted occasion occasion_carries)

theorem routeQueued_carries (t : Fin 3) : Carries s (routeQueued t s) :=
  (Carries.of_ledger (by simp)).trans (occasion_carries _)

theorem routeLot_carries (t : Fin 3) : Carries s (routeLot t s) := by
  unfold routeLot
  split
  · exact .refl s
  · split
    · exact routeQueued_carries s t
    · split
      · exact routeQueued_carries s t
      · split
        · exact (Carries.of_ledger (routeAbove_ledger s t)).trans (occasion_carries _)
        · exact .of_ledger (routeAbove_ledger s t)

/-! ### Tank Control, the switches and the supply -/

theorem stopLot_carries (t : Fin 3) (cause : StopCause) (reason : HoldReason) : Carries s (stopLot t cause reason s) := by
  unfold stopLot
  split
  · exact .refl s
  · split
    case h_7 => exact stopHeld_carries s _ _
    case h_8 => exact stopHeld_carries s _ _
    all_goals exact .of_ledger (by simp)

theorem switchFaultTest_carries (t : Fin 3) : Carries s (switchFaultTest t s) := by
  unfold switchFaultTest
  split
  · split
    · exact .of_ledger (latch_ledger s _)
    · exact (Carries.of_ledger (by simp)).trans (stopLot_carries _ t _ _)
  · exact .refl s

theorem lowLost_carries (t : Fin 3) : Carries s (lowLost t s) := by
  unfold lowLost
  split
  · split
    · exact .refl s
    · split
      · exact .refl s
      · exact stopLot_carries s t _ _
  · exact drainLowLost_carries s
  all_goals exact .refl s

theorem switchChange_carries (w : Switch) (covered : Bool) : Carries s (switchChange w covered s) := by
  cases w with
  | tankLow t =>
    simp only [switchChange, tankLowChange]
    split
    · exact switchFaultTest_carries s t
    · exact (switchFaultTest_carries s t).trans (lowLost_carries _ t)
  | tankHigh t =>
    simp only [switchChange, tankHighChange]
    split
    · exact (switchFaultTest_carries s t).then (closeLot_ledger _ t true)
    · exact switchFaultTest_carries s t
  | sumpLow => exact .of_ledger (pumpJudge_ledger s)
  | sumpHigh => exact .of_ledger (sumpHighChange_ledger s covered)
  | cellFlow c => exact .of_ledger (cellFlowChange_ledger s c covered)

theorem debounced_carries (w : Switch) : Carries s (debounced w s) :=
  (Carries.of_ledger (modSwitch_ledger s _ _)).trans (switchChange_carries _ w _)

theorem eachTank_carries (f : Fin 3 → State → State) (h : ∀ t s, Carries s (f t s)) : Carries s (eachTank f s) :=
  foldl_carries _ (fun s t => h t s) _ s

theorem takeLevels_carries : Carries s (takeLevels s) := by
  let taken : State := { s with sump := { s.sump with levelsTaken := true } }
  have htaken : Carries s taken := .of_ledger rfl
  have htested := htaken.trans (eachTank_carries taken _ fun t s => switchFaultTest_carries s t)
  have hjudged := htested.then ((startFilling_ledger _).trans (startSump_ledger _))
  have hends (x : State) : (samplerTest (pumpJudge (fillSelection x))).ledger = x.ledger := by simp
  unfold takeLevels
  dsimp only
  split
  · exact hjudged.then (hends _)
  · exact (hjudged.trans (eachTank_carries _ _ fun t s => .of_ledger (makeUnknown_ledger s t))).then (hends _)

theorem startingLevels_carries : Carries s (startingLevels s) := by
  have hflows (x : State) : ((List.finRange 4).foldl (fun s c => startingFlow c s) x).ledger = x.ledger :=
    foldl_keeps _ State.ledger (fun s c => startingFlow_ledger s c) _ x
  let sampled : State := { s with
    switches := s.switches.map fun k => { k with accepted := some k.pin, debounce := none }
    startUp := { s.startUp with levels := none } }
  have hsampled : Carries s sampled := .of_ledger rfl
  exact ((hsampled.trans (takeLevels_carries sampled)).then (hflows _)).trans (firstDecision_carries _)

theorem enterHold_carries : Carries s (enterHold s) := by
  have hheld : Carries s (holdBlocks s) := .of_ledger (holdBlocks_ledger s)
  have hchosen : Carries s (holdBlocks s).choose.2 := .of_ledger (holdBlocks_ledger s)
  have hends (x : State) (hx : Carries s x) : Carries s (latch .supplyLow (holdPath x)) :=
    (hx.trans (holdPath_carries x)).then (latch_ledger _ _)
  unfold enterHold
  dsimp only
  split
  · exact hends _ (hchosen.trans (orderWrite_carries _ _))
  · split
    · exact (hends _ hchosen).trans (orderWrite_carries _ _)
    · exact (hends _ hheld).trans (orderWrite_carries _ _)

theorem judgeSupply_carries : Carries s (judgeSupply s) := by
  unfold judgeSupply
  split
  · split <;> exact .of_ledger rfl
  · split
    · exact enterHold_carries s
    · exact .refl s

theorem firstJudgement_carries : Carries s (firstJudgement s) := by
  unfold firstJudgement
  split
  · exact ((Carries.of_ledger (holdBlocks_ledger s)).trans (holdPath_carries _)).then (latch_ledger _ _)
  · exact .refl s

theorem recover_carries : Carries s (recover s) := by
  have hblocks (x : State) : (recoverTanks (recoverLoops (recoverCells x))).ledger = x.ledger := by simp
  let normal : State := { s with supply := { s.supply with hold := false, recovery := none } }
  have hnormal : Carries s normal := .of_ledger rfl
  exact (hnormal.then (hblocks normal)).trans (recoverPath_carries _)

theorem checkRestored_carries : Carries s (checkRestored s) := by
  have hchecked := digestCheck_carries s occasion occasion_carries
  unfold checkRestored
  dsimp only
  split
  · exact hchecked
  · exact hchecked.trans (activate_carries _ occasion occasion_carries)

theorem endRestore_carries : Carries s (endRestore s) := by
  let ended : State := { s with
    phase := .running
    startUp := { s.startUp with levels := some (s.timer (s.kept.plant.debounce * ms)) } }
  have hended : Carries s ended := .of_ledger rfl
  unfold endRestore
  dsimp only
  split
  · exact hended
  · exact hended.trans (firstJudgement_carries ended)

end

end Sys2Proof.Machine
end

section
/-! SUPPORT. What serving the requests leaves of the books, where their entries book nothing. -/

namespace Sys2Proof.Machine

open Sys2Proof

section
variable (s : State)

theorem serveSetLine_carries (f : LineFields) : Carries s (serveSetLine f s).2 := by
  unfold serveSetLine
  split
  · exact .refl s
  · split
    · exact .of_ledger (loopTakesLine_ledger _ _ _)
    · exact .refl s

theorem serveSetFilmType_carries (entry load : Nat) : Carries s (serveSetFilmType entry load s).2 := by
  unfold serveSetFilmType
  split
  · exact .refl s
  · split <;> exact .of_ledger rfl

theorem serveSetCell_carries (f : CellFields) : Carries s (serveSetCell f s).2 := by
  unfold serveSetCell
  split
  · exact .refl s
  next c _ =>
    split
    · split
      · exact .refl s
      · split
        · exact .refl s
        · exact .of_ledger (cellTakes_ledger s c _)
    · exact .refl s

theorem serveSetChannel_carries (f : ChannelFields) : Carries s (serveSetChannel f s).2 := by
  unfold serveSetChannel
  split
  · exact .refl s
  next c _ =>
    split
    · split
      · exact .refl s
      · split
        · exact .refl s
        · exact .of_ledger (rebind_ledger s c _)
    · exact .refl s

theorem serveSetAnalyzer_carries (f : AnalyzerFields) : Carries s (serveSetAnalyzer f s).2 := by
  unfold serveSetAnalyzer
  split
  · exact .refl s
  next a _ =>
    split
    · split
      · exact .refl s
      · exact .of_ledger (setAnalyzer_ledger s a _)
    · exact .refl s

theorem serveSetTank_carries (f : TankFields) : Carries s (serveSetTank f s).2 := by
  unfold serveSetTank
  split
  · exact .refl s
  · split
    · split <;> exact .of_ledger rfl
    · exact .refl s

theorem serveSetPermit_carries (f : PermitFields) : Carries s (serveSetPermit f s).2 := by
  unfold serveSetPermit
  split
  · let pending := s.modKept fun k => { k with permit := { k.permit with next := some f.permit } }
    have hpending : Carries s pending := .of_ledger rfl
    dsimp only
    split
    · exact hpending
    · exact hpending.trans (activate_carries pending occasion occasion_carries)
  · exact .refl s

theorem serveSetAlertMask_carries (enables : Vector Nat 16) : Carries s (serveSetAlertMask enables s).2 := by
  unfold serveSetAlertMask
  split <;> exact .of_ledger rfl

theorem serveSetNoticeMask_carries (enables : Vector Nat 33) : Carries s (serveSetNoticeMask enables s).2 := by
  unfold serveSetNoticeMask
  split <;> exact .of_ledger rfl

theorem serveStartCell_carries (cell : Nat) : Carries s (serveStartCell cell s).2 := by
  unfold serveStartCell
  split
  · exact .refl s
  next c _ =>
    split
    · split
      · exact .of_ledger (enterPriming_ledger s c)
      · exact .refl s
    all_goals exact .refl s

theorem serveStopCell_carries (cell : Nat) : Carries s (serveStopCell cell s).2 := by
  unfold serveStopCell
  split
  · exact .refl s
  · split <;> exact .of_ledger rfl

theorem serveClearCellFault_carries (cell : Nat) : Carries s (serveClearCellFault cell s).2 := by
  unfold serveClearCellFault
  split
  · exact .refl s
  · split <;> exact .of_ledger rfl

theorem serveCloseLot_carries : Carries s (serveCloseLot s).2 := by
  have hclosed (t : Fin 3) : Carries s (closeLot t false s) := .of_ledger (closeLot_ledger s t false)
  unfold serveCloseLot
  split
  · split
    · exact .refl s
    · split
      · exact .refl s
      · split
        · exact .refl s
        · dsimp only [okWith]
          exact hclosed _
  · exact .refl s

/-- A request on a lot number is refused, or acts on the live lot of that number. -/
theorem onLot_cases {n : Nat} {f : Fin 3 → Lot → Served} (p : State → Prop) (hs : p s) (hf : ∀ t l, p (f t l).2) :
    p (onLot n s f).2 := by
  unfold onLot
  split
  · split
    · split
      · exact hs
      · split
        · exact hs
        · exact hf _ _
    · exact hs
  · exact hs

theorem serveHoldLot_carries (n : Nat) : Carries s (serveHoldLot n s).2 :=
  onLot_cases s (Carries s) (.refl s) fun t l => by
    split
    · exact .refl s
    · exact stopLot_carries s t _ _

theorem serveReturnLot_carries (n : Nat) : Carries s (serveReturnLot n s).2 :=
  onLot_cases s (Carries s) (.refl s) fun t l => by
    split
    · exact .refl s
    · exact .of_ledger ((samplerTest_ledger _).trans (enterSampleWait_ledger _ t))

theorem servePolishLot_carries (n : Nat) : Carries s (servePolishLot n s).2 :=
  onLot_cases s (Carries s) (.refl s) fun t l => by
    split
    · exact .refl s
    · let waiting := enterPolishWait t ((dropFromLists n s).modLot t fun l => { l with hostPass := true })
      have hwaiting : Carries s waiting := .of_ledger (enterPolishWait_ledger _ t)
      exact hwaiting.trans (occasion_carries waiting)

theorem serveReturnTank_carries (tank : Nat) : Carries s (serveReturnTank tank s).2 := by
  unfold serveReturnTank
  split
  · exact .refl s
  · split
    · split
      · exact .of_ledger (fillSelection_ledger _)
      · exact .of_ledger rfl
    · exact .refl s

theorem serveSetDischargeEnable_carries (enable : Nat) : Carries s (serveSetDischargeEnable enable s).2 := by
  let enabled (b : Bool) : State := { s with permit := { s.permit with enable := b } }
  have henabled (b : Bool) : Carries s (enabled b) := .of_ledger rfl
  unfold serveSetDischargeEnable
  split
  · split
    · exact .refl s
    · exact (henabled true).trans (occasion_carries _)
  · split
    · split
      · exact (henabled false).trans (interruptDischarge_carries _ _)
      · exact .refl s
    · exact .refl s

theorem serveClearAlert_carries (kind inst : Nat) : Carries s (serveClearAlert kind inst s).2 := by
  have hcleared (x : State) (f : Flag) : (clearNamed f x).ledger = x.ledger := by
    unfold clearNamed; split <;> rfl
  unfold serveClearAlert
  split
  · exact .refl s
  · exact .of_ledger (foldl_keeps _ State.ledger hcleared _ s)

theorem permitAltered_carries (p : Permit) (digest : BitVec 32) : Carries s (permitAltered p digest s) := by
  unfold permitAltered
  split <;> exact .of_ledger rfl

end

end Sys2Proof.Machine
end

section
/-! SUPPORT. The Plant Link: what every request's serving keeps, and a latched flag keeps, every event of the link
keeps. -/

namespace Sys2Proof.Machine

open Sys2Proof

/-- A property that does not read the link or the free choices, and that latchings and served requests keep. -/
structure LinkKeeps (I : State → Prop) : Prop where
  link : ∀ (s : State) (l : Link) (choices : Nat), I s → I { s with link := l, choices := choices }
  latched : ∀ (f : Flag) (s : State), I s → I (latch f s)
  served : ∀ (r : Request) (s : State), I s → I (serveEntry r s).2

section
variable {I : State → Prop} (hI : LinkKeeps I)
include hI

theorem LinkKeeps.modLink {s : State} (h : I s) (f : Link → Link) : I (s.modLink f) :=
  hI.link s (f s.link) s.choices h

theorem LinkKeeps.chosen {s : State} (h : I s) : I s.choose.2 :=
  hI.link s s.link (s.choices + 1) h

theorem serve_keeps {s : State} (h : I s) (f : InFrame) : I (serve f s).2 := by
  unfold serve
  split
  · exact h
  · split
    · exact h
    · exact hI.served _ _ h

theorem takeHead_keeps {s : State} (h : I s) (f : InFrame) : I (takeHead f s).2 := by
  have hserved (g : Link → Link) : I (serve f (s.modLink g)).2 := serve_keeps hI (hI.modLink h g) f
  unfold takeHead appendReply
  dsimp only
  split
  · exact hI.modLink (hserved _) _
  · split <;> exact hI.modLink (hI.chosen (hserved _)) _

theorem moveNotice_keeps {s : State} (h : I s) : I (moveNotice s) := by
  unfold moveNotice
  split
  · exact h
  · exact hI.modLink h _

theorem settle_keeps {s : State} (h : I s) (fuel freed : Nat) : I (settle fuel freed s) := by
  induction fuel generalizing freed s with
  | zero => exact h
  | succ fuel ih =>
    unfold settle
    split
    · exact h
    · split
      · exact ih (moveNotice_keeps hI h) _
      · exact h
    · split
      · exact ih (takeHead_keeps hI h _) _
      · split
        · exact ih (hI.modLink h _) _
        · exact h
    · split
      · exact ih (takeHead_keeps hI h _) _
      · split
        · split
          · exact ih (moveNotice_keeps hI (hI.chosen h)) _
          · exact ih (hI.modLink (hI.chosen h) _) _
        · split
          · exact ih (takeHead_keeps hI h _) _
          · exact h

theorem offerFrame_keeps {s : State} (h : I s) (kind tag : Byte) (r : Request) : I (offerFrame kind tag r s) := by
  unfold offerFrame
  split
  · exact settle_keeps hI (hI.modLink h _) _ _
  · unfold overrunFrame
    split <;> exact hI.modLink h _

theorem frameSent_keeps {s : State} (h : I s) : I (frameSent s) := by
  unfold frameSent
  split
  · exact h
  · exact settle_keeps hI (hI.modLink h _) _ _

theorem damage_keeps {s : State} (h : I s) (cause : DamageCause) (bytes : Nat) : I (damage cause bytes s) := by
  unfold damage hunt
  exact hI.modLink (hI.latched .linkFault _ (hI.modLink h _)) _

theorem takeByte_keeps {s : State} (h : I s) (b : Byte) : I (takeByte b s) := by
  unfold takeByte
  dsimp only
  split
  · split <;> exact hI.modLink h _
  · split
    · exact hI.modLink h _
    · exact damage_keeps hI h _ _
  · exact hI.modLink h _
  · split
    · unfold judgeFrame
      dsimp only
      split
      · exact offerFrame_keeps hI (hI.modLink h _) _ _ _
      · exact damage_keeps hI h _ _
    · exact hI.modLink h _

theorem takeCharacter_keeps {s : State} (h : I s) (b : Byte) (framingError : Bool) :
    I (takeCharacter b framingError s) := by
  unfold takeCharacter
  split
  · split
    · exact hI.modLink h _
    · exact damage_keeps hI h _ _
  · exact takeByte_keeps hI h b

end

end Sys2Proof.Machine
end

section
/-! SUPPORT. How the books change: every booking that a command can make, and what every step keeps of a property of the
books that each booking keeps. -/

namespace Sys2Proof.Machine

open Sys2Proof

/-- The books after a failed restore and after a FACTORY RESET (R35, R191). -/
def Books.zero : Books :=
  { accounts := Accounts.zero, total := NanoAccount.zero, train := [] }

/-- The ways in which the books change (R22, R25 to R31, R117, R118, R153 to R158, R192). -/
inductive Booking : Books → Books → Prop
  | film (l : Fin 4) (micro : Nat) (b : Books) : Booking b
      { b with accounts := { b.accounts with filmIn := modAt b.accounts.filmIn l (·.add micro) } }
  | plated (c : Fin 4) (units : Nat) (b : Books) : Booking b
      { b with accounts := { b.accounts with plated := modAt b.accounts.plated c (·.add units) } }
  | charged (ng : Nat) (b : Books) : Booking b
      { b with total := b.total.add ng, accounts := { b.accounts with discharged := b.accounts.discharged.add ng } }
  | hauled (ng : Nat) (b : Books) : Booking b
      { b with accounts := { b.accounts with hauled := b.accounts.hauled.add ng } }
  | unplaced (mass : Nat) (b : Books) : Booking b
      { b with accounts := { b.accounts with cartridgeRemoved := addTo accountTop b.accounts.cartridgeRemoved mass } }
  | onTrain (mass percent : Nat) (b : Books) : Booking b
      { b with
        accounts := { b.accounts with cartridgeLoaded := addTo accountTop b.accounts.cartridgeLoaded mass }
        train := placed percent mass b.train }
  | judged (percent : Nat) (b : Books) : Booking b { b with train := b.train.map (·.judged percent) }
  | installed (c : Cartridge) (b : Books) (room : ¬(3 ≤ b.train.length ∨ b.train.any (·.serial = c.serial) = true)) :
      Booking b { b with train := b.train ++ [c] }
  | withdrawn (lead : Cartridge) (rest : List Cartridge) (b : Books) (htrain : b.train = lead :: rest) : Booking b
      { b with
        train := rest
        accounts := { b.accounts with
          cartridgeLoaded := b.accounts.cartridgeLoaded - lead.loaded
          cartridgeRemoved := addTo accountTop b.accounts.cartridgeRemoved lead.loaded } }
  | dayClosed (b : Books) : Booking b { b with total := NanoAccount.zero }
  | reset (b : Books) : Booking b { b with accounts := Accounts.zero, train := [] }

/-- A property of the books that holds of empty books and that every booking keeps. -/
structure BookRule (R : Books → Prop) : Prop where
  zero : R Books.zero
  booked : ∀ b b', Booking b b' → R b → R b'

/-- The property of the books holds in the working copy and in the images. -/
def OnBooks (R : Books → Prop) : State → Prop :=
  Throughout fun k => R k.books

section
variable {R : Books → Prop} {s t : State}

theorem OnBooks.carried (h : OnBooks R s) (hc : Carries s t) : OnBooks R t := hc.throughout h

theorem OnBooks.of_ledger (h : OnBooks R s) (ht : t.ledger = s.ledger) : OnBooks R t := h.carried (.of_ledger ht)

theorem OnBooks.replaced (h : OnBooks R s) (hstore : t.store = s.store) (hbooks : R t.kept.books) : OnBooks R t := by
  obtain ⟨-, himage, hflight⟩ := h
  exact ⟨hbooks, by rw [hstore]; exact himage, by rw [hstore]; exact hflight⟩

variable (hR : BookRule R)
include hR

/-- A booking on the working copy leaves the images as they are. -/
theorem OnBooks.booked (h : OnBooks R s) (hstore : t.store = s.store) (hb : Booking s.kept.books t.kept.books) :
    OnBooks R t :=
  h.replaced hstore (hR.booked _ _ hb h.1)

/-! ### Pulses -/

theorem footagePulse_onBooks (h : OnBooks R s) (l : Fin 4) (scale : Nat) : OnBooks R (footagePulse l scale s) := by
  unfold footagePulse
  split
  · exact h.booked hR rfl (.film l _ s.kept.books)
  · exact h

theorem celliPulse_onBooks (h : OnBooks R s) (c : Fin 4) (q : Nat) : OnBooks R (celliPulse c q s) :=
  h.booked hR rfl (.plated c _ s.kept.books)

theorem chargeSilver_onBooks (h : OnBooks R s) (ng : Nat) : OnBooks R (chargeSilver ng s) :=
  h.booked hR rfl (.charged ng s.kept.books)

theorem meterLot_onBooks (h : OnBooks R s) (t : Fin 3) (q : Nat) : OnBooks R (meterLot t q s) := by
  have hdrawn (f : Path → Path) (g : Lot → Lot) : OnBooks R ((s.modPath f).modLot t g) := h.of_ledger rfl
  unfold meterLot
  split
  · exact h
  · dsimp only
    exact ((chargeSilver_onBooks hR (hdrawn _ _) _).of_ledger (modLot_ledger _ _ _)).of_ledger (addDayVolume_ledger _ _)

theorem meterRecord_onBooks (h : OnBooks R s) (n q : Nat) : OnBooks R (meterRecord n q s) := by
  have hrecorded (x : State) (hx : OnBooks R x) (ng : Nat) : OnBooks R (addDayVolume q (chargeSilver ng x)) :=
    (chargeSilver_onBooks hR hx ng).of_ledger (addDayVolume_ledger _ _)
  have hhistory (f : Path → Path) (g : List LotRecord → List LotRecord) :
      OnBooks R ((s.modPath f).modKept fun k => { k with history := g k.history }) := h.of_ledger rfl
  have hkept (f g : Path → Path) : OnBooks R ((s.modPath f).modPath g) := h.of_ledger rfl
  unfold meterRecord
  dsimp only
  split
  · exact hrecorded _ (hhistory _ (modRecord n _)) _
  · exact hrecorded _ (hkept _ _) _

theorem dischargePulse_onBooks (h : OnBooks R s) (q : Nat) : OnBooks R (dischargePulse q s) := by
  unfold dischargePulse
  split
  · exact h
  next t _ =>
    have hmetered := meterLot_onBooks hR h t q
    dsimp only
    split
    · exact hmetered.carried (stopDrain_carries _ _ _ fun t s => handBackReturned_ledger s t)
    · exact hmetered

theorem overrunPulse_onBooks (h : OnBooks R s) (q : Nat) : OnBooks R (overrunPulse q s) := by
  have hcounted (f : Path → Path) : OnBooks R (s.modPath f) := h.of_ledger (modPath_ledger s f)
  unfold overrunPulse
  dsimp only
  split
  · split
    · exact hcounted _
    · split
      · exact meterLot_onBooks hR (hcounted _) _ q
      · exact meterRecord_onBooks hR (hcounted _) _ q
  · exact (hcounted _).of_ledger (modPath_ledger _ _)
  · exact hcounted _

theorem strayPulse_onBooks (h : OnBooks R s) (q : Nat) : OnBooks R (strayPulse q s) := by
  have hcounted : OnBooks R (addDayVolume q (s.modPath fun p => { p with stray := wrap32 (p.stray + q) })) :=
    h.of_ledger rfl
  unfold strayPulse
  dsimp only
  split
  · exact hcounted.of_ledger (latch_ledger _ _)
  · exact (chargeSilver_onBooks hR hcounted _).of_ledger (latch_ledger _ _)

theorem ownerPulse_onBooks (h : OnBooks R s) (r : Role) (q : Nat) : OnBooks R (ownerPulse r q s) := by
  cases r with
  | noRole => exact h
  | footage l => exact footagePulse_onBooks hR h l q
  | wash l => exact h.of_ledger (washPulse_ledger s l q)
  | celli c => exact celliPulse_onBooks hR h c q
  | transfer => exact h.of_ledger (transferPulse_ledger s q)
  | outlet =>
    simp only [ownerPulse, outletPulse]
    split
    · exact dischargePulse_onBooks hR h q
    · exact h.carried (polishPulse_carries s q)
    · exact overrunPulse_onBooks hR h q
    · exact strayPulse_onBooks hR h q

theorem edge_onBooks (h : OnBooks R s) (c : Fin 16) (rising : Bool) : OnBooks R (edge c rising s) := by
  have hpulsed (ch : Channel) (r : Role) (q : Nat) : OnBooks R (ownerPulse r q (s.modChannel c fun _ => ch)) :=
    ownerPulse_onBooks hR (h.of_ledger (modChannel_ledger s c _)) r q
  unfold edge selectedEdge
  split
  · exact h
  · split
    · exact h.of_ledger (modChannel_ledger s c _)
    · unfold acceptPulse
      dsimp only
      split
      · exact (hpulsed _ _ _).of_ledger (ownerRate_ledger _ _ _ _)
      · exact hpulsed _ _ _

/-! ### The train -/

theorem bookRemoval_onBooks (h : OnBooks R s) (mass : Nat) : OnBooks R (bookRemoval mass s) := by
  have hplaced : OnBooks R ((s.modAccounts fun a =>
      { a with cartridgeLoaded := addTo accountTop a.cartridgeLoaded mass }).modKept fun k =>
        { k with train := placed s.kept.plant.exhaustPercent mass s.kept.train }) :=
    h.booked hR rfl (.onTrain mass s.kept.plant.exhaustPercent s.kept.books)
  unfold bookRemoval trainJudged
  split
  · exact h
  · split
    · exact h.booked hR rfl (.unplaced mass s.kept.books)
    · exact hplaced.of_ledger (latchIf_ledger _ _ _)

theorem judgeTrain_onBooks (h : OnBooks R s) (percent : Nat) : OnBooks R (judgeTrain percent s) := by
  have hjudged : OnBooks R (s.modKept fun k => { k with train := s.kept.train.map (·.judged percent) }) :=
    h.booked hR rfl (.judged percent s.kept.books)
  exact hjudged.of_ledger (latchIf_ledger _ _ _)

theorem windowEnds_onBooks (h : OnBooks R s) : OnBooks R (windowEnds s) := by
  have hends (x : State) : (attemptEnds x).ledger = x.ledger := by simp [attemptEnds]
  unfold windowEnds attemptSucceeds
  split
  · split
    · exact h.of_ledger (hends s)
    · split
      · exact h.of_ledger (hends s)
      · exact (((bookRemoval_onBooks hR h _).of_ledger (modLot_ledger _ _ _)).carried (routeLot_carries _ _)).of_ledger
          (hends _)
  · exact h.of_ledger (attemptFails_ledger s)

/-! ### The day -/

theorem rollover_onBooks (h : OnBooks R s) (number : Nat) : OnBooks R (rollover number s) := by
  have hended := h.carried (interruptDischarge_carries s .rollover)
  have hclosed (record : DayRecord) : OnBooks R (closeDay record (interruptDischarge .rollover s)) :=
    hended.booked hR rfl (.dayClosed _)
  have hactivated := (hclosed (interruptDischarge .rollover s).dayRecord).carried
    (activate_carries _ occasion occasion_carries)
  let activated := activate occasion (closeDay (interruptDischarge .rollover s).dayRecord (interruptDischarge .rollover s))
  let numbered := activated.modDay fun d => { d with number := number }
  have hnumbered : OnBooks R numbered := hactivated.of_ledger rfl
  have hwritten := hnumbered.carried (orderWrite_carries numbered .checkpoint)
  have hflagged := hwritten.of_ledger ((setStandingFlags_ledger _).trans (clearCapReached_ledger _))
  exact (hflagged.of_ledger (handNotice_ledger _ _ _)).carried (occasion_carries _)

theorem clockAdvance_onBooks (h : OnBooks R s) : OnBooks R (clockAdvance s) := by
  let advanced : State := { s with clock := s.clock.advance }
  have hadvanced : OnBooks R advanced := h.of_ledger rfl
  have hchosen : OnBooks R advanced.choose.2 := h.of_ledger rfl
  have htest (x : State) (hx : OnBooks R x) : OnBooks R (rolloverTest x) := by
    unfold rolloverTest
    split
    · exact rollover_onBooks hR hx _
    · exact hx
  have hwindow (x : State) (hx : OnBooks R x) : OnBooks R (judgeWindow occasion x) :=
    hx.carried (judgeWindow_carries x occasion occasion_carries)
  unfold clockAdvance
  dsimp only
  split
  · exact htest _ hadvanced
  · split
    · exact htest _ (hwindow _ hchosen)
    · exact hwindow _ (htest _ hchosen)

/-! ### Requests that book -/

theorem serveSetClock_onBooks (h : OnBooks R s) (dayCount second : Nat) :
    OnBooks R (serveSetClock dayCount second s).2 := by
  have hset : OnBooks R (startClock dayCount second s) := h.of_ledger rfl
  have hafter (x : State) (hx : OnBooks R x) : OnBooks R (clockWasSet x) :=
    (hx.carried (judgeWindow_carries x occasion occasion_carries)).carried (occasion_carries _)
  unfold serveSetClock
  split
  · dsimp only
    split
    · exact hafter _ (hset.of_ledger rfl)
    · split
      · exact h
      · split
        · exact hafter _ hset
        · exact hafter _ (rollover_onBooks hR hset _)
  · exact h

theorem serveSetPlant_onBooks (h : OnBooks R s) (f : PlantSettings) : OnBooks R (serveSetPlant f s).2 := by
  let written := s.modKept fun k => { k with plant := f }
  have hjudged : OnBooks R (judgeTrain f.exhaustPercent written) := judgeTrain_onBooks hR (s := written) (h.of_ledger rfl) _
  unfold serveSetPlant
  split
  · dsimp only [ok, okWith]
    split
    · exact hjudged
    · exact hjudged.carried (judgeSupply_carries _)
  · exact h

theorem serveDeclareHauled_onBooks (h : OnBooks R s) (n : Nat) : OnBooks R (serveDeclareHauled n s).2 :=
  onLot_cases s (OnBooks R) h fun t l => by
    let booked := s.modAccounts fun a => { a with hauled := a.hauled.add l.content }
    have hbooked : OnBooks R booked := h.booked hR rfl (.hauled _ s.kept.books)
    have hleft := hbooked.of_ledger (leaveTable_ledger booked t .hauled (l.content / 1000000) l.concentration.isNone)
    split
    · exact h
    · dsimp only [okWith, haul]
      split
      · exact hleft
      · exact hleft.of_ledger ((fillSelection_ledger _).trans (modTank_ledger _ _ _))

theorem serveInstallCartridge_onBooks (h : OnBooks R s) (serial capacity : Nat) :
    OnBooks R (serveInstallCartridge serial capacity s).2 := by
  unfold serveInstallCartridge
  split
  · split
    · exact h
    next room =>
      let fresh : Cartridge :=
        { serial := serial, capacity := capacity, loaded := 0, installed := s.stamp, exhausted := false }
      let judged := fresh.judged s.kept.plant.exhaustPercent
      let joined := s.modKept fun k => { k with train := k.train ++ [fresh] }
      have hjoined : OnBooks R (joined.modKept fun k => { k with train := s.kept.train ++ [judged] }) :=
        h.booked hR rfl (.installed judged s.kept.books room)
      have hjudged : OnBooks R (trainJudged (s.kept.train ++ [judged]) joined) :=
        hjoined.of_ledger (latchIf_ledger _ _ _)
      exact hjudged.carried (occasion_carries _)
  · exact h

theorem serveRemoveCartridge_onBooks (h : OnBooks R s) (serial : Nat) : OnBooks R (serveRemoveCartridge serial s).2 := by
  unfold serveRemoveCartridge
  split
  · split
    · exact h
    next lead rest htrain =>
      split
      · exact h
      · exact h.booked hR rfl (.withdrawn lead rest s.kept.books htrain)
  · exact h

theorem serveFactoryReset_onBooks (h : OnBooks R s) : OnBooks R (serveFactoryReset s).2 := by
  have hdefault : OnBooks R (defaultCells (defaultLines (defaultInputs s))) := h.of_ledger (defaultCells_ledger s)
  have hreset (x : State) (hx : OnBooks R x) : OnBooks R (x.modKept defaultKept) :=
    hx.booked hR rfl (.reset x.kept.books)
  unfold serveFactoryReset resetToDefaults
  split
  · dsimp only [ok, okWith]
    exact (((hreset _ hdefault).of_ledger (judgeAlert_ledger _)).carried (judgeSupply_carries _)).carried
      (orderWrite_carries _ _)
  · exact h

/-- Serving a request keeps what every booking keeps. -/
theorem serveEntry_onBooks (r : Request) (h : OnBooks R s) : OnBooks R (serveEntry r s).2 := by
  cases r with
  | setLine f => exact h.carried (serveSetLine_carries s f)
  | setFilmType entry load => exact h.carried (serveSetFilmType_carries s entry load)
  | setCell f => exact h.carried (serveSetCell_carries s f)
  | setChannel f => exact h.carried (serveSetChannel_carries s f)
  | setAnalyzer f => exact h.carried (serveSetAnalyzer_carries s f)
  | setTank f => exact h.carried (serveSetTank_carries s f)
  | setPlant f => exact serveSetPlant_onBooks hR h f
  | setPermit f => exact h.carried (serveSetPermit_carries s f)
  | setClock dayCount second => exact serveSetClock_onBooks hR h dayCount second
  | setAlertMask enables => exact h.carried (serveSetAlertMask_carries s enables)
  | setNoticeMask enables => exact h.carried (serveSetNoticeMask_carries s enables)
  | startCell cell => exact h.carried (serveStartCell_carries s cell)
  | stopCell cell => exact h.carried (serveStopCell_carries s cell)
  | clearCellFault cell => exact h.carried (serveClearCellFault_carries s cell)
  | closeLot => exact h.carried (serveCloseLot_carries s)
  | holdLot n => exact h.carried (serveHoldLot_carries s n)
  | returnLot n => exact h.carried (serveReturnLot_carries s n)
  | polishLot n => exact h.carried (servePolishLot_carries s n)
  | declareHauled n => exact serveDeclareHauled_onBooks hR h n
  | returnTank tank => exact h.carried (serveReturnTank_carries s tank)
  | installCartridge serial capacity => exact serveInstallCartridge_onBooks hR h serial capacity
  | removeCartridge serial => exact serveRemoveCartridge_onBooks hR h serial
  | setDischargeEnable enable => exact h.carried (serveSetDischargeEnable_carries s enable)
  | clearAlert kind inst => exact h.carried (serveClearAlert_carries s kind inst)
  | factoryReset => exact serveFactoryReset_onBooks hR h
  | readLine line => simp only [serveEntry, serveReadLine]; split <;> exact h
  | readCell cell => simp only [serveEntry, serveReadCell]; split <;> exact h
  | _ => exact h

/-! ### Reset and start-up -/

/-- A reset leaves the image and empties the working copy. -/
theorem lost_onBooks (h : OnBooks R s) : OnBooks R (lost s) := by
  obtain ⟨-, himage, -⟩ := h
  exact ⟨hR.zero, himage, fun w hw => by cases hw⟩

theorem beginStartUp_onBooks (h : OnBooks R s) (sel1 sel0 : Bool) : OnBooks R (beginStartUp sel1 sel0 s) := by
  have hlost := lost_onBooks hR h
  unfold beginStartUp
  dsimp only
  split
  · exact hlost
  · exact hlost.replaced rfl hlost.1

theorem supplyAt_onBooks (h : OnBooks R s) (level : Nat) : OnBooks R (supplyAt level s) := by
  let taken : State := { s with supply := { s.supply with level := level } }
  have htaken : OnBooks R taken := h.of_ledger rfl
  unfold supplyAt
  dsimp only
  split
  · exact lost_onBooks hR htaken
  · split
    · exact htaken.carried (judgeSupply_carries taken)
    · exact htaken

omit hR in
/-- The placement of restored lots leaves the books. -/
theorem placeLots_books (k : Kept) : (placeLots k).books = k.books := by
  refine foldl_keeps _ Kept.books (fun k t => ?_) _ k
  unfold placeLot
  split
  · rfl
  · dsimp only; split <;> rfl

omit hR in
/-- What a restore reads is the content of the image. -/
theorem readBack_image {st : Store} {readable matched : Bool} {k : Kept} (h : st.readBack readable matched = some k) :
    ∃ i, st.image = some i ∧ i.content = k := by
  unfold Store.readBack at h
  split at h
  · obtain ⟨i, hi, hk⟩ := Option.map_eq_some_iff.mp h
    exact ⟨i, (Option.filter_eq_some_iff.mp hi).1, hk⟩
  · cases h

theorem endSelfTest_onBooks (h : OnBooks R s) (memoryGood storeReadable imageMatches : Bool) :
    OnBooks R (endSelfTest memoryGood storeReadable imageMatches s) := by
  obtain ⟨-, himage, hflight⟩ := h
  let image : Option Kept := s.store.readBack storeReadable imageMatches
  let begun := blocksAtStart ((image.map placeLots).getD Kept.fresh)
    { s with
      phase := .restoring
      supply := { s.supply with hold := false, recovery := none }
      store := { s.store with image := if image.isSome then s.store.image else none }
      startUp :=
        { selfTestPassed := memoryGood && storeReadable, restored := image.isSome, restoreStands := image.isNone,
          levels := none } }
  have hread : R ((image.map placeLots).getD Kept.fresh).books := by
    cases hi : image with
    | none => exact hR.zero
    | some k =>
      obtain ⟨i, hstored, rfl⟩ := readBack_image hi
      rw [Option.map_some, Option.getD_some, placeLots_books]
      exact himage i hstored
  have hbegun : OnBooks R begun := by
    refine ⟨hread, fun i hi => ?_, hflight⟩
    have hi' : (if image.isSome then s.store.image else none) = some i := hi
    split at hi'
    · exact himage i hi'
    · cases hi'
  have hjudged := (hbegun.of_ledger (latchResults_ledger begun)).carried (firstJudgement_carries _)
  have hchecked := (hjudged.of_ledger (latchStanding_ledger _)).carried (checkRestored_carries _)
  exact (hchecked.of_ledger (latchCap_ledger _)).of_ledger
    (foldl_keeps _ State.ledger (fun s c => autostart_ledger s c) _ _)

/-! ### Every command -/

omit hR in
theorem whenAwake_onBooks (h : OnBooks R s) {f : State → State} (hf : ∀ x, OnBooks R x → OnBooks R (f x)) :
    OnBooks R (whenAwake s f) := by
  unfold whenAwake
  split
  · exact hf s h
  · exact h

omit hR in
theorem whenDue_onBooks (h : OnBooks R s) (t : Option Timer) {f : State → State}
    (hf : ∀ x, OnBooks R x → OnBooks R (f x)) : OnBooks R (whenDue t s f) := by
  unfold whenDue
  split
  · exact hf s h
  · exact h

theorem onBooks_linkKeeps : LinkKeeps (OnBooks R) where
  link _ _ _ h := h
  latched f s h := h.of_ledger (latch_ledger s f)
  served r _ h := serveEntry_onBooks hR r h

theorem hostRequest_onBooks (h : OnBooks R s) (dt : Micros) (kind tag : Byte) (r : Request) :
    OnBooks R (hostRequest dt kind tag r s) :=
  whenAwake_onBooks (s := s.after dt) (h.of_ledger rfl) fun _ hx => offerFrame_keeps (onBooks_linkKeeps hR) hx kind tag r

/-- What holds of the books, and every booking keeps, every command keeps in the working copy and in the images. -/
theorem exec_onBooks (h : OnBooks R s) (i : Instr) (ht : exec i s = .next t) : OnBooks R t := by
  have later (dt : Micros) : OnBooks R (s.after dt) := h.of_ledger rfl
  have request (dt : Micros) (kind tag : Byte) (r : Request) := hostRequest_onBooks hR h dt kind tag r
  have due (dt : Micros) (timer : Option Timer) {f : State → State} (hf : ∀ x, (f x).ledger = x.ledger) :
      OnBooks R (whenDue timer (s.after dt) f) :=
    whenDue_onBooks (later dt) timer fun x hx => hx.of_ledger (hf x)
  have dueCarried (dt : Micros) (timer : Option Timer) {f : State → State} (hf : ∀ x, Carries x (f x)) :
      OnBooks R (whenDue timer (s.after dt) f) :=
    whenDue_onBooks (later dt) timer fun x hx => hx.carried (hf x)
  have reset (x : State) (hx : x.ledger = s.ledger) : OnBooks R (lost x) := lost_onBooks hR (h.of_ledger hx)
  have started (x : State) (hx : x.ledger = s.ledger) (sel1 sel0 : Bool) : OnBooks R (beginStartUp sel1 sel0 x) :=
    beginStartUp_onBooks hR (h.of_ledger hx) sel1 sel0
  cases i with
  | pulseEdge dt c rising => cases ht; exact whenAwake_onBooks (later dt) fun x hx => edge_onBooks hR hx c rising
  | blockTimeLimit dt c =>
    cases ht
    split
    · exact (later dt).of_ledger (limitBlock_ledger _ c)
    · exact later dt
  | channelStale dt c => cases ht; exact due dt _ fun x => goStale_ledger x c
  | analyzerFallingEdge dt a => cases ht; exact whenAwake_onBooks (later dt) fun x hx => hx.of_ledger rfl
  | analyzerRisingEdge dt a =>
    cases ht; exact whenAwake_onBooks (later dt) fun x hx => hx.of_ledger (risingEdge_ledger x a)
  | analyzerSilence dt a => cases ht; exact due dt _ fun x => silent_ledger x a
  | analyzerHoldExpired dt a => cases ht; exact due dt _ fun x => holdRunsOut_ledger x a
  | switchPinChange dt w covered => cases ht; exact (later dt).of_ledger (modSwitch_ledger _ _ _)
  | debounceExpired dt w => cases ht; exact dueCarried dt _ fun x => debounced_carries x w
  | switchStartingLevels dt => cases ht; exact dueCarried dt _ startingLevels_carries
  | cellPrimingTimeout dt c => cases ht; exact due dt _ fun x => primingExpired_ledger x c
  | cellControlTick dt c => cases ht; exact due dt _ fun x => tickAndRestart_ledger x c
  | cellPwmPeriodStart dt c => cases ht; exact due dt _ fun x => modCell_ledger x c _
  | washCycleStart dt l => cases ht; exact due dt _ fun x => startCycle_ledger x l
  | washStopTimeout dt l => cases ht; exact due dt _ fun x => washIdle_ledger x l
  | maxFillTimeout dt t => cases ht; exact due dt _ fun x => maxFillExpired_ledger x t
  | sumpBackupDelay dt => cases ht; exact due dt _ backupArises_ledger
  | settleTimerExpired dt t => cases ht; exact due dt _ fun x => settleExpired_ledger x t
  | sampleFlushEnd dt => cases ht; exact due dt _ flushEnds_ledger
  | sampleWindowEnd dt => cases ht; exact whenDue_onBooks (later dt) _ fun x hx => windowEnds_onBooks hR hx
  | permitCheckTimer dt => cases ht; exact dueCarried dt _ checkExpired_carries
  | clockSecond dt =>
    cases ht
    split
    · exact clockAdvance_onBooks hR (later dt)
    · exact later dt
  | drainTimerExpired dt => cases ht; exact dueCarried dt _ drainTimedOut_carries
  | closingTimerExpired dt => cases ht; exact dueCarried dt _ closingExpired_carries
  | linkCharacter dt b framingError =>
    cases ht
    exact whenAwake_onBooks (later dt) fun x hx => takeCharacter_keeps (onBooks_linkKeeps hR) hx b framingError
  | linkGapTimeout dt =>
    cases ht; exact whenDue_onBooks (later dt) _ fun x hx => damage_keeps (onBooks_linkKeeps hR) hx _ _
  | outboundFrameSent dt =>
    cases ht; exact whenAwake_onBooks (later dt) fun x hx => frameSent_keeps (onBooks_linkKeeps hR) hx
  | supplyFall dt level => cases ht; exact supplyAt_onBooks hR (later dt) level
  | supplyRise dt level => cases ht; exact supplyAt_onBooks hR (later dt) level
  | supplyRecovery dt => cases ht; exact dueCarried dt _ recover_carries
  | supplyBelowReset dt level => cases ht; exact reset _ rfl
  | resetPin dt sel1 sel0 => cases ht; exact started { s.after dt with resetLow := false } rfl sel1 sel0
  | powerOn dt level sel1 sel0 =>
    cases ht; exact started { s.after dt with supply := { s.supply with level := level } } rfl sel1 sel0
  | selfTestEnd dt memoryGood storeReadable imageMatches =>
    cases ht
    split
    · exact endSelfTest_onBooks hR (later dt) _ _ _
    · exact later dt
  | imageWriteComplete dt =>
    cases ht; exact whenAwake_onBooks (later dt) fun x hx => hx.carried (completeWrite_carries x)
  | resetPinLow dt => cases ht; exact reset _ rfl
  | permitMemoryFault dt p digest =>
    cases ht; exact whenAwake_onBooks (later dt) fun x hx => hx.carried (permitAltered_carries x p digest)
  | restoreEnd dt =>
    cases ht
    split
    · exact settle_keeps (onBooks_linkKeeps hR) ((later dt).carried (endRestore_carries _)) _ _
    · exact later dt
  | _ => cases ht; exact request _ _ _ _

/-- So does every step. -/
theorem step_onBooks (h : OnBooks R s) (ht : step s = .next t) : OnBooks R t := by
  unfold step at ht
  split at ht
  · cases ht; exact h
  next c rest _ => exact exec_onBooks hR (s := { s with pending := rest }) (h.of_ledger rfl) c ht

end

end Sys2Proof.Machine
end

section
/-! PROOF of O6. The ranges of the residues: each booking leaves a residue that is a remainder of its unit (R22, R118). -/

namespace Sys2Proof.Machine

open Sys2Proof

/-- Every residue lies in its range (R22, R118). -/
def Books.residuesInRange (b : Books) : Prop :=
  (∀ l : Fin 4, b.accounts.filmIn[l].residue < 1000) ∧
  (∀ c : Fin 4, b.accounts.plated[c].micro < 1000 ∧ b.accounts.plated[c].residue < 100000000) ∧
  b.accounts.discharged.residue < 1000000 ∧ b.accounts.hauled.residue < 1000000 ∧ b.total.residue < 1000000

/-- A property of every entry holds after a change of one that gives it. -/
theorem modAt_forall {α : Type} {n : Nat} {p : α → Prop} {v : Vector α n} (h : ∀ j : Fin n, p v[j]) (i : Fin n)
    {f : α → α} (hf : p (f v[i])) (j : Fin n) : p (modAt v i f)[j] := by
  rw [modAt_get]
  split
  · exact hf
  · exact h j

theorem residuesInRange_zero : Books.zero.residuesInRange := by
  unfold Books.residuesInRange
  decide

theorem residuesInRange_bookRule : BookRule Books.residuesInRange where
  zero := residuesInRange_zero
  booked b b' hb := by
    rintro ⟨hfilm, hplated, hdischarged, hhauled, htotal⟩
    cases hb with
    | film l micro =>
      exact ⟨modAt_forall (p := fun a : FilmAccount => a.residue < 1000) hfilm l (FilmAccount.add_residue_lt _ _),
        hplated, hdischarged, hhauled, htotal⟩
    | plated c units =>
      have hentries := modAt_forall (p := fun a : PlatedAccount => a.micro < 1000 ∧ a.residue < 100000000) hplated c
        (f := (·.add units)) ⟨PlatedAccount.add_micro_lt _ units, PlatedAccount.add_residue_lt _ units⟩
      exact ⟨hfilm, hentries, hdischarged, hhauled, htotal⟩
    | charged ng =>
      exact ⟨hfilm, hplated, NanoAccount.add_residue_lt _ _, hhauled, NanoAccount.add_residue_lt _ _⟩
    | hauled ng => exact ⟨hfilm, hplated, hdischarged, NanoAccount.add_residue_lt _ _, htotal⟩
    | dayClosed => exact ⟨hfilm, hplated, hdischarged, hhauled, Nat.zero_lt_succ _⟩
    | reset =>
      obtain ⟨hfilm', hplated', hdischarged', hhauled', -⟩ := residuesInRange_zero
      exact ⟨hfilm', hplated', hdischarged', hhauled', htotal⟩
    | unplaced | onTrain | judged | installed | withdrawn => exact ⟨hfilm, hplated, hdischarged, hhauled, htotal⟩

end Sys2Proof.Machine

namespace Sys2Proof.Settled

open Sys2Proof Sys2Proof.Machine

/-- Settles O6: the ranges speak of the books alone, and every booking keeps them. -/
theorem residuesKept : Obligations.ResiduesKept :=
  fun _ _ h ht => step_onBooks residuesInRange_bookRule h ht

end Sys2Proof.Settled
end

section
/-! PROOF of O22. SET FILM TYPE and SET TANK (R24, R84). -/

namespace Sys2Proof.Machine

open Sys2Proof

theorem serveSetFilmType_eq (e : Fin 16) {load : Nat} (s : State) (h : load ≤ 10000) :
    serveSetFilmType (e.val + 1) load s =
      ok (s.modKept fun k => { k with films := modAt k.films e fun _ => load }) := by
  simp only [serveSetFilmType, numbered_succ, if_pos h]

/-- A tank's settings are written while it is free: EMPTY, or OUT_OF_SERVICE without a lot (R84). -/
theorem serveSetTank_eq {f : TankFields} {t : Fin 3} (s : State) (ht : f.tank = t.val + 1) (hf : f.inRange = true) :
    serveSetTank f s =
      if s.kept.tanks[t].state = .empty ∨ (s.kept.tanks[t].state = .outOfService ∧ s.kept.tanks[t].lot = none) then
        ok (s.modKept fun k => { k with tankSettings := modAt k.tankSettings t fun _ => f.settings })
      else wrongState s := by
  simp only [serveSetTank, ht, numbered_succ, if_pos hf, State.lotIn, Option.isNone_iff_eq_none]

end Sys2Proof.Machine

namespace Sys2Proof.Settled

open Sys2Proof Sys2Proof.Machine

/-- Settles O22: each entry writes its setting, or refuses by its range or the tank's state. -/
theorem filmAndTankSettings : Obligations.FilmAndTankSettings := by
  intro dt tag s ready
  refine ⟨fun e load hload => ?_, fun entry load bad => ?_, fun t f ht hf => ?_⟩
  · have hs := serveSetFilmType_eq e (serving dt (Request.kind (.setFilmType (e.val + 1) load)) s) hload
    exact congrArg _ (hostRequest_acts dt tag (.setFilmType (e.val + 1) load) s .empty
      (·.modKept fun k => { k with films := modAt k.films e fun _ => load }) ready rfl (passesHold s rfl) hs fun _ => rfl)
  · exact congrArg _ (hostRequest_refused dt tag (.setFilmType entry load) s _ ready rfl (passesHold s rfl)
      (serveSetFilmType_outOfRange _ (by omega)))
  · intro free
    have hs := serveSetTank_eq (serving dt (Request.kind (.setTank f)) s) ht hf
    refine ⟨fun h => ?_, fun h => ?_⟩
    · exact congrArg _ (hostRequest_acts dt tag (.setTank f) s .empty
        (·.modKept fun k => { k with tankSettings := modAt k.tankSettings t fun _ => f.settings }) ready rfl
        (passesHold s rfl) (hs.trans (if_pos h)) fun _ => rfl)
    · exact congrArg _ (hostRequest_refused dt tag (.setTank f) s _ ready rfl (passesHold s rfl)
        (hs.trans (if_neg h)))

end Sys2Proof.Settled
end

section
/-! SUPPORT. Requests whose entries hand notices: the reply they leave, and what the places reserved for it bear on. -/

namespace Sys2Proof.Machine

open Sys2Proof

/-! ### Links that differ by frames and notices -/

/-- Links with the same rest differ by their frames and notices alone. -/
theorem Link.eq_of_rest {k m : Link} (h : k.rest = m.rest) (outbound : List OutFrame) (notices : List Notice) :
    { k with outbound := outbound, notices := notices } = { m with outbound := outbound, notices := notices } :=
  congrArg (fun r : Link => { r with outbound := outbound, notices := notices }) h

section
variable {s t u : State}

theorem AlikeButFrames.kept (h : AlikeButFrames s t) : t.kept = s.kept := (congrArg State.kept h).symm

/-- What is alike to a state is alike to one that differs from it by frames and notices. -/
theorem AlikeButFrames.of_rest (h : AlikeButFrames s t) (hs : s = { u with link := s.link })
    (hrest : s.link.rest = u.link.rest) : AlikeButFrames u t := by
  unfold AlikeButFrames at h ⊢
  rw [hs] at h
  rw [← Link.eq_of_rest hrest]
  exact h

end

/-- The frames that wait do not bear on what a latching does but for its notice. -/
theorem latch_withLink (f : Flag) (s : State) (k : Link) :
    ∃ k', latch f { s with link := k } = { latch f s with link := k' } := by
  by_cases h : s.latched f = true
  · refine ⟨k, ?_⟩
    rw [latch_of_latched s f h]
    exact latch_of_latched _ f h
  · have hs : latch f s = _ := if_neg h
    have hk : latch f { s with link := k } = _ := if_neg h
    rw [hs, hk, handAlert, handAlert, handNotice_handed, handNotice_handed]
    exact ⟨_, rfl⟩

theorem latchIf_withLink (b : Bool) (f : Flag) (s : State) (k : Link) :
    ∃ k', latchIf b f { s with link := k } = { latchIf b f s with link := k' } := by
  unfold latchIf
  cases b with
  | true => exact latch_withLink f s k
  | false => exact ⟨k, rfl⟩

/-! ### The reply to a request of one place -/

/-- A request of one place whose entry answers OK and changes of the link its frames and notices at most: the state that
the entry gives, but for frames and notices, and the reply in the Outbound Queue. -/
theorem hostRequest_replied {dt : Micros} {tag : Byte} {r : Request} {s t : State} {body : ReplyBody}
    (h : LinkReady 1 s) (hp : placesOf r.kind = 1) (hh : (s.supply.hold && refusedInHold r) = false)
    (hs : serveEntry r (serving dt r.kind s) = okWith body t) (hrest : t.link.rest = (serving dt r.kind s).link.rest) :
    AlikeButFrames (t.modLink fun k => { k with reserved := 0 }) (hostRequest dt r.kind tag r s) ∧
      HasReply r tag .ok body (hostRequest dt r.kind tag r s) := by
  have hserve : serve (clearFrame r.kind tag r) (serving dt r.kind s) = okWith body t := by
    rw [serve_clearFrame _ _ r (serving dt r.kind s) hh, hs]
  have hin : t.link.inbound = [] := (congrArg Link.inbound hrest).trans h.inbound
  have hw : (clearFrame r.kind tag r).wants = 1 := by rw [clearFrame_wants, hp]
  rw [hostRequest_ready dt r.kind tag r s (by rw [hp]; exact h), hserve]
  simp only [okWith, replyFrames_one _ _ (Or.inl hw)]
  rw [settle_done _ _ _ (by rw [appendReply_inbound]; exact hin) (Or.inr (by simp [freedAfter, hw]))]
  exact ⟨(appendReply_alike _ _ _).1, (appendReply_alike _ _ _).2 _ (List.mem_singleton.mpr rfl)⟩

/-- The link of the state on which a request is served, with its places free again. -/
theorem serving_rest {dt : Micros} {kind : Byte} {s t : State} {n : Nat} (h : LinkReady n s)
    (ht : t.link.rest = (serving dt kind s).link.rest) :
    Link.rest { t.link with reserved := 0 } = s.link.rest := by
  have hreserved : { (serving dt kind s).link with reserved := 0 } = s.link := by
    rw [← h.reserved]; rfl
  calc Link.rest { t.link with reserved := 0 } = { t.link.rest with reserved := 0 } := rfl
    _ = { (serving dt kind s).link.rest with reserved := 0 } := by rw [ht]
    _ = Link.rest { (serving dt kind s).link with reserved := 0 } := rfl
    _ = s.link.rest := by rw [hreserved]

end Sys2Proof.Machine
end

section
/-! PROOF of O50. INSTALL CARTRIDGE and REMOVE CARTRIDGE (R154, R157, R158). -/

namespace Sys2Proof.Machine

open Sys2Proof

/-- A cartridge as it is installed: ACTIVE unless its threshold is 0 (R154, R157). -/
def Cartridge.fresh (serial capacity percent : Nat) (installed : Stamp) : Cartridge :=
  { serial := serial, capacity := capacity, loaded := 0, installed := installed
    exhausted := Decidable.decide (capacity * percent / 100 = 0) }

/-- The state with a cartridge installed at the lag; one that is EXHAUSTED at once latches its flag. -/
def withInstalled (serial capacity : Nat) (s : State) : State :=
  let c := Cartridge.fresh serial capacity s.kept.plant.exhaustPercent s.stamp
  latchIf c.exhausted .cartridgeExhausted { s with kept := { s.kept with train := s.kept.train ++ [c] } }

/-- No cartridge of a train became EXHAUSTED but the one that was judged at its lag. -/
theorem exhaustedMore_lag (train : List Cartridge) (c d : Cartridge) (hc : c.exhausted = false) :
    exhaustedMore (train ++ [c]) (train ++ [d]) = d.exhausted := by
  induction train with
  | nil => simp [exhaustedMore, hc]
  | cons k rest ih =>
    have hk : (!k.exhausted && k.exhausted) = false := by cases k.exhausted <;> rfl
    simpa [exhaustedMore, hk] using ih

theorem serveInstallCartridge_eq {serial capacity : Nat} (s : State) (hs : within 1 65535 serial = true)
    (hc : within 1 10000000 capacity = true) :
    serveInstallCartridge serial capacity s =
      if 3 ≤ s.kept.train.length ∨ s.kept.train.any (·.serial = serial) then wrongState s
      else
        let threshold := capacity * s.kept.plant.exhaustPercent / 100
        okWith (.cartridgeInstalled (s.kept.train.length + 1) (Decidable.decide (threshold = 0)) threshold)
          (occasion (withInstalled serial capacity s)) := by
  let bare : Cartridge :=
    { serial := serial, capacity := capacity, loaded := 0, installed := s.stamp, exhausted := false }
  have hfresh : bare.judged s.kept.plant.exhaustPercent =
      Cartridge.fresh serial capacity s.kept.plant.exhaustPercent s.stamp := by
    simp only [Cartridge.judged, Cartridge.fresh, bare, Cartridge.threshold, Bool.false_or, Nat.le_zero]
  have hjudged : trainJudged (s.kept.train ++ [bare.judged s.kept.plant.exhaustPercent])
      (s.modKept fun k => { k with train := k.train ++ [bare] }) = withInstalled serial capacity s := by
    rw [hfresh]
    exact congrArg (fun b => latchIf b _ _) (exhaustedMore_lag s.kept.train bare _ rfl)
  simp only [serveInstallCartridge, hs, hc, Bool.and_self, if_true]
  have hexhausted : (bare.judged s.kept.plant.exhaustPercent).exhausted =
      Decidable.decide (capacity * s.kept.plant.exhaustPercent / 100 = 0) := congrArg Cartridge.exhausted hfresh
  rw [← hjudged, ← hexhausted]
  rfl

/-- Outside IDLE an occasion of the arbiter leaves no trace (R128). -/
theorem occasion_busy {s : State} (h : s.path.state ≠ .idle) : occasion s = s := by
  refine if_neg ?_
  simp [h]

theorem latchIf_path (b : Bool) (f : Flag) (s : State) : (latchIf b f s).path = s.path := by
  unfold latchIf
  split
  · exact latch_path _ _
  · rfl

theorem withInstalled_path (serial capacity : Nat) (s : State) : (withInstalled serial capacity s).path = s.path :=
  latchIf_path _ _ _

theorem withInstalled_ledger (serial capacity : Nat) (s : State) :
    (withInstalled serial capacity s).ledger = { s.ledger with books := { s.kept.books with
      train := s.kept.train ++ [Cartridge.fresh serial capacity s.kept.plant.exhaustPercent s.stamp] } } :=
  latchIf_ledger _ _ _

theorem any_serial_iff (train : List Cartridge) (serial : Nat) :
    train.any (·.serial = serial) = true ↔ ∃ c ∈ train, c.serial = serial := by
  simp

end Sys2Proof.Machine

namespace Sys2Proof.Settled

open Sys2Proof Sys2Proof.Machine

/-- Settles O50: the refusals of both requests, the cartridge that joins at the lag, and the lead that leaves. -/
theorem cartridgesChanged : Obligations.CartridgesChanged := by
  intro dt tag s serial ready hlow hhigh x present
  have hserial : within 1 65535 serial = true := by simp [within, hlow, hhigh]
  refine ⟨fun capacity hcap hcap' => ?_, fun bad => ?_, fun lead rest htrain hlead hpolish => ?_⟩
  · intro r threshold train
    let y := serving dt r.kind s
    have hs := serveInstallCartridge_eq y hserial (show within 1 10000000 capacity = true by simp [within, hcap, hcap'])
    refine ⟨fun bad => ?_, fun room absent => ?_⟩
    · have hbad : 3 ≤ s.kept.train.length ∨ s.kept.train.any (·.serial = serial) = true :=
        bad.imp_right (any_serial_iff _ _).mpr
      exact congrArg _ (hostRequest_refused dt tag r s _ ready rfl (passesHold s rfl) (hs.trans (if_pos hbad)))
    · have hgood : ¬(3 ≤ s.kept.train.length ∨ s.kept.train.any (·.serial = serial) = true) :=
        not_or.mpr ⟨Nat.not_le.mpr room, fun h => absent ((any_serial_iff _ _).mp h)⟩
      have hledger := withInstalled_ledger serial capacity y
      have hcarries := occasion_carries (withInstalled serial capacity y)
      have hbooks := hcarries.books.trans (congrArg Ledger.books hledger)
      obtain ⟨halike, hreply⟩ := hostRequest_replied (r := r) (tag := tag) ready rfl (passesHold s rfl)
        (hs.trans (if_neg hgood)) (hcarries.link.trans (congrArg Ledger.link hledger))
      refine ⟨_, rfl, hreply, ?_, ?_, fun hidle => ?_⟩
      · exact (congrArg Kept.train halike.kept).trans (congrArg Books.train hbooks)
      · exact (congrArg Kept.accounts halike.kept).trans (congrArg Books.accounts hbooks)
      · rw [occasion_busy (by rw [withInstalled_path]; exact hidle)] at halike
        obtain ⟨k, hk⟩ := latchIf_withLink (Decidable.decide (threshold = 0)) .cartridgeExhausted
          { x with kept := { s.kept with train := train } } y.link
        have hinstalled : withInstalled serial capacity y = { withInstalled serial capacity x with link := k } := hk
        refine halike.of_rest (u := withInstalled serial capacity x) (by rw [hinstalled]; rfl) ?_
        exact (serving_rest ready (congrArg Ledger.link hledger)).trans
          (congrArg Ledger.link (withInstalled_ledger serial capacity x)).symm
  · refine congrArg _ (hostRequest_refused dt tag (.removeCartridge serial) s .wrongState ready rfl (passesHold s rfl) ?_)
    have htrain : (serving dt (Request.kind (.removeCartridge serial)) s).kept.train = s.kept.train := rfl
    have hpath : (serving dt (Request.kind (.removeCartridge serial)) s).path = s.path := rfl
    simp only [serveEntry, serveRemoveCartridge, hserial, if_true, htrain, hpath]
    split
    · rfl
    next lead rest hlead =>
      refine if_pos ?_
      rcases bad with h | h | ⟨_, _, h, hne⟩
      · rw [h] at hlead; cases hlead
      · exact .inl h
      · rw [h] at hlead; cases hlead; exact .inr hne
  · have hs : serveEntry (.removeCartridge serial) (serving dt (Request.kind (.removeCartridge serial)) s) =
        okWith (.cartridgeRemoved lead rest.length)
          (removeLead lead rest (serving dt (Request.kind (.removeCartridge serial)) s)) := by
      have htrain' : (serving dt (Request.kind (.removeCartridge serial)) s).kept.train = lead :: rest := htrain
      have hgood : ¬((serving dt (Request.kind (.removeCartridge serial)) s).path.state = .polish ∨ lead.serial ≠ serial) :=
        not_or.mpr ⟨hpolish, not_not.mpr hlead⟩
      simp only [serveEntry, serveRemoveCartridge, hserial, if_true, htrain', if_neg hgood]
    exact congrArg _ (hostRequest_acts dt tag (.removeCartridge serial) s _ (removeLead lead rest) ready rfl
      (passesHold s rfl) hs fun _ => rfl)

end Sys2Proof.Settled
end

section
/-! PROOF of O37. Pulses that are counted into an open block: what each owner books (R25, R26, R73, R77), and the lot that
reaches its tank's capacity (R81). -/

namespace Sys2Proof.Machine

open Sys2Proof

/-! ### A pulse counted in an open block (R3, R4) -/

/-- A pulse of a MOVING channel that closes no block is counted and reaches its owner, with no rate update. -/
theorem pulse_midBlock {dt : Micros} {s : State} {c : Fin 16} (h : MidBlock c (s.after dt)) :
    exec (.pulseEdge dt c (!s.kept.channels[c].falling)) s =
      .next (ownerPulse s.kept.channels[c].role s.kept.channels[c].scale (counted c (s.after dt))) := by
  obtain ⟨hawake, hmoving, hspaced, b, hblock, hsize⟩ := h
  let x := s.after dt
  let ch := x.channels[c].pulsed x.kept.channels[c] x.now x.channels[c].rate x.channels[c].pulseRate
    { b with count := b.count + 1, last := x.now }
  have hselected : (!s.kept.channels[c].falling) ≠ x.kept.channels[c].falling := Bool.not_ne_self _
  have haccepted := acceptPulse_unless_moving (s := x)
    (x.channels[c].accepted_continues x.kept.channels[c] x.now b hblock hsize)
  rw [hmoving] at haccepted
  have hcounted : x.modChannel c (fun _ => ch) = counted c x := by
    have hch : ch = { x.channels[c] with
        count := (x.channels[c].count + 1) % 2 ^ 32
        lastEdge := some x.now
        stale := some { start := x.now, len := x.kept.channels[c].stale * sec }
        block := x.channels[c].block.map fun b => { b with count := b.count + 1, last := x.now } } := by
      rw [hblock]
      simp only [ch, Channel.pulsed, ← hmoving]
      rfl
    rw [hch]
    rfl
  have hexec : exec (.pulseEdge dt c (!s.kept.channels[c].falling)) s =
      .next (edge c (!s.kept.channels[c].falling) x) := congrArg _ (whenAwake_of (s := x) hawake _)
  rw [hexec, edge_accepted (s := x) hselected hspaced, haccepted, ← hcounted]
  rfl

/-! ### Film silver (R25) -/

theorem lineLoad_entry {s : State} {l : Fin 4} {e : Fin 16} (h : s.kept.lines[l].filmType = e.val + 1) :
    s.lineLoad l = s.kept.films[e] := by
  simp only [State.lineLoad, h, numbered_succ]

/-- An enabled line with a film type books its pulse. -/
theorem footagePulse_books {l : Fin 4} {e : Fin 16} {scale : Nat} {s : State} (hon : s.kept.lines[l].enabled = true)
    (htype : s.kept.lines[l].filmType = e.val + 1) :
    footagePulse l scale s =
      s.modAccounts fun a => { a with filmIn := modAt a.filmIn l (·.add (scale * s.kept.films[e])) } := by
  rw [footagePulse, if_pos ⟨hon, by rw [htype]; exact Nat.succ_ne_zero _⟩, lineLoad_entry htype]

/-- A disabled line, or film type 0, books nothing. -/
theorem footagePulse_none {l : Fin 4} {scale : Nat} {s : State}
    (h : s.kept.lines[l].enabled = false ∨ s.kept.lines[l].filmType = 0) : footagePulse l scale s = s := by
  refine if_neg fun hbooks => ?_
  rcases h with h | h
  · exact Bool.false_ne_true (h.symm.trans hbooks.1)
  · exact hbooks.2 h

/-! ### Transfer pulses (R77) and the lot that is full (R81) -/

theorem State.modLot_congr {s : State} {t : Fin 3} {l : Lot} {f g : Lot → Lot} (hl : s.lotIn t = some l)
    (h : f l = g l) : s.modLot t f = s.modLot t g := by
  have hlot : s.kept.tanks[t].lot = some l := hl
  simp only [State.modLot, State.modTank, State.modKept, modAt, hlot, Option.map_some, h]

theorem transferPulse_stray {q : Nat} {s : State} (h : s.sump.pump = false ∨ s.fillingTank = none) :
    transferPulse q s = { s with sump := { s.sump with strayTransfer := wrap32 (s.sump.strayTransfer + q) } } := by
  unfold transferPulse
  rcases h with h | h <;> rw [h]
  cases s.sump.pump <;> rfl

theorem transferPulse_fills {q : Nat} {s : State} {t : Fin 3} (hp : s.sump.pump = true) (ht : s.fillingTank = some t) :
    transferPulse q s = fillPulse t q s := by
  simp only [transferPulse, hp, ht]

/-- The lot that enters its settle time is in SETTLING, or goes on to Sample Wait and the Sampler. -/
theorem enterSettling_lotIn {s : State} {t : Fin 3} {l : Lot} (hl : s.lotIn t = some l) :
    ∃ state : LotState, state ≠ .filling ∧
      (enterSettling t s).lotIn t = some { l with state := state, holdReason := none } := by
  have hlot : (s.modLot t fun l => { l with state := .settling, holdReason := none }).lotIn t = _ :=
    (modLot_lotIn s t _).trans (congrArg _ hl)
  simp only [enterSettling, hl]
  split
  · rw [enterSampleWait_eq hlot]
    have hwaits : (((s.modLot t fun l => { l with state := .settling, holdReason := none }).modLot t fun l =>
        { l with state := .sampleWait, holdReason := none }).modKept fun k =>
          { k with sampleWait := k.sampleWait ++ [l.number] }).lotIn t =
        some { l with state := .sampleWait, holdReason := none } :=
      (modLot_lotIn _ t _).trans (congrArg _ hlot)
    rcases samplerTest_lotIn hwaits with h | h
    · exact ⟨.sampleWait, nofun, h⟩
    · exact ⟨.sampling, nofun, h⟩
  · exact ⟨.settling, nofun, hlot⟩

/-- A close takes the FILLING lot out of FILLING and records its time; its tank is CLOSED. -/
theorem closeLot_closes {s : State} {t : Fin 3} {l : Lot} (hl : s.lotIn t = some l) (byHigh : Bool) :
    (closeLot t byHigh s).kept.tanks[t].state = .closed ∧ ∃ state : LotState, state ≠ .filling ∧
      (closeLot t byHigh s).lotIn t =
        some { l.closedAt s.stamp byHigh with state := state, holdReason := none } := by
  have hclosed : (closed t byHigh s).lotIn t = some (l.closedAt s.stamp byHigh) :=
    (closed_lotIn t byHigh s).trans (congrArg _ hl)
  obtain ⟨state, hstate, hsettles⟩ := enterSettling_lotIn hclosed
  have htold : Spares t (enterSettling t (closed t byHigh s)) (closeSteps t byHigh s) :=
    TankSteps.spares (P := fun _ => False) ((TankSteps.refl.step (.event .closed t _)).step (.pump _)) id
  have htank := closeSteps_state t byHigh s
  have hopen : (closeSteps t byHigh s).kept.tanks[t].state ≠ .empty := by rw [htank]; nofun
  have hrest : Spares t (closeSteps t byHigh s) (closeLot t byHigh s) :=
    ((fillSelection_steps (unopened_other hopen)).step (.pump _)).spares fun h => h rfl
  obtain ⟨l', hl', heq⟩ := (htold.trans hrest).lotIn hsettles
  refine ⟨hrest.state.trans htank, ?_⟩
  rcases heq with rfl | rfl
  · exact ⟨state, hstate, hl'⟩
  · exact ⟨.sampling, nofun, hl'⟩

/-- A lot with a transfer pulse counted in. -/
def Lot.filledBy (l : Lot) (q : Nat) : Lot :=
  { l with filled := addTo volumeTop l.filled q, current := addTo volumeTop l.current q }

/-- A pulse into a lot closes it where it reaches the capacity. -/
theorem fillPulse_eq {q : Nat} {s : State} {t : Fin 3} {l : Lot} (hl : s.lotIn t = some l) :
    fillPulse t q s =
      if l.settings.capacity ≤ (l.filledBy q).current then closeLot t false (s.modLot t (·.filledBy q))
      else s.modLot t (·.filledBy q) := by
  have hfilled : (s.modLot t (·.filledBy q)).lotIn t = some (l.filledBy q) :=
    (modLot_lotIn s t _).trans (congrArg _ hl)
  have heq : fillPulse t q s =
      if ((s.modLot t (·.filledBy q)).lotIn t).any fun l => l.settings.capacity ≤ l.current then
        closeLot t false (s.modLot t (·.filledBy q))
      else s.modLot t (·.filledBy q) := rfl
  rw [heq, hfilled]
  simp only [Option.any_some, decide_eq_true_eq]
  rfl

end Sys2Proof.Machine

namespace Sys2Proof.Settled

open Sys2Proof Sys2Proof.Machine

/-- Settles O37: the pulse is counted and reaches its owner, and each owner books it. -/
theorem pulsesBooked : Obligations.PulsesBooked := by
  refine ⟨fun dt s c h => ?_, fun dt s c h hrole => ?_⟩
  · intro k x top
    refine ⟨fun l hrole => ⟨fun e hon htype => ?_, fun hoff => ?_⟩, fun d hrole => ?_, fun l hrole => ?_⟩
    all_goals
      have hpulse := pulse_midBlock h
      rw [hrole] at hpulse
    · exact hpulse.trans (congrArg _ (footagePulse_books (s := x) hon htype))
    · exact hpulse.trans (congrArg _ (footagePulse_none (s := x) hoff))
    · exact hpulse
    · exact hpulse
  · intro k x
    have hpulse := pulse_midBlock h
    rw [hrole] at hpulse
    refine ⟨fun hstray => ?_, fun t l hpump hfilling hl => ?_⟩
    · exact hpulse.trans (congrArg _ (transferPulse_stray (s := x) hstray))
    · intro current
      have hfills : exec (.pulseEdge dt c (!k.falling)) s = .next (fillPulse t k.scale x) :=
        hpulse.trans (congrArg _ (transferPulse_fills (s := x) hpump hfilling))
      have hl' : x.lotIn t = some l := hl
      rw [hfills, fillPulse_eq hl']
      refine ⟨fun (hroom : (l.filledBy k.scale).current < l.settings.capacity) => ?_,
        fun (hfull : l.settings.capacity ≤ (l.filledBy k.scale).current) => ?_⟩
      · rw [if_neg (Nat.not_le.mpr hroom)]
        exact congrArg _ (State.modLot_congr hl' rfl)
      · rw [if_pos hfull]
        obtain ⟨htank, state, hstate, hlot⟩ := closeLot_closes
          ((modLot_lotIn x t (·.filledBy k.scale)).trans (congrArg _ hl')) false
        exact ⟨_, _, rfl, hlot, htank, rfl, rfl, rfl, hstate⟩

end Sys2Proof.Settled
end

section
/-! PROOFS of O38 and O39. Outlet pulses: what is metered and charged, the drains that a pulse ends, overrun of a lot or
of its record, and stray flow (R27, R28, R134, R135, R141, R143, R145). -/

namespace Sys2Proof.Machine

open Sys2Proof

/-! ### Metering a lot (R134) -/

/-- A lot with a pulse of `q` mL drawn and charged. -/
def Lot.metered (l : Lot) (q ng : Nat) : Lot :=
  { l with
    dischargedVolume := min (l.dischargedVolume + q) (2 ^ 32 - 1)
    current := l.current - q
    excess := min (l.excess + (q - l.current)) (2 ^ 32 - 1)
    dischargedMass := l.dischargedMass.add ng }

theorem Lot.metered_number (l : Lot) (q ng : Nat) : (l.metered q ng).number = l.number := rfl

/-- The state with a pulse drawn on the lot in tank `t`, and charged to the day and to DISCHARGED. -/
def metered (t : Fin 3) (q ng : Nat) (s : State) : State :=
  addDayVolume q (chargeSilver ng ((s.modPath fun p => { p with metered := p.metered + q }).modLot t (·.metered q ng)))

theorem meterLot_eq {s : State} {t : Fin 3} {l : Lot} (hl : s.lotIn t = some l) (q : Nat) :
    meterLot t q s = metered t q (q * l.concentration.getD 0) s := by
  have hmeter : meterLot t q s = addDayVolume q (chargeSilver (q * l.concentration.getD 0)
      (((s.modPath fun p => { p with metered := p.metered + q }).modLot t (·.drawn q)).modLot t fun l' =>
        { l' with dischargedMass := l'.dischargedMass.add (q * l.concentration.getD 0) })) := by
    simp only [meterLot, hl]
    rfl
  rw [hmeter, modLot_twice]
  rfl

theorem metered_lotIn {s : State} {t : Fin 3} {l : Lot} (hl : s.lotIn t = some l) (q ng : Nat) :
    (metered t q ng s).lotIn t = some (l.metered q ng) := by
  have hlot : s.kept.tanks[t].lot = some l := hl
  have htanks : (metered t q ng s).kept.tanks =
      modAt s.kept.tanks t fun k => { k with lot := k.lot.map (·.metered q ng) } := by
    simp [metered, addDayVolume, chargeSilver, State.modLot]
  rw [State.lotIn, htanks, modAt_same, hlot, Option.map_some]

section
variable (t : Fin 3) (q ng : Nat) (s : State)

theorem metered_path : (metered t q ng s).path = { s.path with metered := s.path.metered + q } := rfl

theorem metered_plant : (metered t q ng s).kept.plant = s.kept.plant := by
  simp [metered, addDayVolume, chargeSilver, State.modLot]

theorem metered_timer (len : Micros) : (metered t q ng s).timer len = s.timer len := by
  simp [State.timer, metered, addDayVolume, chargeSilver, State.modLot]

theorem metered_dischargeQueue : (metered t q ng s).kept.dischargeQueue = s.kept.dischargeQueue := by
  simp [metered, addDayVolume, chargeSilver, State.modLot]

theorem metered_total : (metered t q ng s).kept.day.total = s.kept.day.total.add ng := rfl

theorem metered_discharged :
    (metered t q ng s).kept.accounts.discharged = s.kept.accounts.discharged.add ng := rfl

end

/-! ### Stops (R140) -/

/-- The path at a stop, before its lot is handed back. -/
def Path.stopped (p : Path) (cause : StopCause) : Path :=
  { p with state := .stopping, drain := none, stopCause := some cause, overrun := 0 }

/-- A write that is ordered changes the store alone. -/
theorem orderWrite_eq_store (kind : WriteKind) (s : State) :
    orderWrite kind s = { s with store := (orderWrite kind s).store } := by
  unfold orderWrite
  split
  · rfl
  · split <;> rfl

section
variable (cause : StopCause) (how : Fin 3 → State → State) (s : State)

/-- A stop is what the handing back leaves, with a write ordered or not, and the closing timer. -/
theorem stopDrain_eq : ∃ store,
    stopDrain cause how s =
      { handBack how (s.modPath (·.stopped cause)) with
        store := store
        path := { (handBack how (s.modPath (·.stopped cause))).path with
          closing := some (s.timer (s.kept.plant.closing * sec)) } } := by
  unfold stopDrain
  dsimp only
  split
  · rw [orderWrite_eq_store]
    exact ⟨_, rfl⟩
  · exact ⟨_, rfl⟩

theorem stopDrain_kept : (stopDrain cause how s).kept = (handBack how (s.modPath (·.stopped cause))).kept := by
  obtain ⟨_, h⟩ := stopDrain_eq cause how s
  rw [h]

theorem stopDrain_path : (stopDrain cause how s).path =
    { (handBack how (s.modPath (·.stopped cause))).path with
      closing := some (s.timer (s.kept.plant.closing * sec)) } := by
  obtain ⟨_, h⟩ := stopDrain_eq cause how s
  rw [h]

end

theorem handBack_of {s : State} {t : Fin 3} (h : s.path.tank = some t) (how : Fin 3 → State → State) :
    handBack how s = how t s := by
  simp only [handBack, h]

/-- A returned lot is QUEUED at the head of the Discharge Queue, and its tank CLOSED (R93). -/
theorem handBackReturned_eq {s : State} {t : Fin 3} {l : Lot} (hl : s.lotIn t = some l) :
    ∃ link, handBackReturned t s =
      { (s.modTank t fun k =>
          { state := .closed, lot := k.lot.map fun l => { l with state := .queued, holdReason := none } }).modKept
            fun k => { k with dischargeQueue := l.number :: k.dischargeQueue } with link := link } := by
  have hclosed : (s.modTank t fun k => { k with state := .closed }).lotIn t = some l := by
    rw [State.lotIn, modTank_same]; exact hl
  have hhead : enterQueueHead t (s.modTank t fun k => { k with state := .closed }) =
      ((s.modTank t fun k => { k with state := .closed }).modLot t fun l =>
        { l with state := .queued, holdReason := none }).modKept
          fun k => { k with dischargeQueue := l.number :: k.dischargeQueue } := by
    simp only [enterQueueHead, hclosed]
  have hboth : ((s.modTank t fun k => { k with state := .closed }).modLot t fun l =>
        { l with state := .queued, holdReason := none }) =
      s.modTank t fun k =>
        { state := .closed, lot := k.lot.map fun l => { l with state := .queued, holdReason := none } } := by
    simp only [State.modLot, State.modTank, State.modKept, modAt_modAt]
    rfl
  rw [hboth] at hhead
  rw [handBackReturned, lotEvent_link, hhead]
  exact ⟨_, rfl⟩

/-- A lot whose pass is completed leaves POLISHING, with the pass counted; its tank is CLOSED (R93). -/
theorem handBackPassed_lotIn {s : State} {t : Fin 3} {l : Lot} (hl : s.lotIn t = some l) :
    (handBackPassed t s).kept.tanks[t].state = .closed ∧ (handBackPassed t s).path = s.path ∧
      ∃ l', (handBackPassed t s).lotIn t = some l' ∧ l'.passes = min (l.passes + 1) 5 ∧ l'.hostPass = false := by
  let counted := (s.modTank t fun k => { k with state := .closed }).modLot t fun l =>
    { l with passes := addTo 5 l.passes 1, hostPass := false }
  have hclosed : (s.modTank t fun k => { k with state := .closed }).lotIn t = some l := by
    rw [State.lotIn, modTank_same]; exact hl
  have hcounted : counted.lotIn t = some { l with passes := addTo 5 l.passes 1, hostPass := false } :=
    (modLot_lotIn _ t _).trans (congrArg _ hclosed)
  have hstate : counted.kept.tanks[t].state = .closed := by
    simp only [counted, State.modLot, modTank_same]
  have hkeeps : KeepsLot Lot.closing t counted (enterSettling t counted) := enterSettling_keeps (.of_eq rfl rfl)
  obtain ⟨_, -, hsettles⟩ := enterSettling_lotIn hcounted
  exact ⟨hkeeps.state.trans hstate, (enterSettling_steps (P := fun _ => True) counted trivial).path, _, hsettles, rfl, rfl⟩

section
variable {s : State} {t : Fin 3} {l : Lot} (ht : s.path.tank = some t) (hl : s.lotIn t = some l) (cause : StopCause)
include ht hl

/-- What a stop leaves that returns its lot to the Discharge Queue. -/
theorem stopDrain_returned :
    (stopDrain cause handBackReturned s).path =
        { s.path.stopped cause with closing := some (s.timer (s.kept.plant.closing * sec)) } ∧
      (stopDrain cause handBackReturned s).kept.tanks[t].state = .closed ∧
      (stopDrain cause handBackReturned s).kept.dischargeQueue = l.number :: s.kept.dischargeQueue ∧
      (stopDrain cause handBackReturned s).kept.day = s.kept.day ∧
      (stopDrain cause handBackReturned s).kept.accounts = s.kept.accounts := by
  have htank : (s.modPath (·.stopped cause)).path.tank = some t := ht
  obtain ⟨_, hback⟩ := handBackReturned_eq (s := s.modPath (·.stopped cause)) hl
  rw [stopDrain_path, stopDrain_kept, handBack_of htank, hback]
  refine ⟨rfl, ?_, rfl, rfl, rfl⟩
  exact congrArg Tank.state (modAt_same s.kept.tanks t fun k =>
    { state := .closed, lot := k.lot.map fun l => { l with state := .queued, holdReason := none } })

/-- What a stop leaves that completes the pass of its lot. -/
theorem stopDrain_passed :
    (stopDrain cause handBackPassed s).path =
        { s.path.stopped cause with closing := some (s.timer (s.kept.plant.closing * sec)) } ∧
      (stopDrain cause handBackPassed s).kept.tanks[t].state = .closed ∧
      ∃ l', (stopDrain cause handBackPassed s).lotIn t = some l' ∧
        l'.passes = min (l.passes + 1) 5 ∧ l'.hostPass = false := by
  have htank : (s.modPath (·.stopped cause)).path.tank = some t := ht
  obtain ⟨hclosed, hpath, hpassed⟩ := handBackPassed_lotIn (s := s.modPath (·.stopped cause)) hl
  rw [stopDrain_path, State.lotIn, stopDrain_kept, handBack_of htank, hpath]
  exact ⟨rfl, hclosed, hpassed⟩

end

/-! ### Pulses in DISCHARGE and POLISH (R134, R135, R145) -/

section
variable {s : State} {t : Fin 3} {l : Lot} (ht : s.path.tank = some t) (hl : s.lotIn t = some l) (q : Nat)
include ht hl

theorem dischargePulse_eq :
    dischargePulse q s =
      if Path.grantMet { s.path with metered := s.path.metered + q } then
        stopDrain .grantMet handBackReturned (metered t q (q * l.concentration.getD 0) s)
      else metered t q (q * l.concentration.getD 0) s := by
  simp only [dischargePulse, ht, meterLot_eq hl]
  rfl

end

theorem grantMet_volume {p : Path} {g : Nat} (h : p.grant = some (.volume g)) : p.grantMet = true ↔ g ≤ p.metered := by
  simp [Path.grantMet, h]

theorem grantMet_unbounded {p : Path} (h : p.grant = some .unbounded) : p.grantMet = false := by
  simp [Path.grantMet, h]

section
variable {s : State} {t : Fin 3} {l : Lot} (ht : s.path.tank = some t) (hl : s.lotIn t = some l) (q : Nat)
include ht hl

/-- A pulse that leaves the grant unmet is metered and charged. -/
theorem dischargePulse_below
    (hgrant : s.path.grant = some .unbounded ∨ ∃ g, s.path.grant = some (.volume g) ∧ s.path.metered + q < g) :
    dischargePulse q s = metered t q (q * l.concentration.getD 0) s := by
  let p : Path := { s.path with metered := s.path.metered + q }
  have hopen : ¬ p.grantMet = true := fun hmet => by
    rcases hgrant with hunbounded | ⟨g, hg, hbelow⟩
    · exact Bool.false_ne_true ((grantMet_unbounded (p := p) hunbounded).symm.trans hmet)
    · exact Nat.not_le.mpr hbelow ((grantMet_volume (p := p) hg).mp hmet)
  rw [dischargePulse_eq ht hl, if_neg hopen]

/-- The pulse that meets the grant is charged like any other, and returns the lot. -/
theorem dischargePulse_meets {g : Nat} (hg : s.path.grant = some (.volume g)) (hmet : g ≤ s.path.metered + q) :
    (dischargePulse q s).path =
        { ({ s.path with metered := s.path.metered + q } : Path).stopped .grantMet with
          closing := some (s.timer (s.kept.plant.closing * sec)) } ∧
      (dischargePulse q s).kept.tanks[t].state = .closed ∧
      (dischargePulse q s).kept.dischargeQueue = l.number :: s.kept.dischargeQueue ∧
      (dischargePulse q s).kept.day.total = s.kept.day.total.add (q * l.concentration.getD 0) ∧
      (dischargePulse q s).kept.accounts.discharged =
        s.kept.accounts.discharged.add (q * l.concentration.getD 0) := by
  let p : Path := { s.path with metered := s.path.metered + q }
  have htank : (metered t q (q * l.concentration.getD 0) s).path.tank = some t := ht
  obtain ⟨hpath, hclosed, hqueue, hday, haccounts⟩ := stopDrain_returned htank (metered_lotIn hl q _) .grantMet
  rw [Lot.metered_number, metered_dischargeQueue] at hqueue
  rw [metered_path, metered_timer, metered_plant] at hpath
  rw [dischargePulse_eq ht hl, if_pos ((grantMet_volume (p := p) hg).mpr hmet), hday, haccounts]
  exact ⟨hpath, hclosed, hqueue, metered_total t q _ s, metered_discharged t q _ s⟩

end

section
variable {s : State} {target : Nat} (htarget : s.path.passTarget = some target) (q : Nat)
include htarget

theorem polishPulse_eq :
    polishPulse q s =
      if target ≤ s.path.polishVolume + q then
        stopDrain .passComplete handBackPassed (s.modPath fun p => { p with polishVolume := p.polishVolume + q })
      else s.modPath fun p => { p with polishVolume := p.polishVolume + q } := by
  unfold polishPulse
  simp [htarget]

/-- The pulse that meets the target of the pass completes it; the books stand. -/
theorem polishPulse_meets {t : Fin 3} {l : Lot} (ht : s.path.tank = some t) (hl : s.lotIn t = some l)
    (hmet : target ≤ s.path.polishVolume + q) :
    (polishPulse q s).path.state = .stopping ∧ (polishPulse q s).path.stopCause = some .passComplete ∧
      (polishPulse q s).kept.tanks[t].state = .closed ∧ (polishPulse q s).kept.accounts = s.kept.accounts ∧
      ∃ l', (polishPulse q s).lotIn t = some l' ∧ l'.passes = min (l.passes + 1) 5 ∧ l'.hostPass = false := by
  obtain ⟨hpath, hclosed, hlot⟩ :=
    stopDrain_passed (s := s.modPath fun p => { p with polishVolume := p.polishVolume + q }) ht hl .passComplete
  have hbooks := (polishPulse_carries s q).books
  rw [polishPulse_eq htarget, if_pos hmet] at hbooks ⊢
  rw [hpath]
  exact ⟨rfl, rfl, hclosed, accounts_of_books hbooks, hlot⟩

end

end Sys2Proof.Machine

namespace Sys2Proof.Settled

open Sys2Proof Sys2Proof.Machine

/-- Settles O38: a pulse in each use of the path, and the stop by which it ends the grant or the pass. -/
theorem outletPulses : Obligations.OutletPulses := by
  intro dt s c t l h hrole htank hl q i ng metered' passed
  let x := counted c (s.after dt)
  have hpulse : exec i s = .next (outletPulse q x) := by
    have := pulse_midBlock h
    rwa [hrole] at this
  have hl' : x.lotIn t = some l := hl
  refine ⟨fun hstate => ?_, fun hstate target htarget => ?_⟩
  · have hdischarge : exec i s = .next (dischargePulse q x) := by
      rw [hpulse, outletPulse, show x.path.state = .discharge from hstate]
    rw [hdischarge]
    refine ⟨fun hroom => ?_, fun g hg hmet => ?_⟩
    · rw [dischargePulse_below (s := x) htank hl' q hroom]
      rfl
    · obtain ⟨hpath, hclosed, hqueue, htotal, hdischarged⟩ := dischargePulse_meets (s := x) htank hl' q hg hmet
      refine ⟨_, rfl, ?_⟩
      rw [hpath]
      exact ⟨rfl, rfl, rfl, htotal, hdischarged, hqueue, hclosed, rfl⟩
  · have hpolish : exec i s = .next (polishPulse q x) := by
      rw [hpulse, outletPulse, show x.path.state = .polish from hstate]
    rw [hpolish]
    refine ⟨fun hbelow => ?_, fun hmet => ?_⟩
    · have hroom : ¬ target ≤ x.path.polishVolume + q := Nat.not_le.mpr hbelow
      rw [polishPulse_eq (s := x) htarget, if_neg hroom]
      rfl
    · obtain ⟨hstops, hcause, hclosed, haccounts, l', hl'', hpasses, hhost⟩ :=
        polishPulse_meets (s := x) htarget q htank hl' hmet
      exact ⟨_, l', rfl, hstops, hcause, hl'', hpasses, hhost, hclosed, haccounts⟩

end Sys2Proof.Settled
end

section
/-! PROOF of O39. Outlet flow while no drain runs: overrun of the lot just stopped or of its record, overrun of a polish
pass, and stray flow (R28, R141, R143). -/

namespace Sys2Proof.Machine

open Sys2Proof

/-! ### The record of a lot (R141) -/

theorem modRecord_length (n : Nat) (f : LotRecord → LotRecord) (rs : List LotRecord) :
    (modRecord n f rs).length = rs.length := by
  induction rs with
  | nil => rfl
  | cons r rest ih =>
    unfold modRecord
    split
    · rfl
    · exact congrArg Nat.succ ih

/-- The newest record of a number is the one that `modRecord` changes. -/
theorem modRecord_find {n : Nat} {f : LotRecord → LotRecord} (hf : ∀ r, (f r).number = r.number) (rs : List LotRecord) :
    (modRecord n f rs).reverse.find? (·.number = n) = (rs.reverse.find? (·.number = n)).map f := by
  induction rs with
  | nil => rfl
  | cons r rest ih =>
    unfold modRecord
    split
    next hlast =>
      obtain ⟨hnumber, hlater⟩ : r.number = n ∧ ∀ r' ∈ rest, r'.number ≠ n := by simpa using hlast
      have hnone : rest.reverse.find? (·.number = n) = none := by simpa using hlater
      simp [hnone, hnumber, hf]
    next hlast =>
      rw [List.reverse_cons, List.find?_append, ih, List.reverse_cons, List.find?_append]
      by_cases hnumber : r.number = n
      · have hlater : ∃ r' ∈ rest, r'.number = n := by simpa [hnumber] using hlast
        obtain ⟨r', hfind⟩ : ∃ r', rest.reverse.find? (·.number = n) = some r' :=
          Option.isSome_iff_exists.mp (by simpa using hlater)
        rw [hfind]
        rfl
      · have hnot : [r].find? (·.number = n) = none := by simpa using hnumber
        simp [hnot]

section
variable {s : State} {n : Nat} {r : LotRecord} (q : Nat)

theorem meterRecord_history (h : s.recordOf n = some r) :
    meterRecord n q s = addDayVolume q (chargeSilver (q * r.concentration.getD 0)
      ((s.modPath fun p => { p with metered := p.metered + q }).modKept fun k =>
        { k with history := modRecord n (·.overran q (q * r.concentration.getD 0)) k.history })) := by
  have hended := State.endedRecord_history s n r h
  simp only [meterRecord, h, hended, Option.isSome_some, if_true, Option.bind_some]

theorem meterRecord_dropped (h : s.recordOf r.number = none) (hdropped : s.path.dropped = some r) :
    meterRecord r.number q s = addDayVolume q (chargeSilver (q * r.concentration.getD 0)
      (s.modPath fun p =>
        { p with metered := p.metered + q, dropped := some (r.overran q (q * r.concentration.getD 0)) })) := by
  have hended : s.endedRecord r.number = some r := by simp [State.endedRecord, h, hdropped]
  simp [meterRecord, h, hended, State.modPath, hdropped]

end

/-! ### Overrun (R141, R143) -/

section
variable {s : State} (q : Nat) {n : Nat} (huse : s.path.use = some .discharge) (hn : s.path.lot = some n)
include huse hn

theorem overrunPulse_lot {t : Fin 3} (ht : s.tankOfLot n = some t) :
    overrunPulse q s = meterLot t q (s.modPath fun p => { p with overrun := p.overrun + q }) := by
  simp only [overrunPulse, huse, hn, ht]

theorem overrunPulse_record (ht : s.tankOfLot n = none) :
    overrunPulse q s = meterRecord n q (s.modPath fun p => { p with overrun := p.overrun + q }) := by
  simp only [overrunPulse, huse, hn, ht]

end

end Sys2Proof.Machine

namespace Sys2Proof.Settled

open Sys2Proof Sys2Proof.Machine

/-- Settles O39: the pulse in STOPPING by the use of the path and the place of the lot, and the pulse in IDLE. -/
theorem overrunAndStray : Obligations.OverrunAndStray := by
  intro dt s c h hrole q i x
  have hpulse : exec i s = .next (outletPulse q x) := by
    have := pulse_midBlock h
    rwa [hrole] at this
  have hstopping (hstate : s.path.state = .stopping) : exec i s = .next (overrunPulse q x) := by
    rw [hpulse, outletPulse, show x.path.state = .stopping from hstate]
  let flowing := x.modPath fun p => { p with overrun := p.overrun + q }
  refine ⟨fun n t l hstate huse hn ht hl => ?_, fun n r hstate huse hn ht => ?_, fun hstate huse => ?_, fun hstate => ?_⟩
  · rw [hstopping hstate, overrunPulse_lot (s := x) q huse hn ht, meterLot_eq (s := flowing) hl]
    rfl
  · intro ng r' path day accounts
    rw [hstopping hstate, overrunPulse_record (s := x) q huse hn ht]
    refine ⟨fun hr => ?_, fun hr hdropped hnumber => ?_⟩
    · rw [meterRecord_history (s := flowing) q hr]
      refine ⟨_, rfl, rfl, rfl, rfl, rfl, ?_, modRecord_length _ _ _⟩
      exact (modRecord_find (f := (·.overran q ng)) (fun _ => rfl) _).trans (congrArg _ hr)
    · subst hnumber
      rw [meterRecord_dropped (s := flowing) q hr hdropped]
      rfl
  · have hpolish : overrunPulse q x = flowing.modPath fun p => { p with polishVolume := p.polishVolume + q } := by
      simp only [overrunPulse, show x.path.use = some .polish from huse]
      rfl
    rw [hstopping hstate, hpolish]
    rfl
  · intro stray
    have hstray : exec i s = .next (strayPulse q x) := by
      rw [hpulse, outletPulse, show x.path.state = .idle from hstate]
    rw [hstray]
    refine ⟨fun hnone => ?_, fun p hp => ?_⟩
    · have : x.usablePermit = none := hnone
      simp only [strayPulse, this]
      rfl
    · have : x.usablePermit = some p := hp
      simp only [strayPulse, this]
      rfl

end Sys2Proof.Settled
end

section
/-! PROOF of O47. DECLARE HAULED and RETURN TANK: the lot that leaves, the tank that returns, and the fill selection after
it (R31, R80, R86, R98, R99). -/

namespace Sys2Proof.Machine

open Sys2Proof

/-! ### What the fill selection leaves of the records (R80) -/

/-- Lot History and the day figures. -/
def State.chronicle (s : State) : List LotRecord × Day :=
  (s.kept.history, s.kept.day)

section
variable (s : State)

theorem enterSettling_chronicle (t : Fin 3) : (enterSettling t s).chronicle = s.chronicle := by
  have hwait (u : State) : (enterSampleWait t u).chronicle = u.chronicle := by
    unfold enterSampleWait; split <;> rfl
  have htest (u : State) : (samplerTest u).chronicle = u.chronicle := by
    rcases samplerTest_cases u with h | ⟨_, _, _, _, _, h⟩ <;> rw [h]
    rfl
  unfold enterSettling
  split
  · rfl
  · dsimp only
    split
    · exact (htest _).trans (hwait _)
    · rfl

theorem pumpJudge_chronicle : (pumpJudge s).chronicle = s.chronicle := by
  simp only [State.chronicle, pumpJudge_kept]

theorem openLot_chronicle (t : Fin 3) : (openLot t s).chronicle = s.chronicle :=
  pumpJudge_chronicle _

theorem closeSteps_chronicle (t : Fin 3) (byHigh : Bool) : (closeSteps t byHigh s).chronicle = s.chronicle := by
  have hevent (u : State) : (lotEvent .closed t u).chronicle = u.chronicle := by rw [lotEvent_link]; rfl
  exact ((pumpJudge_chronicle _).trans (hevent _)).trans (enterSettling_chronicle (closed t byHigh s) t)

theorem fillTurns_chronicle (k : Nat) : (fillTurns k s).chronicle = s.chronicle := by
  induction k generalizing s with
  | zero => rfl
  | succ k ih =>
    unfold fillTurns
    split
    · rfl
    · split
      · rfl
      · dsimp only
        split
        · rw [pumpJudge_chronicle, ih, closeSteps_chronicle, openLot_chronicle]
        · exact openLot_chronicle s _

theorem fillSelection_chronicle : (fillSelection s).chronicle = s.chronicle :=
  fillTurns_chronicle s 3

end

theorem fillSelection_filling {s : State} (h : s.fillingTank.isSome = true) : fillSelection s = s :=
  fillTurns_filling h 3

/-! ### The number of the next lot (R86) -/

theorem passOver_congr {s x : State} (h : ∀ n, x.tankOfLot n = s.tankOfLot n) (k n : Nat) :
    passOver x k n = passOver s k n := by
  induction k generalizing n with
  | zero => rfl
  | succ k ih => simp only [passOver, h, ih]

/-- The next lot's number does not depend on the states of the tanks. -/
theorem freshNumber_modTank (s : State) (t : Fin 3) (state : TankState) :
    (s.modTank t fun k => { k with state := state }).freshNumber = s.freshNumber := by
  have hlot (u : Fin 3) : (s.modTank t fun k => { k with state := state }).lotIn u = s.lotIn u := by
    by_cases h : t = u
    · subst h; rw [State.lotIn, modTank_same]; rfl
    · rw [State.lotIn, modTank_other _ _ h]; rfl
  exact passOver_congr (fun n => by simp only [State.tankOfLot, hlot]) 3 _

/-! ### A notice, and the reply behind it -/

/-- A notice is handed behind the frames that wait. -/
theorem handNotice_prefix (key : Fin 33) (content : NoticeContent) (s : State) :
    s.link.outbound <+: (handNotice key content s).link.outbound := by
  rw [handNotice_handed]
  change s.link.outbound <+: (s.link.handed s.kept.noticeMask[key] key content).outbound
  unfold Link.handed
  split
  · dsimp only
    split
    · split
      · exact List.prefix_rfl
      · exact List.prefix_append _ _
    · exact List.prefix_rfl
  · exact List.prefix_rfl

/-- `hostRequest_replied`, where the entry leaves the frames that wait in front of what it queues. -/
theorem hostRequest_answers {dt : Micros} {tag : Byte} {r : Request} {s t : State} {body : ReplyBody}
    (h : LinkReady 1 s) (hp : placesOf r.kind = 1) (hh : (s.supply.hold && refusedInHold r) = false)
    (hs : serveEntry r (serving dt r.kind s) = okWith body t) (hrest : t.link.rest = (serving dt r.kind s).link.rest)
    (hout : s.link.outbound <+: t.link.outbound) :
    AlikeButFrames (t.modLink fun k => { k with reserved := 0 }) (hostRequest dt r.kind tag r s) ∧
      s.link.outbound <+: (hostRequest dt r.kind tag r s).link.outbound ∧
      HasReply r tag .ok body (hostRequest dt r.kind tag r s) := by
  have hserve : serve (clearFrame r.kind tag r) (serving dt r.kind s) = okWith body t := by
    rw [serve_clearFrame _ _ r (serving dt r.kind s) hh, hs]
  have hin : t.link.inbound = [] := (congrArg Link.inbound hrest).trans h.inbound
  have halike := hostRequest_alike dt r.kind tag r s h hp (by rw [hserve]; exact hin) (by rw [hserve]; exact hout)
  rwa [hserve] at halike

/-! ### A lot that is hauled (R31, R98, R99) -/

/-- The state with lot `l` of tank `t` hauled and gone, its tank in `state`. -/
def withHauled (t : Fin 3) (l : Lot) (state : TankState) (s : State) : State :=
  { s with
    kept := { s.kept with
      accounts := { s.kept.accounts with hauled := s.kept.accounts.hauled.add l.content }
      history := appendBounded 16 s.kept.history
        (l.record t .hauled s.stamp (l.content / 1000000) l.concentration.isNone)
      day := { s.kept.day with lots := addTo 65535 s.kept.day.lots 1 }
      tanks := s.kept.tanks.set t.val { state := state, lot := none } }
    path := s.path.keep (s.kept.history.take (s.kept.history.length + 1 - 16)) }

/-- The tank that a haul leaves. -/
def State.emptied (s : State) (t : Fin 3) : TankState :=
  if s.kept.tanks[t].state = .outOfService then .outOfService else .empty

/-- The state of the tank is free in `withHauled`. -/
theorem withHauled_modTank (t : Fin 3) (l : Lot) (a b : TankState) (s : State) (link : Link) :
    ({ withHauled t l a s with link := link } : State).modTank t (fun k => { k with state := b }) =
      { withHauled t l b s with link := link } := by
  simp [State.modTank, State.modKept, withHauled, modAt]

/-- A haul books and removes the lot, hands its notice, and leaves a tank in service to the fill selection. -/
theorem haul_eq {s : State} {t : Fin 3} {l : Lot} (hl : s.lotIn t = some l) :
    ∃ link : Link, link.rest = s.link.rest ∧ s.link.outbound <+: link.outbound ∧
      haul t l s =
        if s.tankOut t then { withHauled t l (s.emptied t) s with link := link }
        else fillSelection { withHauled t l (s.emptied t) s with link := link } := by
  have hlot : (s.modAccounts fun a => { a with hauled := a.hauled.add l.content }).lotIn t = some l := hl
  let content : NoticeContent := .lot .left l.number l.state l.current l.concentration none (some .hauled)
  let k := withHauled t l s.kept.tanks[t].state s
  have hleft : leaveTable t .hauled (l.content / 1000000) l.concentration.isNone
      (s.modAccounts fun a => { a with hauled := a.hauled.add l.content }) = handNotice (tankKey t) content k := by
    simp only [leaveTable, hlot, handLotEvent, Option.isSome_some, if_true]
    simp only [k, withHauled, State.modKept, State.modDay, State.modPath, State.modAccounts, modAt]
    rfl
  have hrest : (handNotice (tankKey t) content k).link.rest = k.link.rest :=
    rest_of_ledger (handNotice_ledger k (tankKey t) content)
  refine ⟨(handNotice (tankKey t) content k).link, hrest, handNotice_prefix _ content k, ?_⟩
  simp only [haul, hleft]
  rw [handNotice_eq]
  by_cases hstate : s.kept.tanks[t].state = .outOfService
  · have hout : s.tankOut t = true := decide_eq_true hstate
    rw [if_pos hout, if_pos hout, State.emptied, if_pos hstate, ← hstate]
  · have hout : ¬s.tankOut t = true := fun h => hstate (of_decide_eq_true h)
    rw [if_neg hout, if_neg hout, State.emptied, if_neg hstate, withHauled_modTank]

/-- What a haul makes of the books and records, whether or not the fill selection follows. -/
theorem haul_keeps {s : State} {t : Fin 3} {l : Lot} (hl : s.lotIn t = some l) :
    (haul t l s).ledger = (withHauled t l (s.emptied t) s).ledger ∧
      (haul t l s).chronicle = (withHauled t l (s.emptied t) s).chronicle := by
  obtain ⟨link, hrest, -, hhaul⟩ := haul_eq hl
  let z : State := { withHauled t l (s.emptied t) s with link := link }
  have hledger : z.ledger = (withHauled t l (s.emptied t) s).ledger := by
    simp only [State.ledger, z, hrest]
    rfl
  rw [hhaul]
  split
  · exact ⟨hledger, rfl⟩
  · exact ⟨(fillSelection_ledger z).trans hledger, fillSelection_chronicle z⟩

theorem withHauled_filling {s : State} {t u : Fin 3} {l : Lot} {state : TankState} {link : Link}
    (h : s.kept.tanks[u].state = .filling) (hu : u ≠ t) :
    (State.fillingTank { withHauled t l state s with link := link }).isSome = true := by
  refine fillingTank_isSome (t := u) ?_
  have hval : t.val ≠ u.val := fun h => hu (Fin.ext h.symm)
  have hother : (s.kept.tanks.set t.val { state := state, lot := none })[u] = s.kept.tanks[u] :=
    Vector.getElem_set_ne _ _ hval
  exact (congrArg Tank.state hother).trans h

theorem onLot_of {n : Nat} {s : State} {t : Fin 3} {l : Lot} (hlow : 1 ≤ n) (hhigh : n ≤ 65535)
    (hlevels : s.sump.levelsTaken = true) (ht : s.tankOfLot n = some t) (hl : s.lotIn t = some l)
    (f : Fin 3 → Lot → Served) : onLot n s f = f t l := by
  simp [onLot, within, hlow, hhigh, hlevels, ht, hl]

/-! ### A tank that returns (R80, R86) -/

theorem openLot_nextLot (s : State) (t : Fin 3) : (openLot t s).kept.nextLot = nextNumber s.freshNumber := by
  rw [openLot, pumpJudge_kept]
  rfl

theorem openLot_maxFill (s : State) (t : Fin 3) :
    (openLot t s).timers[t].maxFill = s.maxFillTimer s.kept.tankSettings[t].maxFill := by
  rw [openLot, pumpJudge_timers]
  exact congrArg TankTimers.maxFill (modAt_same s.timers t _)

theorem serveReturnTank_eq (t : Fin 3) (s : State) :
    serveReturnTank (t.val + 1) s =
      if s.sump.levelsTaken && s.tankOut t && !s.switchesDisagree t then
        if (s.lotIn t).isNone then ok (fillSelection (s.modTank t fun k => { k with state := .empty }))
        else ok (s.modTank t fun k => { k with state := .closed })
      else wrongState s := by
  simp only [serveReturnTank, numbered_succ]

/-- The returned tank without a lot, with no tank FILLING and no other EMPTY, takes the new lot. -/
theorem fillSelection_returned {s : State} {t : Fin 3} (hfilling : s.fillingTank = none)
    (hempty : ∀ u : Fin 3, s.kept.tanks[u].state ≠ .empty) (hhigh : s.covered (.tankHigh t) = false) :
    fillSelection (s.modTank t fun k => { k with state := .empty }) =
      openLot t (s.modTank t fun k => { k with state := .empty }) := by
  refine fillSelection_opens ?_ (emptyTank_eq_some.mpr ⟨?_, fun u hu => ?_⟩) hhigh
  · rw [State.fillingTank, List.find?_eq_none] at hfilling ⊢
    intro u hu
    by_cases h : t = u
    · subst h; rw [modTank_same]; exact Bool.false_ne_true
    · rw [modTank_other _ _ h]; exact hfilling u hu
  · rw [modTank_same]
  · rw [modTank_other _ _ (Fin.ne_of_gt hu)]; exact hempty u

end Sys2Proof.Machine

namespace Sys2Proof.Settled

open Sys2Proof Sys2Proof.Machine

/-- Settles O47: each request's refusals, the haul, and the tank that returns CLOSED, EMPTY or FILLING. -/
theorem tanksEmptied : Obligations.TanksEmptied := by
  refine ⟨fun dt tag s n t l ready hlow hhigh hlevels ht hl => ?_, fun dt tag s t ready => ?_⟩
  · intro x ng history gone
    let r : Request := .declareHauled n
    let y := serving dt r.kind s
    have hserve : serveEntry r y =
        if l.state ≠ .held ∨ y.covered (.tankLow t) then wrongState y
        else okWith (.hauled (l.content / 1000000)) (haul t l y) :=
      onLot_of (s := y) hlow hhigh hlevels ht hl _
    refine ⟨fun bad => ?_, fun hheld hdry => ?_, fun hheld hdry hstays => ?_⟩
    · exact congrArg _ (hostRequest_refused dt tag r s .wrongState ready rfl (passesHold s rfl)
        (hserve.trans (if_pos bad)))
    all_goals
      have hgood : ¬(l.state ≠ .held ∨ y.covered (.tankLow t) = true) :=
        not_or.mpr ⟨not_not.mpr hheld, fun h => Bool.false_ne_true (hdry.symm.trans h)⟩
      have hs := hserve.trans (if_neg hgood)
    · obtain ⟨hledger, hchronicle⟩ := haul_keeps (s := y) hl
      have hledgerLink := rest_of_ledger hledger
      obtain ⟨halike, hreply⟩ := hostRequest_replied (r := r) (tag := tag) ready rfl (passesHold s rfl) hs
        (hledgerLink.trans rfl)
      refine ⟨_, rfl, hreply, ?_, ?_, ?_⟩
      · exact (congrArg Kept.accounts halike.kept).trans (accounts_of_books (books_of_ledger hledger))
      · exact (congrArg Kept.history halike.kept).trans (congrArg Prod.fst hchronicle)
      · exact (congrArg (·.day.lots) halike.kept).trans (congrArg (·.2.lots) hchronicle)
    · obtain ⟨link, hrest, hprefix, hhaul⟩ := haul_eq (s := y) hl
      let z : State := { withHauled t l (y.emptied t) y with link := link }
      have hz : haul t l y = z := by
        rcases hstays with hout | ⟨u, hu, hfilling⟩
        · exact hhaul.trans (if_pos (decide_eq_true hout))
        · have hfilled : fillSelection z = z :=
            fillSelection_filling (withHauled_filling (s := y) (fillingTank_eq_some.mp hfilling).1 hu)
          have hboth : (if y.tankOut t then z else fillSelection z) = z := by rw [hfilled, ite_self]
          exact hhaul.trans hboth
      rw [hz] at hs
      obtain ⟨halike, houtbound, hreply⟩ := hostRequest_answers (r := r) (tag := tag) ready rfl
        (passesHold s rfl) hs hrest hprefix
      have hlink := serving_rest (t := z) ready hrest
      exact ⟨_, rfl, halike.of_rest rfl hlink, houtbound, hreply⟩
  · intro x r returns back
    let y := serving dt r.kind s
    have hserve : serveEntry r y =
        if y.sump.levelsTaken && y.tankOut t && !y.switchesDisagree t then
          if (y.lotIn t).isNone then ok (fillSelection (y.modTank t fun k => { k with state := .empty }))
          else ok (y.modTank t fun k => { k with state := .closed })
        else wrongState y := serveReturnTank_eq t y
    have hreturns : (y.sump.levelsTaken && y.tankOut t && !y.switchesDisagree t) = true ↔ returns := by
      simp only [Bool.and_eq_true, Bool.not_eq_true', State.tankOut, decide_eq_true_eq, and_assoc]
      rfl
    refine ⟨fun bad => ?_, fun hready hlot => ?_, fun hready hlot hfilling => ?_,
      fun hready hlot hfilling hempty hhigh => ?_⟩
    · exact congrArg _ (hostRequest_refused dt tag r s .wrongState ready rfl (passesHold s rfl)
        (hserve.trans (if_neg fun h => bad (hreturns.mp h))))
    all_goals rw [if_pos (hreturns.mpr hready)] at hserve
    · have hsome : ¬(y.lotIn t).isNone = true := by
        rw [Option.isNone_iff_eq_none]; exact fun h => by rw [show s.lotIn t = none from h] at hlot; cases hlot
      exact congrArg _ (hostRequest_acts dt tag r s .empty (·.modTank t fun k => { k with state := .closed }) ready rfl
        (passesHold s rfl) (hserve.trans (if_neg hsome)) fun _ => rfl)
    all_goals
      have hnone : (y.lotIn t).isNone = true := Option.isNone_iff_eq_none.mpr hlot
      rw [if_pos hnone] at hserve
    · obtain ⟨u, hu⟩ := Option.isSome_iff_exists.mp hfilling
      have hne : t ≠ u := by
        rintro rfl
        exact absurd ((fillingTank_eq_some.mp hu).1.symm.trans hready.2.1) nofun
      have hfilled : fillSelection (y.modTank t fun k => { k with state := .empty }) =
          y.modTank t fun k => { k with state := .empty } := by
        refine fillSelection_filling (fillingTank_isSome (t := u) ?_)
        rw [modTank_other _ _ hne]
        exact (fillingTank_eq_some.mp hu).1
      rw [hfilled] at hserve
      exact congrArg _ (hostRequest_acts dt tag r s .empty (·.modTank t fun k => { k with state := .empty }) ready rfl
        (passesHold s rfl) hserve fun _ => rfl)
    · let z := y.modTank t fun k => { k with state := .empty }
      have hopens : fillSelection z = openLot t z := fillSelection_returned (s := y) hfilling hempty hhigh
      rw [hopens] at hserve
      obtain ⟨halike, hreply⟩ := hostRequest_replied (r := r) (tag := tag) ready rfl (passesHold s rfl) hserve
        (rest_of_ledger (openLot_ledger z t))
      have hnumber : z.freshNumber = s.freshNumber := freshNumber_modTank y t .empty
      refine ⟨_, rfl, hreply, ?_, ?_, ?_⟩
      · rw [← hnumber]
        exact (congrArg (·.tanks[t]) halike.kept).trans (openLot_tank z t)
      · rw [← hnumber]
        exact (congrArg Kept.nextLot halike.kept).trans (openLot_nextLot z t)
      · exact (congrArg (·.timers[t].maxFill) halike.symm).trans (openLot_maxFill z t)

end Sys2Proof.Settled
end

section
/-! PROOF of O49. The successful sample: the shares in which a removal is placed on the train, and the route of the lot
(R29, R30, R90, R91, R153, R154). -/

namespace Sys2Proof.Machine

open Sys2Proof

/-! ### The shares of a placement (R153) -/

/-- The shares of the ACTIVE cartridges in train order: each but the last up to its room, the last the rest. -/
def activeShares : Nat → List Cartridge → List Nat
  | _, [] => []
  | mass, c :: rest =>
    if c.exhausted then 0 :: activeShares mass rest
    else if hasActive rest then min mass c.room :: activeShares (mass - min mass c.room) rest
    else mass :: List.replicate rest.length 0

/-- The shares where every cartridge is EXHAUSTED: the lag takes all. -/
def lagShares (mass : Nat) : List Cartridge → List Nat
  | [] => []
  | [_] => [mass]
  | _ :: rest => 0 :: lagShares mass rest

/-- The shares in which a mass is placed on a train. -/
def shares (mass : Nat) (train : List Cartridge) : List Nat :=
  if hasActive train then activeShares mass train else lagShares mass train

theorem hasActive_iff {train : List Cartridge} : hasActive train = true ↔ ∃ c ∈ train, c.exhausted = false := by
  simp [hasActive]

theorem receive_zero (c : Cartridge) (percent : Nat) : c.receive 0 percent = c :=
  if_pos rfl

theorem zipWith_receive_zero (percent : Nat) (train : List Cartridge) :
    List.zipWith (fun c q => c.receive q percent) train (List.replicate train.length 0) = train := by
  induction train with
  | nil => rfl
  | cons c rest ih => simp [List.replicate_succ, receive_zero, ih]

theorem placeActive_shares (percent mass : Nat) (train : List Cartridge) :
    placeActive percent mass train =
      List.zipWith (fun c q => c.receive q percent) train (activeShares mass train) := by
  induction train generalizing mass with
  | nil => rfl
  | cons c rest ih =>
    unfold placeActive activeShares
    split
    · simp [receive_zero, ih]
    · split
      · simp [ih]
      · simp [zipWith_receive_zero]

theorem placeLag_shares (percent mass : Nat) (train : List Cartridge) :
    placeLag percent mass train = List.zipWith (fun c q => c.receive q percent) train (lagShares mass train) := by
  induction train with
  | nil => rfl
  | cons c rest ih =>
    cases rest with
    | nil => rfl
    | cons d rest => simp [placeLag, lagShares, receive_zero, ih]

theorem placed_shares (percent mass : Nat) (train : List Cartridge) :
    placed percent mass train = List.zipWith (fun c q => c.receive q percent) train (shares mass train) := by
  unfold placed shares
  split
  · exact placeActive_shares percent mass train
  · exact placeLag_shares percent mass train

theorem activeShares_length (mass : Nat) (train : List Cartridge) : (activeShares mass train).length = train.length := by
  induction train generalizing mass with
  | nil => rfl
  | cons c rest ih =>
    unfold activeShares
    split
    · simp [ih]
    · split <;> simp [ih]

theorem lagShares_length (mass : Nat) (train : List Cartridge) : (lagShares mass train).length = train.length := by
  induction train with
  | nil => rfl
  | cons c rest ih =>
    cases rest with
    | nil => rfl
    | cons d rest => simp [lagShares, ih]

theorem shares_length (mass : Nat) (train : List Cartridge) : (shares mass train).length = train.length := by
  unfold shares
  split
  · exact activeShares_length mass train
  · exact lagShares_length mass train

theorem activeShares_sum {mass : Nat} {train : List Cartridge} (h : hasActive train = true) :
    (activeShares mass train).sum = mass := by
  induction train generalizing mass with
  | nil => cases h
  | cons c rest ih =>
    unfold activeShares
    split
    next hc => simp [ih (show hasActive rest = true by simpa [hasActive, hc] using h)]
    next =>
      split
      next hrest => rw [List.sum_cons, ih hrest]; omega
      next => simp

theorem lagShares_sum {mass : Nat} {train : List Cartridge} (h : train ≠ []) : (lagShares mass train).sum = mass := by
  induction train with
  | nil => exact absurd rfl h
  | cons c rest ih =>
    cases rest with
    | nil => simp [lagShares]
    | cons d rest => simp [lagShares, ih (List.cons_ne_nil d rest)]

/-- The shares place the whole mass. -/
theorem shares_sum {mass : Nat} {train : List Cartridge} (h : train ≠ []) : (shares mass train).sum = mass := by
  unfold shares
  split
  next hactive => exact activeShares_sum hactive
  next => exact lagShares_sum h

/-! #### The share of one cartridge -/

section
variable {front back : List Cartridge} {k : Cartridge}

theorem hasActive_middle : hasActive (front ++ k :: back) = (hasActive front || (!k.exhausted || hasActive back)) := by
  simp [hasActive]

theorem activeShares_exhausted (mass : Nat) (hk : k.exhausted = true) :
    (activeShares mass (front ++ k :: back)).getD front.length 0 = 0 := by
  induction front generalizing mass with
  | nil => simp [activeShares, hk]
  | cons c rest ih =>
    rw [List.cons_append]
    unfold activeShares
    split
    · exact ih mass
    · split
      · exact ih _
      · simp

theorem activeShares_active (mass : Nat) (hk : k.exhausted = false) (hback : hasActive back = true) :
    (activeShares mass (front ++ k :: back)).getD front.length 0 =
      min k.room (mass - ((activeShares mass (front ++ k :: back)).take front.length).sum) := by
  induction front generalizing mass with
  | nil => simp [activeShares, hk, hback, Nat.min_comm]
  | cons c rest ih =>
    have hactive : hasActive (rest ++ k :: back) = true := by simp [hasActive_middle, hback]
    rw [List.cons_append]
    unfold activeShares
    split
    · simpa using ih mass
    · have := ih (mass - min mass c.room)
      simpa [Nat.sub_sub] using this

theorem lagShares_front (mass : Nat) (hback : back ≠ []) :
    (lagShares mass (front ++ k :: back)).getD front.length 0 = 0 := by
  induction front with
  | nil =>
    cases back with
    | nil => exact absurd rfl hback
    | cons d rest => rfl
  | cons c rest ih =>
    have hlag : lagShares mass (c :: (rest ++ k :: back)) = 0 :: lagShares mass (rest ++ k :: back) := by
      cases rest <;> rfl
    rw [List.cons_append, hlag]
    exact ih

end

section
variable {front back : List Cartridge} {k : Cartridge} (mass : Nat)

/-- An EXHAUSTED cartridge of a train with an ACTIVE one takes nothing. -/
theorem shares_exhausted (hactive : hasActive (front ++ k :: back) = true) (hk : k.exhausted = true) :
    (shares mass (front ++ k :: back)).getD front.length 0 = 0 := by
  rw [shares, if_pos hactive, activeShares_exhausted mass hk]

/-- An ACTIVE cartridge with an ACTIVE one behind it takes up to its room of what is left. -/
theorem shares_active (hk : k.exhausted = false) (hback : hasActive back = true) :
    (shares mass (front ++ k :: back)).getD front.length 0 =
      min k.room (mass - ((shares mass (front ++ k :: back)).take front.length).sum) := by
  have hactive : hasActive (front ++ k :: back) = true := by simp [hasActive_middle, hback]
  rw [shares, if_pos hactive]
  exact activeShares_active mass hk hback

/-- With none ACTIVE a cartridge in front of the lag takes nothing. -/
theorem shares_front (hnone : ¬hasActive (front ++ k :: back) = true) (hback : back ≠ []) :
    (shares mass (front ++ k :: back)).getD front.length 0 = 0 := by
  rw [shares, if_neg hnone, lagShares_front mass hback]

end

/-! ### The booking of a removal (R30, R154) -/

theorem latchIf_kept (b : Bool) (f : Flag) (s : State) : (latchIf b f s).kept = s.kept := by
  unfold latchIf
  split
  · exact latch_kept _ _
  · rfl

theorem latchIf_latched {b : Bool} (hb : b = true) (f : Flag) (s : State) : (latchIf b f s).latched f = true := by
  subst hb
  exact latch_latched f s

section
variable (mass : Nat) (s : State)

theorem bookRemoval_train (hmass : mass ≠ 0) (htrain : s.kept.train ≠ []) :
    bookRemoval mass s = trainJudged (placed s.kept.plant.exhaustPercent mass s.kept.train)
      (s.modAccounts fun a => { a with cartridgeLoaded := addTo accountTop a.cartridgeLoaded mass }) := by
  rw [bookRemoval, if_neg hmass, if_neg (by simpa using htrain)]

theorem bookRemoval_noTrain (hmass : mass ≠ 0) (htrain : s.kept.train = []) :
    bookRemoval mass s =
      s.modAccounts fun a => { a with cartridgeRemoved := addTo accountTop a.cartridgeRemoved mass } := by
  rw [bookRemoval, if_neg hmass, if_pos (by rw [htrain]; rfl)]

/-- A booking changes the accounts and the train of the kept part alone. -/
theorem bookRemoval_kept : ∃ accounts train,
    (bookRemoval mass s).kept = { s.kept with accounts := accounts, train := train } := by
  by_cases hmass : mass = 0
  · exact ⟨_, _, congrArg State.kept (if_pos hmass)⟩
  by_cases htrain : s.kept.train = []
  · rw [bookRemoval_noTrain mass s hmass htrain]
    exact ⟨_, _, rfl⟩
  · rw [bookRemoval_train mass s hmass htrain, trainJudged, latchIf_kept]
    exact ⟨_, _, rfl⟩

theorem bookRemoval_path : (bookRemoval mass s).path = s.path := by
  by_cases hmass : mass = 0
  · exact congrArg State.path (if_pos hmass)
  by_cases htrain : s.kept.train = []
  · rw [bookRemoval_noTrain mass s hmass htrain]
    rfl
  · rw [bookRemoval_train mass s hmass htrain, trainJudged, latchIf_path]
    rfl

end

/-! ### The route of a sampled lot (R91) -/

/-- A lot as its route leaves it. -/
def Lot.routed (l : Lot) (state : LotState) (reason : Option HoldReason) : Lot :=
  { l with hostPass := false, state := state, holdReason := reason }

/-- What a route leaves of the lot in tank `t`, of Sample Wait and of the flags. -/
structure RoutedTo (state : LotState) (reason : Option HoldReason) (t : Fin 3) (l : Lot) (s u : State) : Prop where
  lot : u.lotIn t = some (l.routed state reason)
  waiting : u.kept.sampleWait = s.kept.sampleWait
  latched : ∀ f, s.latched f = true → u.latched f = true

theorem RoutedTo.unique {a b : LotState} {q r : Option HoldReason} {t : Fin 3} {l : Lot} {s u : State}
    (h : RoutedTo a q t l s u) (h' : RoutedTo b r t l s u) : a = b ∧ q = r := by
  have heq : l.routed a q = l.routed b r := Option.some.inj (h.lot.symm.trans h'.lot)
  exact ⟨congrArg Lot.state heq, congrArg Lot.holdReason heq⟩

section
variable {s : State} {t : Fin 3} {l : Lot} (hl : s.lotIn t = some l)
include hl

/-- The lot routed, before it joins a list. -/
theorem modLot_routed (state : LotState) (reason : Option HoldReason) :
    (s.modLot t (·.routed state reason)).lotIn t = some (l.routed state reason) :=
  (modLot_lotIn s t _).trans (congrArg _ hl)

theorem cleared_lotIn :
    (s.modLot t fun l => { l with hostPass := false }).lotIn t = some { l with hostPass := false } :=
  (modLot_lotIn s t _).trans (congrArg _ hl)

theorem routeQueued_eq (hbusy : s.path.state ≠ .idle) : ∃ link,
    routeQueued t s = { (s.modLot t (·.routed .queued none)).modKept fun k =>
      { k with dischargeQueue := k.dischargeQueue ++ [l.number] } with link := link } := by
  have hqueued : enterQueued t (s.modLot t fun l => { l with hostPass := false }) =
      (s.modLot t (·.routed .queued none)).modKept fun k =>
        { k with dischargeQueue := k.dischargeQueue ++ [l.number] } := by
    simp only [enterQueued, cleared_lotIn hl, modLot_twice]
    rfl
  rw [routeQueued, hqueued, lotEvent_link]
  exact ⟨_, occasion_busy hbusy⟩

theorem routeAbove_polish (hpasses : l.passes < s.kept.plant.maxPasses ∨ l.hostPass = true) :
    routeAbove t s = (s.modLot t (·.routed .polishWait none)).modKept fun k =>
      { k with polishWait := k.polishWait ++ [l.number] } := by
  have hgo : (l.passes < s.kept.plant.maxPasses || l.hostPass) = true := by simpa using hpasses
  simp only [routeAbove, hl, hgo, if_true, enterPolishWait, cleared_lotIn hl, modLot_twice]
  rfl

theorem routeAbove_held (hpasses : s.kept.plant.maxPasses ≤ l.passes) (hhost : l.hostPass = false) : ∃ link,
    routeAbove t s =
      latch .lotHeld { s.modLot t (·.routed .held (some .polishExhausted)) with link := link } := by
  have hgo : ¬(l.passes < s.kept.plant.maxPasses || l.hostPass) = true := by simp [hhost, hpasses]
  simp only [routeAbove, hl, if_neg hgo, enterHeld, modLot_twice]
  rw [lotEvent_link]
  exact ⟨_, rfl⟩

/-- A lot within the limit, or without a usable permit, joins the Discharge Queue. -/
theorem routeLot_queued (hbusy : s.path.state ≠ .idle)
    (hlimit : s.usablePermit = none ∨ ∃ p, s.usablePermit = some p ∧ l.concentration.getD 0 ≤ p.limit) :
    RoutedTo .queued none t l s (routeLot t s) ∧
      (routeLot t s).kept.dischargeQueue = s.kept.dischargeQueue ++ [l.number] := by
  have hroute : routeLot t s = routeQueued t s := by
    rcases hlimit with hnone | ⟨p, hp, hle⟩
    · simp only [routeLot, hl, hnone]
    · simp only [routeLot, hl, hp, hle, if_true]
  obtain ⟨_, hqueued⟩ := routeQueued_eq hl hbusy
  rw [hroute, hqueued]
  exact ⟨⟨modLot_routed hl .queued none, rfl, fun _ h => h⟩, rfl⟩

section
variable {p : Permit} (hp : s.usablePermit = some p) (hlimit : p.limit < l.concentration.getD 0)
include hp hlimit

/-- A lot above the limit with passes left goes to Polish Wait. -/
theorem routeLot_polish (hbusy : s.path.state ≠ .idle)
    (hpasses : l.passes < s.kept.plant.maxPasses ∨ l.hostPass = true) :
    RoutedTo .polishWait none t l s (routeLot t s) ∧
      (routeLot t s).kept.polishWait = s.kept.polishWait ++ [l.number] := by
  have hgo : (l.passes < s.kept.plant.maxPasses || l.hostPass) = true := by simpa using hpasses
  have hroute : routeLot t s = occasion (routeAbove t s) := by
    simp only [routeLot, hl, hp, if_neg (Nat.not_le.mpr hlimit), hgo, if_true]
  have hstays : occasion (routeAbove t s) = routeAbove t s :=
    occasion_busy (by rw [routeAbove_polish hl hpasses]; exact hbusy)
  rw [hroute, hstays, routeAbove_polish hl hpasses]
  exact ⟨⟨modLot_routed hl .polishWait none, rfl, fun _ h => h⟩, rfl⟩

/-- A lot above the limit with no pass left is held. -/
theorem routeLot_held (hpasses : s.kept.plant.maxPasses ≤ l.passes) (hhost : l.hostPass = false) :
    RoutedTo .held (some .polishExhausted) t l s (routeLot t s) ∧ (routeLot t s).latched .lotHeld = true := by
  have hgo : ¬(l.passes < s.kept.plant.maxPasses || l.hostPass) = true := by simp [hhost, hpasses]
  have hroute : routeLot t s = routeAbove t s := by
    simp only [routeLot, hl, hp, if_neg (Nat.not_le.mpr hlimit), if_neg hgo]
  obtain ⟨link, habove⟩ := routeAbove_held hl hpasses hhost
  let held : State := { s.modLot t (·.routed .held (some .polishExhausted)) with link := link }
  have hheld : held.lotIn t = _ := modLot_routed hl .held (some .polishExhausted)
  rw [hroute, habove]
  refine ⟨⟨?_, ?_, fun f h => latch_keeps_latched _ h⟩, latch_latched _ _⟩
  · rw [State.lotIn, latch_kept]
    exact hheld
  · rw [latch_kept]
    rfl

end

/-- Every route leaves the lot but for its state. -/
theorem routeLot_routed (hbusy : s.path.state ≠ .idle) : ∃ state reason, RoutedTo state reason t l s (routeLot t s) := by
  cases hp : s.usablePermit with
  | none => exact ⟨_, _, (routeLot_queued hl hbusy (.inl hp)).1⟩
  | some p =>
    by_cases hle : l.concentration.getD 0 ≤ p.limit
    · exact ⟨_, _, (routeLot_queued hl hbusy (.inr ⟨p, hp, hle⟩)).1⟩
    have hlimit := Nat.not_le.mp hle
    by_cases hpasses : l.passes < s.kept.plant.maxPasses ∨ l.hostPass = true
    · exact ⟨_, _, (routeLot_polish hl hp hlimit hbusy hpasses).1⟩
    · obtain ⟨hfew, hhost⟩ := not_or.mp hpasses
      exact ⟨_, _, (routeLot_held hl hp hlimit (Nat.not_lt.mp hfew) (Bool.eq_false_iff.mpr hhost)).1⟩

end

/-! ### The record of a sampled lot (R29, R90) -/

section
variable (l : Lot) (c : Nat)

theorem Lot.sampled_pending (h : l.removalPending = true) :
    l.sampled c = { l with
      previous := l.concentration, concentration := some c, removalPending := false, attempts := 0
      removalNegative := l.removalNegative || l.concentration.any (· < c) } :=
  if_pos h

theorem Lot.sampled_settled (h : l.removalPending = false) :
    l.sampled c = { l with concentration := some c, attempts := 0 } :=
  if_neg (by rw [h]; exact Bool.false_ne_true)

theorem Lot.sampled_figures : (l.sampled c).number = l.number ∧ (l.sampled c).concentration = some c ∧
    (l.sampled c).attempts = 0 ∧ (l.sampled c).removalPending = false ∧ (l.sampled c).current = l.current ∧
    (l.sampled c).previous = (if l.removalPending = true then l.concentration else l.previous) ∧
    (l.sampled c).passes = l.passes ∧ (l.sampled c).hostPass = l.hostPass := by
  cases h : l.removalPending with
  | true => rw [l.sampled_pending c h]; exact ⟨rfl, rfl, rfl, rfl, rfl, rfl, rfl, rfl⟩
  | false => rw [l.sampled_settled c h]; exact ⟨rfl, rfl, rfl, h, rfl, rfl, rfl, rfl⟩

end

/-! ### The end of the window (R90) -/

/-- The state with the removal of a sampled lot booked and its concentration written, before its route. -/
def booked (t : Fin 3) (l : Lot) (c : Nat) (s : State) : State :=
  (bookRemoval (l.removed c) s).modLot t (·.sampled c)

/-- What a booking leaves for the route to read. -/
theorem booked_keeps {s : State} {t : Fin 3} {l : Lot} (hl : s.lotIn t = some l) (c : Nat) :
    (booked t l c s).lotIn t = some (l.sampled c) ∧ (booked t l c s).path = s.path ∧
      (booked t l c s).usablePermit = s.usablePermit ∧ (booked t l c s).kept.plant = s.kept.plant ∧
      (booked t l c s).kept.dischargeQueue = s.kept.dischargeQueue ∧
      (booked t l c s).kept.polishWait = s.kept.polishWait ∧
      (booked t l c s).kept.sampleWait = s.kept.sampleWait := by
  obtain ⟨accounts, train, hkept⟩ := bookRemoval_kept (l.removed c) s
  have hlot : (bookRemoval (l.removed c) s).lotIn t = some l := by
    rw [State.lotIn, hkept]; exact hl
  refine ⟨(modLot_lotIn _ t _).trans (congrArg _ hlot), bookRemoval_path _ s, ?_, ?_, ?_, ?_, ?_⟩
  all_goals simp [booked, State.modLot, State.usablePermit, hkept]

/-- A window with 3 or more readings books the removal and routes the lot. -/
theorem windowEnds_routes {s : State} {t : Fin 3} {l : Lot} (hcount : 3 ≤ s.sampler.count) (ht : s.samplerTank = some t)
    (hl : s.lotIn t = some l) :
    windowEnds s = attemptEnds (routeLot t (booked t l (s.sampler.sum / s.sampler.count) s)) := by
  simp only [windowEnds, if_pos hcount, attemptSucceeds, ht, hl, booked]

theorem attemptEnds_noneWaits {s : State} (h : s.kept.sampleWait = []) : attemptEnds s = samplerEnd s :=
  samplerTest_noneWaits h

end Sys2Proof.Machine

namespace Sys2Proof.Settled

open Sys2Proof Sys2Proof.Machine

/-- Settles O49: the booking and placement of the removal, and the three routes. -/
theorem lotSampled : Obligations.LotSampled := by
  intro dt s t l hawake hdue hcount ht hl hbusy hwait c before mass top train active given
  let x := s.after dt
  let b := bookRemoval (l.removed c) x
  let m := booked t l c x
  obtain ⟨hm, hpath, hpermit, hplant, hqueue, hpolish, hwaiting⟩ := booked_keeps (s := x) hl c
  have hbusy' : m.path.state ≠ .idle := by rw [hpath]; exact hbusy
  obtain ⟨state, reason, hrouted⟩ := routeLot_routed hm hbusy'
  have hnone : (routeLot t m).kept.sampleWait = [] :=
    hrouted.waiting.trans (hwaiting.trans hwait)
  have hexec : exec (.sampleWindowEnd dt) s = .next (samplerEnd (routeLot t m)) := by
    have hwindow : whenDue x.sampler.window x windowEnds = windowEnds x := whenDue_of (s := x) hawake hdue _
    have hends : windowEnds x = attemptEnds (routeLot t m) := windowEnds_routes (s := x) hcount ht hl
    rw [← attemptEnds_noneWaits hnone, ← hends, ← hwindow]
    rfl
  have hbooks := (routeLot_carries m t).books
  have haccounts : (samplerEnd (routeLot t m)).kept.accounts = b.kept.accounts := accounts_of_books hbooks
  have htrain : (samplerEnd (routeLot t m)).kept.train = b.kept.train := train_of_books hbooks
  obtain ⟨hnumber, hconc, hattempts, hpending, hcurrent, hprevious, hpasses, hhost⟩ := l.sampled_figures c
  have hlimit : (l.sampled c).concentration.getD 0 = c := by rw [hconc]; rfl
  refine ⟨_, (l.sampled c).routed state reason, hexec, hrouted.lot, hnumber, hconc, hattempts, hpending, hcurrent,
    hprevious, rfl, fun hzero => ?_, fun hmass hempty => ?_, fun hmass hsome => ?_, fun hwithin => ?_, fun p hp habove => ?_⟩
  · have hbx : b = x := if_pos hzero
    rw [haccounts, htrain, hbx]
    exact ⟨rfl, rfl⟩
  · have hbx : b = _ := bookRemoval_noTrain (l.removed c) x hmass hempty
    rw [haccounts, htrain, hbx]
    exact ⟨hempty, rfl⟩
  · have hbx : b = _ := bookRemoval_train (l.removed c) x hmass hsome
    have hplaced : b.kept.train = placed s.kept.plant.exhaustPercent mass s.kept.train := by
      rw [hbx, trainJudged, latchIf_kept]
      rfl
    have hloaded : b.kept.accounts = { s.kept.accounts with
        cartridgeLoaded := min (s.kept.accounts.cartridgeLoaded + mass) top } := by
      rw [hbx, trainJudged, latchIf_kept]
      rfl
    rw [haccounts, htrain]
    refine ⟨hloaded, ⟨shares mass train, shares_length mass train, shares_sum hsome, ?_, ?_⟩, ?_⟩
    · rw [hplaced]
      exact placed_shares _ mass train
    · intro front back k hsplit share
      have hshare : share = (shares mass (front ++ k :: back)).getD front.length 0 := by rw [← hsplit]
      have htake : ((shares mass train).take front.length).sum =
        ((shares mass (front ++ k :: back)).take front.length).sum := by rw [← hsplit]
      have hactive : hasActive (front ++ k :: back) = true ↔ ∃ d ∈ train, active d := by rw [← hsplit]; exact hasActive_iff
      rw [hshare, htake]
      refine ⟨fun hany hk => ?_, fun hk hany => ?_, fun hall hback => ?_⟩
      · exact shares_exhausted mass (hactive.mpr hany) (Bool.not_eq_false _ ▸ hk)
      · exact shares_active mass hk (hasActive_iff.mpr hany)
      · exact shares_front mass (fun h => by obtain ⟨d, hd, hon⟩ := hactive.mp h; exact hall d hd hon) hback
    · rintro ⟨p, hp, hbefore, hafter⟩
      rw [hplaced] at hp
      have hon : p.1.exhausted = false := hbefore
      have hworn : ¬p.2.exhausted = false := hafter
      have hmore : exhaustedMore x.kept.train (placed s.kept.plant.exhaustPercent mass s.kept.train) = true :=
        List.any_eq_true.mpr ⟨p, hp, by simpa [hon] using hworn⟩
      have hlatched : b.latched .cartridgeExhausted = true := by
        rw [hbx]
        exact latchIf_latched hmore _ _
      exact hrouted.latched _ hlatched
  · obtain ⟨hqueued, hjoins⟩ := routeLot_queued hm hbusy' (by rw [hlimit, hpermit]; exact hwithin)
    exact ⟨(hrouted.unique hqueued).1, hjoins.trans (by rw [hqueue, hnumber]; rfl)⟩
  · have hp' : m.usablePermit = some p := hpermit.trans hp
    have habove' : p.limit < (l.sampled c).concentration.getD 0 := by rw [hlimit]; exact habove
    refine ⟨fun hleft => ?_, fun hfew hnot => ?_⟩
    · obtain ⟨hwaits, hjoins⟩ := routeLot_polish hm hp' habove' hbusy' (by rw [hpasses, hhost, hplant]; exact hleft)
      exact ⟨(hrouted.unique hwaits).1, hjoins.trans (by rw [hpolish, hnumber]; rfl)⟩
    · obtain ⟨hheld, hflag⟩ := routeLot_held hm hp' habove' (by rw [hpasses, hplant]; exact hfew) (hhost.trans hnot)
      obtain ⟨hstate, hreason⟩ := hrouted.unique hheld
      exact ⟨hstate, hreason, hflag⟩

end Sys2Proof.Settled
end

section
/-! SUPPORT. The cells, and the hold marks of the wash loops, the Sampler and the path, which the actions of lots, drains,
the permit and the arbiter leave as they are. One lemma for each action, in the order of the model's files. -/

namespace Sys2Proof.Machine

open Sys2Proof

/-- The cells, and the hold marks of the blocks that a supply hold marks beside them and the sump. -/
structure Marks where
  cells : Vector Cell 4
  loopHold : Fin 4 → Bool
  samplerHold : Bool
  pathHold : Bool

def State.marks (s : State) : Marks :=
  { cells := s.cells, loopHold := fun l => s.loops[l].hold, samplerHold := s.sampler.hold, pathHold := s.path.hold }

section
variable {s t : State} (h : t.marks = s.marks)
include h

theorem cells_of_marks : t.cells = s.cells := congrArg Marks.cells h
theorem loopHold_of_marks (l : Fin 4) : t.loops[l].hold = s.loops[l].hold := congrFun (congrArg Marks.loopHold h) l
theorem samplerHold_of_marks : t.sampler.hold = s.sampler.hold := congrArg Marks.samplerHold h
theorem pathHold_of_marks : t.path.hold = s.path.hold := congrArg Marks.pathHold h

end

section
variable (s : State)

/-! ### Named updates -/

@[simp] theorem modTimers_marks (i : Fin 3) (f : TankTimers → TankTimers) : (s.modTimers i f).marks = s.marks := rfl
@[simp] theorem modKept_marks (f : Kept → Kept) : (s.modKept f).marks = s.marks := rfl
@[simp] theorem modTank_marks (t : Fin 3) (f : Tank → Tank) : (s.modTank t f).marks = s.marks := rfl
@[simp] theorem modLot_marks (t : Fin 3) (f : Lot → Lot) : (s.modLot t f).marks = s.marks := rfl

/-- A change of the path that leaves its hold mark. -/
theorem modPath_marks (f : Path → Path) (hf : (f s.path).hold = s.path.hold) : (s.modPath f).marks = s.marks := by
  unfold State.marks
  rw [State.modPath_path, hf]
  rfl

/-- A change of a loop that leaves its hold mark. -/
theorem modLoop_marks (l : Fin 4) (f : WashLoop → WashLoop) (hf : (f s.loops[l]).hold = s.loops[l].hold) :
    (s.modLoop l f).marks = s.marks := by
  have hloops : (fun m : Fin 4 => (modAt s.loops l f)[m].hold) = fun m : Fin 4 => s.loops[m].hold := by
    funext m
    rw [modAt_get]
    split
    · next hm => rw [hf, hm]
    · rfl
  exact congrArg (fun k => { s.marks with loopHold := k }) hloops

/-! ### Flags, notices and writes -/

@[simp] theorem handNotice_marks (key : Fin 33) (content : NoticeContent) :
    (handNotice key content s).marks = s.marks := by
  rw [handNotice_eq]; rfl

@[simp] theorem latch_marks (f : Flag) : (latch f s).marks = s.marks := by
  rw [latch_eq]; rfl

@[simp] theorem latchIf_marks (b : Bool) (f : Flag) : (latchIf b f s).marks = s.marks := by
  unfold latchIf; split <;> simp

@[simp] theorem clearByPart_marks (f : Flag) : (clearByPart f s).marks = s.marks := by
  rw [clearByPart_eq]; rfl

@[simp] theorem orderWrite_marks (kind : WriteKind) : (orderWrite kind s).marks = s.marks := by
  rw [orderWrite_eq]; rfl

/-! ### The pump, lots and the Sampler -/

theorem backupAt_marks (b : Bool) (l : Fin 4) : (backupAt b l s).marks = s.marks := by
  rw [backupAt_eq]
  refine modLoop_marks s l _ ?_
  unfold WashLoop.onBackup
  split <;> rfl

@[simp] theorem backupEvent_marks (b : Bool) : (backupEvent b s).marks = s.marks :=
  foldl_keeps _ State.marks (fun s l => backupAt_marks s b l) _ s

@[simp] theorem pumpJudge_marks : (pumpJudge s).marks = s.marks := by
  refine pumpJudge_keeps State.marks (fun s => ?_) (fun _ => rfl) s
  unfold startPump
  dsimp only
  split
  · exact backupEvent_marks _ _
  · rfl

@[simp] theorem pumpJudge_cells : (pumpJudge s).cells = s.cells := cells_of_marks (pumpJudge_marks s)

@[simp] theorem lotEvent_marks (kind : LotEventKind) (t : Fin 3) : (lotEvent kind t s).marks = s.marks := by
  rw [lotEvent_link]; rfl

@[simp] theorem samplerTest_marks : (samplerTest s).marks = s.marks := by
  rcases samplerTest_cases s with h | ⟨_, _, _, _, _, h⟩ <;> rw [h]
  rfl

@[simp] theorem samplerEnd_marks : (samplerEnd s).marks = s.marks := rfl

end

/-- Tank Control's elementary steps leave the marks, and so does every action that is a chain of them. -/
theorem TankSteps.marks {P : Fin 3 → Prop} {s x : State} (h : TankSteps P s x) : x.marks = s.marks := by
  induction h with
  | refl => rfl
  | tail _ step ih =>
    refine Eq.trans ?_ ih
    cases step with
    | flag f => exact latch_marks _ f
    | event kind t => exact lotEvent_marks _ kind t
    | sampler => exact samplerTest_marks _
    | pump => exact pumpJudge_marks _
    | _ => rfl

section
variable (s : State)

/-- With every tank allowed to change, none is left that could not be opened. -/
theorem unopened_all : Unopened (fun _ => True) s := .inr fun _ h => absurd trivial h

@[simp] theorem dropFromLists_marks (n : Nat) : (dropFromLists n s).marks = s.marks := rfl

@[simp] theorem enterHeld_marks (t : Fin 3) (reason : HoldReason) : (enterHeld t reason s).marks = s.marks :=
  (enterHeld_steps (P := fun _ => True) s trivial reason).marks

@[simp] theorem enterSampleWait_marks (t : Fin 3) : (enterSampleWait t s).marks = s.marks :=
  (enterSampleWait_steps (P := fun _ => True) s trivial).marks

@[simp] theorem enterQueued_marks (t : Fin 3) : (enterQueued t s).marks = s.marks := by
  unfold enterQueued; split <;> rfl

@[simp] theorem enterQueueHead_marks (t : Fin 3) : (enterQueueHead t s).marks = s.marks := by
  unfold enterQueueHead; split <;> rfl

@[simp] theorem enterPolishWait_marks (t : Fin 3) : (enterPolishWait t s).marks = s.marks := by
  unfold enterPolishWait; split <;> rfl

@[simp] theorem enterSettling_marks (t : Fin 3) : (enterSettling t s).marks = s.marks :=
  (enterSettling_steps (P := fun _ => True) s trivial).marks

@[simp] theorem fillSelection_marks : (fillSelection s).marks = s.marks :=
  (fillSelection_steps (unopened_all s)).marks

@[simp] theorem closeLot_marks (t : Fin 3) (byHigh : Bool) : (closeLot t byHigh s).marks = s.marks :=
  (closeLot_steps trivial (unopened_all s) byHigh).marks

@[simp] theorem stopFilling_marks (t : Fin 3) (reason : HoldReason) : (stopFilling t reason s).marks = s.marks :=
  (stopFilling_steps trivial (unopened_all s) reason).marks

@[simp] theorem makeUnknown_marks (t : Fin 3) : (makeUnknown t s).marks = s.marks :=
  (makeUnknown_steps (P := fun _ => True) s trivial).marks

@[simp] theorem attemptFails_marks : (attemptFails s).marks = s.marks := by
  unfold attemptFails
  split
  · simp
  · dsimp only; split <;> simp

@[simp] theorem leaveTable_marks (t : Fin 3) (d : Disposition) (hauled : Nat) (unknown : Bool) :
    (leaveTable t d hauled unknown s).marks = s.marks := by
  unfold leaveTable
  split
  · rfl
  · exact (handNotice_marks _ _ _).trans rfl

/-! ### Drains of the Outlet Path -/

@[simp] theorem handBackReturned_marks (t : Fin 3) : (handBackReturned t s).marks = s.marks := by
  simp [handBackReturned]

@[simp] theorem handBackDrained_marks (t : Fin 3) : (handBackDrained t s).marks = s.marks := by
  simp [handBackDrained]

@[simp] theorem handBackHeld_marks (reason : HoldReason) (t : Fin 3) : (handBackHeld reason t s).marks = s.marks := by
  simp [handBackHeld]

@[simp] theorem handBackPassed_marks (t : Fin 3) : (handBackPassed t s).marks = s.marks := by
  simp [handBackPassed]

@[simp] theorem handBackAbandoned_marks (t : Fin 3) : (handBackAbandoned t s).marks = s.marks := by
  simp [handBackAbandoned]

theorem handBack_marks (how : Fin 3 → State → State) (h : ∀ t s, (how t s).marks = s.marks) :
    (handBack how s).marks = s.marks := by
  unfold handBack
  split
  · rfl
  · exact h _ _

/-- A stop leaves the marks when its handing back does. -/
theorem stopDrain_marks (cause : StopCause) (how : Fin 3 → State → State) (h : ∀ t s, (how t s).marks = s.marks) :
    (stopDrain cause how s).marks = s.marks := by
  have hback (f : Path → Path) (hf : (f s.path).hold = s.path.hold) :
      (handBack how (s.modPath f)).marks = s.marks :=
    (handBack_marks _ how h).trans (modPath_marks s f hf)
  unfold stopDrain
  dsimp only
  rw [modPath_marks _ _ rfl]
  split
  · rw [orderWrite_marks, hback _ rfl]
  · exact hback _ rfl

@[simp] theorem interruptDischarge_marks (cause : StopCause) : (interruptDischarge cause s).marks = s.marks := by
  unfold interruptDischarge
  split
  · exact stopDrain_marks _ _ _ fun t s => handBackReturned_marks s t
  · rfl

@[simp] theorem stopHeld_marks (cause : StopCause) (reason : HoldReason) :
    (stopHeld cause reason s).marks = s.marks := by
  unfold stopHeld
  split
  · exact stopDrain_marks _ _ _ fun t s => handBackHeld_marks s reason t
  · rfl

@[simp] theorem runDry_marks : (runDry s).marks = s.marks := by
  unfold runDry
  split
  · rfl
  · rw [stopDrain_marks _ _ _ fun t s => handBackDrained_marks s t]; rfl

@[simp] theorem drainLowLost_marks : (drainLowLost s).marks = s.marks := by
  unfold drainLowLost
  split
  · simp
  · exact stopDrain_marks _ _ _ fun t s => handBackHeld_marks s .levelLost t
  all_goals rfl

@[simp] theorem drainTimedOut_marks : (drainTimedOut s).marks = s.marks := by
  simp [drainTimedOut]

@[simp] theorem chargeSilver_marks (ng : Nat) : (chargeSilver ng s).marks = s.marks := rfl
@[simp] theorem addDayVolume_marks (q : Nat) : (addDayVolume q s).marks = s.marks := rfl

@[simp] theorem meterLot_marks (t : Fin 3) (q : Nat) : (meterLot t q s).marks = s.marks := by
  unfold meterLot
  split
  · rfl
  · dsimp only
    rw [addDayVolume_marks, modLot_marks, chargeSilver_marks, modLot_marks]; rfl

@[simp] theorem meterRecord_marks (n q : Nat) : (meterRecord n q s).marks = s.marks := by
  have hmetered : (s.modPath fun p => { p with metered := p.metered + q }).marks = s.marks := rfl
  unfold meterRecord
  dsimp only
  rw [addDayVolume_marks, chargeSilver_marks]
  split
  · rw [modKept_marks, hmetered]
  · rw [modPath_marks _ _ rfl, hmetered]

@[simp] theorem outletPulse_marks (q : Nat) : (outletPulse q s).marks = s.marks := by
  unfold outletPulse
  split
  · unfold dischargePulse
    split
    · rfl
    · dsimp only
      split
      · rw [stopDrain_marks _ _ _ fun t s => handBackReturned_marks s t, meterLot_marks]
      · exact meterLot_marks s _ q
  · unfold polishPulse
    dsimp only
    split
    · rw [stopDrain_marks _ _ _ fun t s => handBackPassed_marks s t]; rfl
    · rfl
  · unfold overrunPulse
    dsimp only
    split
    · split
      · rfl
      · split
        · rw [meterLot_marks]; rfl
        · rw [meterRecord_marks]; rfl
    · rfl
    · rfl
  · unfold strayPulse
    dsimp only
    rw [latch_marks]
    split <;> rfl

@[simp] theorem pathEnds_marks : (pathEnds s).marks = s.marks := by
  unfold pathEnds
  dsimp only
  split
  · rw [handNotice_marks]; rfl
  · rfl

/-! ### The permit and the arbiter -/

theorem withPermit_marks (p : PermitRun) : State.marks { s with permit := p } = s.marks := rfl

@[simp] theorem setDayFlags_marks (f : DayFlags → DayFlags) : (setDayFlags f s).marks = s.marks := rfl

@[simp] theorem putInForce_marks (p : Permit) : (putInForce p s).marks = s.marks :=
  (clearByPart_marks _ _).trans (modKept_marks s _)

section
variable (tell : State → State) (htell : ∀ s, (tell s).marks = s.marks)
include htell

theorem judgeWindow_marks : (judgeWindow tell s).marks = s.marks := by
  unfold judgeWindow
  dsimp only
  split
  · rw [htell]; rfl
  · rw [interruptDischarge_marks]; rfl
  · rfl
  · rfl

theorem activate_marks : (activate tell s).marks = s.marks := by
  unfold activate
  split
  · rfl
  · rw [htell, judgeWindow_marks _ tell htell, putInForce_marks]

theorem digestCheck_marks : (digestCheck tell s).marks = s.marks := by
  have hfound : (foundCorrupt s).marks = s.marks := by
    rw [foundCorrupt, withPermit_marks, setDayFlags_marks, latch_marks, interruptDischarge_marks]; rfl
  unfold digestCheck
  split
  · rfl
  · split
    · rfl
    · rw [activate_marks _ tell htell, hfound]

end

@[simp] theorem routeAbove_marks (t : Fin 3) : (routeAbove t s).marks = s.marks := by
  unfold routeAbove
  split
  · rfl
  · dsimp only; split <;> simp

@[simp] theorem judgeHeads_marks (k : Nat) : (judgeHeads k s).marks = s.marks := by
  induction k generalizing s with
  | zero => rfl
  | succ k ih =>
    unfold judgeHeads
    split
    · split
      · rfl
      · split <;> simp [ih]
    · rfl

@[simp] theorem takeDischarge_marks (t : Fin 3) (grant : Grant) (remaining : Int) :
    (takeDischarge t grant remaining s).marks = s.marks := by
  unfold takeDischarge
  split
  · rfl
  · dsimp only
    split
    · rw [handNotice_marks]; rfl
    · rw [runDry_marks, handNotice_marks]; rfl

@[simp] theorem takePolish_marks (t : Fin 3) : (takePolish t s).marks = s.marks := by
  unfold takePolish
  split
  · rfl
  · dsimp only
    split
    · rw [handNotice_marks]; rfl
    · rw [drainLowLost_marks, handNotice_marks]; rfl

@[simp] theorem polishStep_marks : (polishStep s).marks = s.marks := by
  unfold polishStep
  split
  · rfl
  · split
    · split <;> simp
    · rfl

@[simp] theorem judgeRelease_marks (t : Fin 3) (l : Lot) (p : Permit) : (judgeRelease t l p s).marks = s.marks := by
  have hrefused : (refuseRelease s p).marks = s.marks := by
    unfold refuseRelease; split <;> simp
  unfold judgeRelease
  dsimp only
  split
  · simp
  · rw [polishStep_marks, hrefused]

theorem decide_marks : (decide s).marks = s.marks := by
  have hjudged (k : Nat) : (judgeHeads k (digestCheck id s)).marks = s.marks := by
    rw [judgeHeads_marks, digestCheck_marks s id fun _ => rfl]
  unfold decide
  split
  · simp
  · dsimp only
    split
    · split
      · rw [polishStep_marks, hjudged]
      · split
        · rw [polishStep_marks, hjudged]
        · rw [judgeRelease_marks, hjudged]
    · rw [polishStep_marks, hjudged]

@[simp] theorem occasion_marks : (occasion s).marks = s.marks := by
  unfold occasion
  split
  · exact decide_marks s
  · rfl

@[simp] theorem occasion_cells : (occasion s).cells = s.cells := cells_of_marks (occasion_marks s)

@[simp] theorem firstDecision_marks : (firstDecision s).marks = s.marks :=
  (occasion_marks _).trans (modPath_marks s _ rfl)

@[simp] theorem closingExpired_marks : (closingExpired s).marks = s.marks := by
  simp [closingExpired]

@[simp] theorem checkExpired_marks : (checkExpired s).marks = s.marks :=
  (digestCheck_marks _ occasion occasion_marks).trans (withPermit_marks s _)

/-! ### The day -/

@[simp] theorem rollover_marks (number : Nat) : (rollover number s).marks = s.marks := by
  have hcleared (x : State) : (clearCapReached x).marks = x.marks := by
    unfold clearCapReached; split <;> simp
  have hstanding (x : State) : (setStandingFlags x).marks = x.marks := rfl
  have hday (x : State) (f : Day → Day) : (x.modDay f).marks = x.marks := rfl
  have hclosed (x : State) (record : DayRecord) : (closeDay record x).marks = x.marks := rfl
  unfold rollover
  dsimp only
  rw [occasion_marks, handNotice_marks, hstanding, hcleared, orderWrite_marks, hday,
    activate_marks _ occasion occasion_marks, hclosed, interruptDischarge_marks]

@[simp] theorem clockAdvance_marks : (clockAdvance s).marks = s.marks := by
  have htest (x : State) : (rolloverTest x).marks = x.marks := by
    unfold rolloverTest; split <;> simp
  have hwindow (x : State) : (judgeWindow occasion x).marks = x.marks := judgeWindow_marks x occasion occasion_marks
  unfold clockAdvance
  dsimp only
  split
  · exact htest _
  · split
    · rw [htest, hwindow]; rfl
    · rw [hwindow, htest]; rfl

/-! ### The Sampler and Tank Control -/

@[simp] theorem bookRemoval_marks (mass : Nat) : (bookRemoval mass s).marks = s.marks := by
  unfold bookRemoval trainJudged
  split
  · rfl
  · split
    · rfl
    · rw [latchIf_marks]; rfl

@[simp] theorem routeLot_marks (t : Fin 3) : (routeLot t s).marks = s.marks := by
  unfold routeLot routeQueued
  split
  · rfl
  · split
    · simp
    · split
      · simp
      · split <;> simp

@[simp] theorem windowEnds_marks : (windowEnds s).marks = s.marks := by
  unfold windowEnds attemptSucceeds attemptEnds
  split
  · split
    · simp
    · split <;> simp
  · simp

@[simp] theorem flushEnds_marks : (flushEnds s).marks = s.marks := by
  unfold flushEnds
  dsimp only
  split
  · rfl
  · exact attemptFails_marks _

@[simp] theorem samplerPublished_marks (value : Nat) : (samplerPublished value s).marks = s.marks := by
  unfold samplerPublished; split <;> rfl

@[simp] theorem samplerLeftValid_marks : (samplerLeftValid s).marks = s.marks := by
  unfold samplerLeftValid; split <;> simp

@[simp] theorem settleExpired_marks (t : Fin 3) : (settleExpired t s).marks = s.marks := by
  simp [settleExpired]

@[simp] theorem stopLot_marks (t : Fin 3) (cause : StopCause) (reason : HoldReason) :
    (stopLot t cause reason s).marks = s.marks := by
  unfold stopLot
  split
  · rfl
  · split <;> simp

@[simp] theorem switchFaultTest_marks (t : Fin 3) : (switchFaultTest t s).marks = s.marks := by
  unfold switchFaultTest
  split
  · split <;> simp
  · rfl

@[simp] theorem tankLowChange_marks (t : Fin 3) (covered : Bool) : (tankLowChange t covered s).marks = s.marks := by
  have hlost (x : State) : (lowLost t x).marks = x.marks := by
    unfold lowLost
    split
    · split
      · rfl
      · split <;> simp
    all_goals simp
  unfold tankLowChange
  dsimp only
  split
  · simp
  · rw [hlost, switchFaultTest_marks]

@[simp] theorem tankHighChange_marks (t : Fin 3) (covered : Bool) : (tankHighChange t covered s).marks = s.marks := by
  unfold tankHighChange
  dsimp only
  split <;> simp

@[simp] theorem sumpHighChange_marks (covered : Bool) : (sumpHighChange covered s).marks = s.marks := by
  unfold sumpHighChange
  split <;> exact pumpJudge_marks _

@[simp] theorem backupArises_marks : (backupArises s).marks = s.marks := by
  unfold backupArises
  rw [backupEvent_marks, latch_marks]; rfl

@[simp] theorem transferPulse_marks (q : Nat) : (transferPulse q s).marks = s.marks := by
  unfold transferPulse
  split
  · unfold fillPulse
    dsimp only
    split <;> simp
  · rfl

@[simp] theorem maxFillExpired_marks (t : Fin 3) : (maxFillExpired t s).marks = s.marks := by
  unfold maxFillExpired; split <;> simp

@[simp] theorem takeLevels_marks : (takeLevels s).marks = s.marks := by
  have hsump (x : State) : (startSump x).marks = x.marks := by
    unfold startSump; split <;> rfl
  have hfilling (x : State) : (startFilling x).marks = x.marks := by
    unfold startFilling
    split
    · rfl
    · split <;> simp
  have htested (x : State) : (eachTank switchFaultTest x).marks = x.marks :=
    foldl_keeps _ State.marks (fun s t => switchFaultTest_marks s t) _ x
  have hmade (x : State) : (eachTank makeUnknown x).marks = x.marks :=
    foldl_keeps _ State.marks (fun s t => makeUnknown_marks s t) _ x
  unfold takeLevels
  dsimp only
  rw [samplerTest_marks, pumpJudge_marks, fillSelection_marks]
  split
  · rw [hfilling, hsump, htested]; rfl
  · rw [hmade, hfilling, hsump, htested]; rfl

end

end Sys2Proof.Machine
end

section
/-! PROOF of O5. The duty and the control timer of a cell at rest (R49, R54, R58): every action on cells keeps them, and
every other action leaves the cells. -/

namespace Sys2Proof.Machine

open Sys2Proof

/-! ### One cell -/

/-- A cell that is not driven, or that a supply hold marks, applies and stages no duty and has no control timer. -/
def Cell.AtRest (k : Cell) : Prop :=
  (k.state.driven = false ∨ k.hold = true) → k.appliedDuty = 0 ∧ k.staged = none ∧ k.control = none

theorem cellsAtRest_iff {s : State} : CellsAtRest s ↔ ∀ c : Fin 4, s.cells[c].AtRest := Iff.rfl

/-- A driven cell outside a supply hold is not asked to rest. -/
theorem Cell.atRest_of_driven {k : Cell} (hd : k.state.driven = true) (hh : k.hold = false) : k.AtRest := by
  rintro (h | h)
  · rw [hd] at h; cases h
  · rw [hh] at h; cases h

/-- A cell that neither applies nor stages a duty and takes no ticks rests in every state. -/
theorem Cell.atRest_of_idle {k : Cell} (hduty : k.appliedDuty = 0) (hstaged : k.staged = none)
    (hcontrol : k.control = none) : k.AtRest :=
  fun _ => ⟨hduty, hstaged, hcontrol⟩

theorem Cell.atStart_atRest (k : CellSettings) (now : Micros) : (Cell.atStart k now).AtRest :=
  Cell.atRest_of_idle rfl rfl rfl

/-- Whether a cell is at rest is read from these fields. -/
theorem Cell.AtRest.congr {k k' : Cell} (h : k.AtRest) (hstate : k'.state = k.state) (hhold : k'.hold = k.hold)
    (hduty : k'.appliedDuty = k.appliedDuty) (hstaged : k'.staged = k.staged) (hcontrol : k'.control = k.control) :
    k'.AtRest := by
  unfold Cell.AtRest
  rw [hstate, hhold, hduty, hstaged, hcontrol]
  exact h

/-- A cell with a duty staged or a control timer running is driven, and no supply hold marks it. -/
theorem Cell.AtRest.awake {k : Cell} (h : k.AtRest) (hbusy : k.staged ≠ none ∨ k.control ≠ none) :
    k.state.driven = true ∧ k.hold = false := by
  constructor
  · refine Bool.not_eq_false _ ▸ fun hd => ?_
    obtain ⟨-, hstaged, hcontrol⟩ := h (.inl hd)
    exact hbusy.elim (· hstaged) (· hcontrol)
  · refine Bool.eq_false_iff.mpr fun hh => ?_
    obtain ⟨-, hstaged, hcontrol⟩ := h (.inr hh)
    exact hbusy.elim (· hstaged) (· hcontrol)

/-- The start of a PWM period applies a duty only where one is staged (R53). -/
theorem Cell.AtRest.periodStart {k : Cell} (h : k.AtRest) (pwm : Timer) : (k.periodStart pwm).AtRest := by
  unfold Cell.periodStart
  split
  · exact h.congr rfl rfl rfl rfl rfl
  next d hd =>
    obtain ⟨hdriven, hhold⟩ := h.awake (.inl (by rw [hd]; exact Option.some_ne_none d))
    exact Cell.atRest_of_driven hdriven hhold

/-- A cell with the hold mark set rests; one that was neither driven nor in PRIMING rested before (R58). -/
theorem Cell.AtRest.setHold {k : Cell} (h : k.AtRest) (now : Micros) : (k.setHold now).AtRest := by
  unfold Cell.setHold
  split
  · exact Cell.atRest_of_idle rfl rfl rfl
  next hidle =>
    have hdriven : k.state.driven = false := Bool.eq_false_iff.mpr fun hd => hidle (by rw [hd]; rfl)
    exact fun _ => h (.inl hdriven)

/-! ### All cells -/

/-- A tick leaves a driven cell driven. -/
theorem tickOutcome_driven {s : State} {c : Fin 4} (hd : s.cells[c].state.driven = true) :
    (tickOutcome s c).state.driven = true := by
  unfold tickOutcome
  dsimp only
  split
  · rfl
  · split
    · rfl
    · exact hd

section
variable {s t : State}

theorem CellsAtRest.of_cells (h : CellsAtRest s) (ht : t.cells = s.cells) : CellsAtRest t := by
  unfold CellsAtRest
  rw [ht]
  exact h

theorem CellsAtRest.of_marks (h : CellsAtRest s) (ht : t.marks = s.marks) : CellsAtRest t :=
  h.of_cells (cells_of_marks ht)

theorem CellsAtRest.modChannel (h : CellsAtRest s) (c : Fin 16) (f : Channel → Channel) :
    CellsAtRest (s.modChannel c f) := h.of_cells rfl

theorem CellsAtRest.modAnalyzer (h : CellsAtRest s) (a : Fin 5) (f : Analyzer → Analyzer) :
    CellsAtRest (s.modAnalyzer a f) := h.of_cells rfl

/-- A change of one cell keeps all at rest, when it keeps that cell at rest. -/
theorem CellsAtRest.modCell (h : CellsAtRest s) (c : Fin 4) {f : Cell → Cell}
    (hf : s.cells[c].AtRest → (f s.cells[c]).AtRest) : CellsAtRest (s.modCell c f) :=
  cellsAtRest_iff.mpr (modAt_forall (p := Cell.AtRest) h c (hf (h c)))

/-- A fold of actions keeps the cells at rest, when each of them does. -/
theorem CellsAtRest.foldl {α : Type} (h : CellsAtRest s) (act : State → α → State)
    (hact : ∀ x a, CellsAtRest x → CellsAtRest (act x a)) (l : List α) : CellsAtRest (l.foldl act s) := by
  induction l generalizing s with
  | nil => exact h
  | cons a l ih => exact ih (hact s a h)

variable (h : CellsAtRest s) (c : Fin 4)
include h

/-! ### Faults and the control tick (R47, R49, R50) -/

theorem cellFaulted_atRest (reason : CellFault) : CellsAtRest (cellFaulted c reason s) :=
  (h.modCell c fun _ => Cell.atRest_of_idle rfl rfl rfl).of_cells (latch_cells _ _)

theorem cellTick_atRest (hd : s.cells[c].state.driven = true) (hh : s.cells[c].hold = false) :
    CellsAtRest (cellTick c s) := by
  have hfault (reason : CellFault) (k : TickRecord) :
      CellsAtRest (cellFaulted c reason (s.modCell c fun x => { x with lastTick := some k })) :=
    cellFaulted_atRest (h.modCell c fun hc => hc.congr rfl rfl rfl rfl rfl) c reason
  have hfinish (n : Nat) : CellsAtRest (finishTick c n s) :=
    h.modCell c fun _ => Cell.atRest_of_driven (tickOutcome_driven hd) hh
  unfold cellTick
  split
  · exact hfault _ _
  · split
    · exact hfault _ _
    · exact hfinish _
  · exact hfinish _
  · exact hfinish _

theorem tickAndRestart_atRest (hd : s.cells[c].state.driven = true) (hh : s.cells[c].hold = false) :
    CellsAtRest (tickAndRestart c s) := by
  refine cellTick_atRest (h.modCell c fun _ => Cell.atRest_of_driven hd hh) c ?_ ?_
  all_goals
    simp only [State.modCell_cells, modAt_same]
    assumption

/-! ### Priming, holding and standby (R40 to R45) -/

theorem testPrimed_atRest : CellsAtRest (testPrimed c s) := by
  unfold testPrimed
  dsimp only
  split
  next hprimed =>
    have hhold : s.cells[c].hold = false := by
      simp only [Bool.and_eq_true, Bool.not_eq_true'] at hprimed
      exact hprimed.1.1.2
    refine tickAndRestart_atRest (h.modCell c fun _ => Cell.atRest_of_driven rfl hhold) c ?_ ?_
    all_goals simp only [State.modCell_cells, modAt_same]
    · rfl
    · exact hhold
  · exact h

theorem enterPriming_atRest : CellsAtRest (enterPriming c s) :=
  testPrimed_atRest (h.modCell c fun _ => Cell.atRest_of_idle rfl rfl rfl) c

theorem cellEnteredValid_atRest : CellsAtRest (cellEnteredValid c s) :=
  testPrimed_atRest (h.modCell c fun hc => hc.congr rfl rfl rfl rfl rfl) c

theorem cellLeftValid_atRest (state : AnalyzerState) (held : Bool) : CellsAtRest (cellLeftValid c state held s) := by
  by_cases hreg : s.cells[c].state = .regulating ∧ s.cells[c].hold = false
  · obtain ⟨hstate, hhold⟩ := hreg
    cases held with
    | true =>
      rw [cellLeftValid_held state hstate hhold]
      exact h.modCell c fun _ => Cell.atRest_of_driven rfl hhold
    | false =>
      rw [cellLeftValid_absent state hstate hhold]
      exact h.modCell c fun _ => Cell.atRest_of_driven rfl hhold
  · rw [cellLeftValid_elsewhere state held (by rw [not_and_or, Bool.not_eq_false] at hreg; exact hreg)]
    exact h.modCell c fun hc => hc.congr rfl rfl rfl rfl rfl

theorem cellHoldExpired_atRest : CellsAtRest (cellHoldExpired c s) := by
  by_cases hhol : s.cells[c].state = .holding ∧ s.cells[c].hold = false
  · obtain ⟨hstate, hhold⟩ := hhol
    rw [cellHoldExpired_holding hstate hhold]
    exact h.modCell c fun _ => Cell.atRest_of_driven rfl hhold
  · rw [cellHoldExpired_elsewhere (by rw [not_and_or, Bool.not_eq_false] at hhol; exact hhol)]
    exact h.modCell c fun hc => hc.congr rfl rfl rfl rfl rfl

theorem cellFlowChange_atRest (covered : Bool) : CellsAtRest (cellFlowChange c covered s) := by
  have hviewed : CellsAtRest (s.modCell c fun k => { k with flowCovered := covered }) :=
    h.modCell c fun hc => hc.congr rfl rfl rfl rfl rfl
  unfold cellFlowChange
  dsimp only
  split
  · exact cellFaulted_atRest hviewed c _
  · exact testPrimed_atRest hviewed c

theorem startingFlow_atRest : CellsAtRest (startingFlow c s) :=
  testPrimed_atRest (h.modCell c fun hc => hc.congr rfl rfl rfl rfl rfl) c

theorem autostart_atRest : CellsAtRest (autostart c s) := by
  unfold autostart
  split
  · exact enterPriming_atRest h c
  · exact h

theorem cellTakes_atRest (k : CellSettings) : CellsAtRest (cellTakes c k s) := by
  let written := s.modKept fun x => { x with cells := modAt x.cells c fun _ => k }
  have hwritten : CellsAtRest written := h.of_cells rfl
  unfold cellTakes
  dsimp only
  split
  · exact hwritten
  · exact hwritten.modCell c fun hc => hc.congr rfl rfl rfl rfl rfl

/-! ### Supply hold (R58, R59) -/

/-- A recovering cell that is driven may apply its duty again; any other rested before. -/
theorem recoverCell_atRest : CellsAtRest (recoverCell c s) := by
  have hcleared : CellsAtRest (s.modCell c fun k => { k with hold := false }) :=
    h.modCell c fun hc => by
      rintro (hd | hh)
      · exact hc (.inl hd)
      · cases hh
  unfold recoverCell
  dsimp only
  split
  · exact enterPriming_atRest hcleared c
  · split
    · exact testPrimed_atRest (hcleared.modCell c fun hc => hc.congr rfl rfl rfl rfl rfl) c
    · exact hcleared

omit c in
theorem recoverCells_atRest : CellsAtRest (recoverCells s) :=
  h.foldl _ (fun _ c hx => recoverCell_atRest hx c) _

omit c in
theorem holdCells_atRest : CellsAtRest (holdCells s) :=
  cellsAtRest_iff.mpr fun c => by
    have hc : (holdCells s).cells[c] = s.cells[c].setHold s.now := Vector.map_fin _ _ c
    rw [hc]
    exact (cellsAtRest_iff.mp h c).setHold s.now

end

end Sys2Proof.Machine
end

section
/-! PROOF of O5, second part. The events of the inputs, of the tanks and of the supply keep the cells at rest. -/

namespace Sys2Proof.Machine

open Sys2Proof

section
variable {s : State} (h : CellsAtRest s)
include h

/-! ### Pulses and rates -/

theorem ownerRate_atRest (r : Role) (rate : Nat) (moving : Bool) : CellsAtRest (ownerRate r rate moving s) := by
  rw [ownerRate_eq]
  exact h

theorem ownerPulse_atRest (r : Role) (q : Nat) : CellsAtRest (ownerPulse r q s) := by
  cases r with
  | noRole => exact h
  | footage l =>
    simp only [ownerPulse, footagePulse]
    split <;> exact h
  | wash l => exact h
  | celli c => exact h
  | transfer => exact h.of_marks (transferPulse_marks s q)
  | outlet => exact h.of_marks (outletPulse_marks s q)

theorem edge_atRest (c : Fin 16) (rising : Bool) : CellsAtRest (edge c rising s) := by
  have hpulsed (ch : Channel) (r : Role) (q : Nat) : CellsAtRest (ownerPulse r q (s.modChannel c fun _ => ch)) :=
    ownerPulse_atRest (h.modChannel c _) r q
  unfold edge selectedEdge
  split
  · exact h
  · split
    · exact h.modChannel c _
    · unfold acceptPulse
      dsimp only
      split
      · exact ownerRate_atRest (hpulsed _ _ _) _ _ _
      · exact hpulsed _ _ _

theorem limitBlock_atRest (c : Fin 16) : CellsAtRest (limitBlock c s) := by
  unfold limitBlock
  split
  · exact h
  · exact ownerRate_atRest (h.modChannel c _) _ _ _

theorem goStale_atRest (c : Fin 16) : CellsAtRest (goStale c s) :=
  ownerRate_atRest (h.modChannel c _) s.kept.channels[c].role 0 false

theorem startCycle_atRest (l : Fin 4) : CellsAtRest (startCycle l s) := by
  have hjudged : (judgeCycle l s).cells = s.cells := by
    unfold judgeCycle
    dsimp only
    split
    · split
      · split <;> simp
      · rfl
    · rfl
  exact h.of_cells hjudged

/-! ### Analyzer inputs -/

theorem toConsumer_atRest (a : Fin 5) (toCell : Fin 4 → State → State) (toSampler : State → State)
    (hcell : ∀ c, CellsAtRest (toCell c s)) (hsampler : (toSampler s).marks = s.marks) :
    CellsAtRest (toConsumer a toCell toSampler s) := by
  unfold toConsumer
  split
  · exact h.of_marks hsampler
  · split
    · exact h
    · exact hcell _

theorem handHoldExpired_atRest (a : Fin 5) : CellsAtRest (handHoldExpired a s) :=
  toConsumer_atRest h a _ _ (cellHoldExpired_atRest h) rfl

theorem handLeaving_atRest (a : Fin 5) : CellsAtRest (handLeaving a s) := by
  have hleft : CellsAtRest (handLeftValid a s) :=
    toConsumer_atRest h a _ _ (fun c => cellLeftValid_atRest h c _ _) (samplerLeftValid_marks s)
  unfold handLeaving
  split
  · exact handHoldExpired_atRest hleft a
  · exact hleft

theorem enterFaulty_atRest (a : Fin 5) (state : AnalyzerState) : CellsAtRest (enterFaulty a state s) := by
  unfold enterFaulty
  dsimp only
  split
  · exact (handLeaving_atRest (h.modAnalyzer a _) a).of_marks (latch_marks _ _)
  · exact (h.modAnalyzer a _).of_marks (latchIf_marks _ _ _)

theorem publish_atRest (a : Fin 5) : CellsAtRest (publish a s) := by
  have hhanded (x : State) (hx : CellsAtRest x) (value : Nat) : CellsAtRest (handPublished a value x) :=
    toConsumer_atRest hx a _ _ (fun _ => hx) (samplerPublished_marks x value)
  unfold publish
  dsimp only
  split
  · exact hhanded _ (h.modAnalyzer a _) _
  · have hpublished := h.modAnalyzer a
    exact hhanded _ (toConsumer_atRest (hpublished _) a _ _ (cellEnteredValid_atRest (hpublished _)) rfl) _

theorem takeResult_atRest (a : Fin 5) (r : PeriodResult) : CellsAtRest (takeResult a r s) := by
  have happended := h.modAnalyzer a
  unfold takeResult
  dsimp only
  split
  · exact publish_atRest (happended _) a
  · split
    · exact enterFaulty_atRest (happended _) a _
    · exact happended _
  · split
    · exact enterFaulty_atRest (happended _) a _
    · exact happended _

theorem risingEdge_atRest (a : Fin 5) : CellsAtRest (risingEdge a s) := by
  have hbegun := h.modAnalyzer a
  unfold risingEdge
  dsimp only
  split
  · exact hbegun _
  · split
    · exact hbegun _
    · exact takeResult_atRest (hbegun _) a _

theorem silent_atRest (a : Fin 5) : CellsAtRest (silent a s) :=
  enterFaulty_atRest (h.modAnalyzer a fun k => { k with record := [], silence := none }) a .lost

theorem holdRunsOut_atRest (a : Fin 5) : CellsAtRest (holdRunsOut a s) :=
  handHoldExpired_atRest (h.modAnalyzer a fun k => { k with held := none, hold := none }) a

theorem setAnalyzer_atRest (a : Fin 5) (k : AnalyzerSettings) : CellsAtRest (setAnalyzer a k s) := by
  have hwritten : CellsAtRest
      (emptyRecord a (s.modKept fun x => { x with analyzers := modAt x.analyzers a fun _ => k })) := h
  unfold setAnalyzer
  dsimp only
  split
  · exact hwritten
  · split
    · exact holdRunsOut_atRest hwritten a
    · exact hwritten.modAnalyzer a _

/-! ### Switches -/

theorem debounced_atRest (w : Switch) : CellsAtRest (debounced w s) := by
  have haccepted : CellsAtRest (accept w s) := h
  rw [debounced_eq]
  cases w with
  | tankLow t => exact haccepted.of_marks (tankLowChange_marks _ t _)
  | tankHigh t => exact haccepted.of_marks (tankHighChange_marks _ t _)
  | sumpLow => exact haccepted.of_marks (pumpJudge_marks _)
  | sumpHigh => exact haccepted.of_marks (sumpHighChange_marks _ _)
  | cellFlow c => exact cellFlowChange_atRest haccepted c _

theorem startingLevels_atRest : CellsAtRest (startingLevels s) := by
  have hflows (x : State) (hx : CellsAtRest x) :
      CellsAtRest ((List.finRange 4).foldl (fun s c => startingFlow c s) x) :=
    hx.foldl _ (fun _ c hy => startingFlow_atRest hy c) _
  have hsampled (x : State) (hx : x.cells = s.cells) : CellsAtRest (takeLevels x) :=
    (h.of_cells hx).of_marks (takeLevels_marks x)
  unfold startingLevels
  dsimp only
  refine (hflows _ (hsampled _ ?_)).of_marks (firstDecision_marks _)
  rfl

/-! ### The supply -/

theorem holdBlocks_atRest : CellsAtRest (holdBlocks s) := by
  obtain ⟨_, _, _, hblocks⟩ := holdBlocks_eq s
  rw [hblocks]
  exact holdCells_atRest h

theorem holdPath_atRest : CellsAtRest (holdPath s) := by
  have hback (how : Fin 3 → State → State) (hhow : ∀ t x, (how t x).marks = x.marks) (f g : Path → Path) :
      CellsAtRest (handBack how ((s.modPath f).modPath g)) :=
    CellsAtRest.of_marks (s := (s.modPath f).modPath g) h (handBack_marks _ how hhow)
  unfold holdPath
  dsimp only
  split
  · exact ((hback _ (fun t x => handBackReturned_marks x t) _ _).of_marks (orderWrite_marks _ _)).of_marks
      (pathEnds_marks _)
  · exact (hback _ (fun t x => handBackAbandoned_marks x t) _ _).of_marks (pathEnds_marks _)
  · exact CellsAtRest.of_marks (s := s.modPath _) h (pathEnds_marks _)
  · exact h

theorem enterHold_atRest : CellsAtRest (enterHold s) := by
  have hheld := holdBlocks_atRest h
  have hchosen : CellsAtRest (holdBlocks s).choose.2 := hheld
  have hends (x : State) (hx : CellsAtRest x) : CellsAtRest (latch .supplyLow (holdPath x)) :=
    (holdPath_atRest hx).of_marks (latch_marks _ _)
  unfold enterHold
  dsimp only
  split
  · exact hends _ (hchosen.of_marks (orderWrite_marks _ _))
  · split
    · exact (hends _ hchosen).of_marks (orderWrite_marks _ _)
    · exact (hends _ hheld).of_marks (orderWrite_marks _ _)

theorem judgeSupply_atRest : CellsAtRest (judgeSupply s) := by
  unfold judgeSupply
  split
  · split <;> exact h
  · split
    · exact enterHold_atRest h
    · exact h

theorem firstJudgement_atRest : CellsAtRest (firstJudgement s) := by
  unfold firstJudgement
  split
  · exact (holdPath_atRest (holdBlocks_atRest h)).of_marks (latch_marks _ _)
  · exact h

omit h in
theorem recoverLoops_cells (s : State) : (recoverLoops s).cells = s.cells :=
  foldl_keeps _ State.cells (fun s l => by unfold recoverLoop retargetIfActive; split <;> rfl) _ s

omit h in
theorem recoverTanks_cells (s : State) : (recoverTanks s).cells = s.cells := by
  unfold recoverTanks recoverSampler
  rw [cells_of_marks (samplerTest_marks _)]
  exact pumpJudge_cells _

omit h in
theorem recoverPath_cells (s : State) : (recoverPath s).cells = s.cells :=
  occasion_cells _

theorem recover_atRest : CellsAtRest (recover s) := by
  have hcells (x : State) (hx : x.cells = s.cells) : CellsAtRest (recoverCells x) :=
    recoverCells_atRest (h.of_cells hx)
  unfold recover
  refine (((hcells _ ?_).of_cells (recoverLoops_cells _)).of_cells (recoverTanks_cells _)).of_cells
    (recoverPath_cells _)
  rfl

omit h in
theorem lost_atRest (s : State) : CellsAtRest (lost s) :=
  cellsAtRest_iff.mpr fun c => by
    rw [lost_cell]
    exact Cell.atStart_atRest _ _

omit h in
theorem beginStartUp_atRest (sel1 sel0 : Bool) (s : State) : CellsAtRest (beginStartUp sel1 sel0 s) := by
  unfold beginStartUp
  dsimp only
  split <;> exact lost_atRest s

theorem supplyAt_atRest (level : Nat) : CellsAtRest (supplyAt level s) := by
  let taken : State := { s with supply := { s.supply with level := level } }
  have htaken : CellsAtRest taken := h
  unfold supplyAt
  dsimp only
  split
  · exact lost_atRest taken
  · split
    · exact judgeSupply_atRest htaken
    · exact htaken

omit h in
theorem latchResults_marks (s : State) : (latchResults s).marks = s.marks := by
  simp [latchResults]

omit h in
theorem latchStanding_marks (s : State) : (latchStanding s).marks = s.marks := by
  simp [latchStanding]

omit h in
theorem checkRestored_marks (s : State) : (checkRestored s).marks = s.marks := by
  have hchecked := digestCheck_marks s occasion occasion_marks
  unfold checkRestored
  dsimp only
  split
  · exact hchecked
  · rw [activate_marks _ occasion occasion_marks, hchecked]

omit h in
theorem latchCap_marks (s : State) : (latchCap s).marks = s.marks := by
  unfold latchCap; split <;> simp

omit h in
theorem blocksAtStart_cell (k : Kept) (s : State) (c : Fin 4) :
    (blocksAtStart k s).cells[c] = Cell.atStart k.cells[c] s.now := by
  simp [blocksAtStart]

omit h in
/-- The blocks begin with every cell OFF, and autostart enters PRIMING. -/
theorem endSelfTest_atRest (memoryGood storeReadable imageMatches : Bool) (s : State) :
    CellsAtRest (endSelfTest memoryGood storeReadable imageMatches s) := by
  have hjudged (k : Kept) (x : State) : CellsAtRest (firstJudgement (latchResults (blocksAtStart k x))) := by
    have hbegun : CellsAtRest (blocksAtStart k x) := cellsAtRest_iff.mpr fun c => by
      rw [blocksAtStart_cell]
      exact Cell.atStart_atRest _ _
    exact firstJudgement_atRest (hbegun.of_marks (latchResults_marks _))
  unfold endSelfTest startFrom
  dsimp only
  refine CellsAtRest.foldl ?_ _ (fun _ c hx => autostart_atRest hx c) _
  exact (((hjudged _ _).of_marks (latchStanding_marks _)).of_marks (checkRestored_marks _)).of_marks (latchCap_marks _)

theorem endRestore_atRest : CellsAtRest (endRestore s) := by
  have hrestored : CellsAtRest s.restored := h
  rw [endRestore_eq]
  split
  · exact hrestored
  · exact firstJudgement_atRest hrestored

end

end Sys2Proof.Machine
end

section
/-! PROOF of O5, third part. Every request and every command keeps the cells at rest. -/

namespace Sys2Proof.Machine

open Sys2Proof

/-! ### Requests that leave the marks -/

section
variable (s : State)

theorem serveSetFilmType_marks (entry load : Nat) : (serveSetFilmType entry load s).2.marks = s.marks := by
  unfold serveSetFilmType
  split
  · rfl
  · split <;> rfl

theorem serveSetTank_marks (f : TankFields) : (serveSetTank f s).2.marks = s.marks := by
  unfold serveSetTank
  split
  · rfl
  · split
    · split <;> rfl
    · rfl

theorem serveSetPermit_marks (f : PermitFields) : (serveSetPermit f s).2.marks = s.marks := by
  unfold serveSetPermit
  split
  · dsimp only
    split
    · rfl
    · exact activate_marks (s.modKept _) occasion occasion_marks
  · rfl

theorem serveSetClock_marks (dayCount second : Nat) : (serveSetClock dayCount second s).2.marks = s.marks := by
  have hset (x : State) : (clockWasSet x).marks = x.marks :=
    (occasion_marks _).trans (judgeWindow_marks x occasion occasion_marks)
  have hstarted : (startClock dayCount second s).marks = s.marks := rfl
  unfold serveSetClock
  split
  · dsimp only [okWith]
    split
    · exact (hset _).trans hstarted
    · split
      · rfl
      · split
        · exact (hset _).trans hstarted
        · exact (hset _).trans ((rollover_marks _ _).trans hstarted)
  · rfl

theorem serveSetAlertMask_marks (enables : Vector Nat 16) : (serveSetAlertMask enables s).2.marks = s.marks := by
  unfold serveSetAlertMask
  split <;> rfl

theorem serveSetNoticeMask_marks (enables : Vector Nat 33) : (serveSetNoticeMask enables s).2.marks = s.marks := by
  unfold serveSetNoticeMask
  split <;> rfl

theorem serveCloseLot_marks : (serveCloseLot s).2.marks = s.marks := by
  unfold serveCloseLot
  split
  · split
    · rfl
    · split
      · rfl
      · split
        · rfl
        · dsimp only [okWith]
          exact closeLot_marks s _ false
  · rfl

/-- A request on a lot number leaves the marks when what it does with the lot leaves them. -/
theorem onLot_marks {n : Nat} {f : Fin 3 → Lot → Served} (hf : ∀ t l, (f t l).2.marks = s.marks) :
    (onLot n s f).2.marks = s.marks :=
  onLot_cases s (fun x => x.marks = s.marks) rfl hf

theorem serveHoldLot_marks (n : Nat) : (serveHoldLot n s).2.marks = s.marks :=
  onLot_marks s fun t l => by
    split
    · rfl
    · exact stopLot_marks s t _ _

theorem serveReturnLot_marks (n : Nat) : (serveReturnLot n s).2.marks = s.marks :=
  onLot_marks s fun t l => by
    split
    · rfl
    · exact (samplerTest_marks _).trans (enterSampleWait_marks _ t)

theorem servePolishLot_marks (n : Nat) : (servePolishLot n s).2.marks = s.marks :=
  onLot_marks s fun t l => by
    split
    · rfl
    · exact (occasion_marks _).trans (enterPolishWait_marks _ t)

theorem serveDeclareHauled_marks (n : Nat) : (serveDeclareHauled n s).2.marks = s.marks :=
  onLot_marks s fun t l => by
    split
    · rfl
    · dsimp only [okWith, haul]
      split
      · exact leaveTable_marks (s.modAccounts _) _ _ _ _
      · rw [fillSelection_marks, modTank_marks]
        exact leaveTable_marks (s.modAccounts _) _ _ _ _

theorem serveReturnTank_marks (tank : Nat) : (serveReturnTank tank s).2.marks = s.marks := by
  unfold serveReturnTank
  split
  · rfl
  next t _ =>
    split
    · split
      · exact (fillSelection_marks _).trans (modTank_marks s t _)
      · rfl
    · rfl

theorem serveInstallCartridge_marks (serial capacity : Nat) :
    (serveInstallCartridge serial capacity s).2.marks = s.marks := by
  unfold serveInstallCartridge trainJudged
  split
  · split
    · rfl
    · exact (occasion_marks _).trans (latchIf_marks ((s.modKept _).modKept _) _ _)
  · rfl

theorem serveRemoveCartridge_marks (serial : Nat) : (serveRemoveCartridge serial s).2.marks = s.marks := by
  unfold serveRemoveCartridge
  split
  · split
    · rfl
    · split <;> rfl
  · rfl

theorem serveSetDischargeEnable_marks (enable : Nat) : (serveSetDischargeEnable enable s).2.marks = s.marks := by
  unfold serveSetDischargeEnable
  split
  · split
    · rfl
    · exact (occasion_marks _).trans (withPermit_marks s _)
  · split
    · split
      · exact (interruptDischarge_marks _ _).trans (withPermit_marks s _)
      · rfl
    · rfl

theorem serveClearAlert_marks (kind inst : Nat) : (serveClearAlert kind inst s).2.marks = s.marks := by
  have hcleared (x : State) (f : Flag) : (clearNamed f x).marks = x.marks := by
    unfold clearNamed; split <;> rfl
  unfold serveClearAlert
  split
  · rfl
  · exact foldl_keeps _ State.marks hcleared _ s

/-! ### Requests on lines, cells and inputs -/

theorem loopTakesLine_cells (l : Fin 4) (old : LineSettings) : (loopTakesLine l old s).cells = s.cells := by
  have hactive (x : State) : (retargetIfActive l x).cells = x.cells := by
    unfold retargetIfActive; split <;> rfl
  have hswitched : (if old.enabled && !s.kept.lines[l].enabled then washOff l s
      else if !old.enabled && s.kept.lines[l].enabled then
        if s.lines[l].filmMoving then washRun l s else washIdle l s
      else s).cells = s.cells := by
    split
    · rfl
    · split
      · split <;> rfl
      · rfl
  unfold loopTakesLine
  dsimp only
  rw [hactive]
  split
  · split
    · exact hswitched
    · split <;> exact hswitched
  · exact hswitched

theorem rebind_cells (c : Fin 16) (k : ChannelSettings) : (rebind c k s).cells = s.cells := by
  obtain ⟨_, _, h⟩ := rebind_lines s c k
  rw [h]; rfl

end

section
variable {s : State} (h : CellsAtRest s)
include h

theorem serveSetLine_atRest (f : LineFields) : CellsAtRest (serveSetLine f s).2 := by
  unfold serveSetLine
  split
  · exact h
  · split
    · exact h.of_cells (loopTakesLine_cells (s.modKept _) _ _)
    · exact h

theorem serveSetCell_atRest (f : CellFields) : CellsAtRest (serveSetCell f s).2 := by
  unfold serveSetCell
  split
  · exact h
  · split
    · split
      · exact h
      · split
        · exact h
        · exact cellTakes_atRest h _ _
    · exact h

theorem serveSetChannel_atRest (f : ChannelFields) : CellsAtRest (serveSetChannel f s).2 := by
  unfold serveSetChannel
  split
  · exact h
  next c _ =>
    split
    · split
      · exact h
      · split
        · exact h
        · exact h.of_cells (rebind_cells s c _)
    · exact h

theorem serveSetAnalyzer_atRest (f : AnalyzerFields) : CellsAtRest (serveSetAnalyzer f s).2 := by
  unfold serveSetAnalyzer
  split
  · exact h
  · split
    · split
      · exact h
      · exact setAnalyzer_atRest h _ _
    · exact h

theorem serveSetPlant_atRest (f : PlantSettings) : CellsAtRest (serveSetPlant f s).2 := by
  have hjudged : CellsAtRest (judgeTrain f.exhaustPercent (s.modKept fun k => { k with plant := f })) :=
    h.of_marks (latchIf_marks ((s.modKept _).modKept _) _ _)
  unfold serveSetPlant
  split
  · dsimp only [ok, okWith]
    split
    · exact hjudged
    · exact judgeSupply_atRest hjudged
  · exact h

theorem serveStartCell_atRest (cell : Nat) : CellsAtRest (serveStartCell cell s).2 := by
  unfold serveStartCell
  split
  · exact h
  next c _ =>
    split
    · split
      · exact enterPriming_atRest h c
      · exact h
    all_goals exact h

/-- A cell goes OFF, from PRIMING or a driven state, or out of FAULT. -/
theorem stopCell_atRest (c : Fin 4) (fault : Cell → Option CellFault) :
    CellsAtRest (s.modCell c fun k => { k.stopped s.now with state := .off, fault := fault k }) :=
  h.modCell c fun _ => Cell.atRest_of_idle rfl rfl rfl

theorem serveStopCell_atRest (cell : Nat) : CellsAtRest (serveStopCell cell s).2 := by
  unfold serveStopCell
  split
  · exact h
  next c _ =>
    split
    · exact h
    · exact h
    all_goals exact stopCell_atRest h c Cell.fault

theorem serveClearCellFault_atRest (cell : Nat) : CellsAtRest (serveClearCellFault cell s).2 := by
  unfold serveClearCellFault
  split
  · exact h
  next c _ =>
    split
    · exact stopCell_atRest h c fun _ => none
    · exact h

theorem serveFactoryReset_atRest : CellsAtRest (serveFactoryReset s).2 := by
  have hchannels : CellsAtRest (defaultChannels s) :=
    h.foldl _ (fun x c hx => hx.of_cells (rebind_cells x c _)) _
  have hanalyzers : CellsAtRest (defaultInputs s) :=
    hchannels.foldl _ (fun _ a hx => setAnalyzer_atRest hx a _) _
  have hlines (x : State) : (defaultLines x).cells = x.cells :=
    (foldl_keeps _ State.cells (fun x l => by rw [loopOff_loops]) _ _).trans rfl
  have hcells : CellsAtRest (defaultCells (defaultLines (defaultInputs s))) :=
    (hanalyzers.of_cells (hlines _)).foldl _ (fun _ c hx => cellTakes_atRest hx c _) _
  have hjudged (x : State) (hx : CellsAtRest x) : CellsAtRest (judgeSupply (judgeAlert (x.modKept defaultKept))) :=
    judgeSupply_atRest (s := judgeAlert (x.modKept defaultKept)) hx
  unfold serveFactoryReset resetToDefaults
  split
  · dsimp only [ok, okWith]
    exact (hjudged _ hcells).of_marks (orderWrite_marks _ _)
  · exact h

/-- Serving a request keeps the cells at rest. -/
theorem serveEntry_atRest (r : Request) : CellsAtRest (serveEntry r s).2 := by
  cases r with
  | setLine f => exact serveSetLine_atRest h f
  | setFilmType entry load => exact h.of_marks (serveSetFilmType_marks s entry load)
  | setCell f => exact serveSetCell_atRest h f
  | setChannel f => exact serveSetChannel_atRest h f
  | setAnalyzer f => exact serveSetAnalyzer_atRest h f
  | setTank f => exact h.of_marks (serveSetTank_marks s f)
  | setPlant f => exact serveSetPlant_atRest h f
  | setPermit f => exact h.of_marks (serveSetPermit_marks s f)
  | setClock dayCount second => exact h.of_marks (serveSetClock_marks s dayCount second)
  | setAlertMask enables => exact h.of_marks (serveSetAlertMask_marks s enables)
  | setNoticeMask enables => exact h.of_marks (serveSetNoticeMask_marks s enables)
  | startCell cell => exact serveStartCell_atRest h cell
  | stopCell cell => exact serveStopCell_atRest h cell
  | clearCellFault cell => exact serveClearCellFault_atRest h cell
  | closeLot => exact h.of_marks (serveCloseLot_marks s)
  | holdLot n => exact h.of_marks (serveHoldLot_marks s n)
  | returnLot n => exact h.of_marks (serveReturnLot_marks s n)
  | polishLot n => exact h.of_marks (servePolishLot_marks s n)
  | declareHauled n => exact h.of_marks (serveDeclareHauled_marks s n)
  | returnTank tank => exact h.of_marks (serveReturnTank_marks s tank)
  | installCartridge serial capacity => exact h.of_marks (serveInstallCartridge_marks s serial capacity)
  | removeCartridge serial => exact h.of_marks (serveRemoveCartridge_marks s serial)
  | setDischargeEnable enable => exact h.of_marks (serveSetDischargeEnable_marks s enable)
  | clearAlert kind inst => exact h.of_marks (serveClearAlert_marks s kind inst)
  | factoryReset => exact serveFactoryReset_atRest h
  | readLine line => simp only [serveEntry, serveReadLine]; split <;> exact h
  | readCell cell => simp only [serveEntry, serveReadCell]; split <;> exact h
  | _ => exact h

end

/-! ### Every command -/

theorem atRest_linkKeeps : LinkKeeps CellsAtRest where
  link _ _ _ h := h
  latched f s h := h.of_marks (latch_marks s f)
  served r _ h := serveEntry_atRest h r

section
variable {s t : State}

theorem whenAwake_atRest (h : CellsAtRest s) {f : State → State} (hf : CellsAtRest (f s)) :
    CellsAtRest (whenAwake s f) := by
  unfold whenAwake
  split
  · exact hf
  · exact h

/-- An event of a timer has its effect when the timer runs. -/
theorem whenDue_atRest (h : CellsAtRest s) (timer : Option Timer) {f : State → State}
    (hf : timer ≠ none → CellsAtRest (f s)) : CellsAtRest (whenDue timer s f) := by
  unfold whenDue
  split
  next hdue =>
    refine hf fun hnone => ?_
    rw [hnone, timerDue_none, Bool.and_false] at hdue
    cases hdue
  · exact h

/-- A cell whose control timer runs is driven and free of a hold mark, so its tick finds it so. -/
theorem controlTick_atRest (h : CellsAtRest s) (c : Fin 4) (hc : s.cells[c].control ≠ none) :
    CellsAtRest (tickAndRestart c s) := by
  obtain ⟨hdriven, hhold⟩ := (cellsAtRest_iff.mp h c).awake (.inr hc)
  exact tickAndRestart_atRest h c hdriven hhold

/-- Every command keeps the cells at rest. -/
theorem exec_atRest (h : CellsAtRest s) (i : Instr) (ht : exec i s = .next t) : CellsAtRest t := by
  have later (dt : Micros) : CellsAtRest (s.after dt) := h
  have awake (dt : Micros) {f : State → State} (hf : CellsAtRest (f (s.after dt))) :
      CellsAtRest (whenAwake (s.after dt) f) := whenAwake_atRest (later dt) hf
  have due (dt : Micros) (timer : Option Timer) {f : State → State} (hf : CellsAtRest (f (s.after dt))) :
      CellsAtRest (whenDue timer (s.after dt) f) := whenDue_atRest (later dt) timer fun _ => hf
  have marked (dt : Micros) (timer : Option Timer) {f : State → State} (hf : ∀ x, (f x).marks = x.marks) :
      CellsAtRest (whenDue timer (s.after dt) f) := due dt timer ((later dt).of_marks (hf _))
  have request (dt : Micros) (kind tag : Byte) (r : Request) : CellsAtRest (hostRequest dt kind tag r s) :=
    awake dt (offerFrame_keeps atRest_linkKeeps (later dt) kind tag r)
  cases i with
  | pulseEdge dt c rising => cases ht; exact awake dt (edge_atRest (later dt) c rising)
  | blockTimeLimit dt c =>
    cases ht
    split
    · exact limitBlock_atRest (later dt) c
    · exact later dt
  | channelStale dt c => cases ht; exact due dt _ (goStale_atRest (later dt) c)
  | analyzerFallingEdge dt a => cases ht; exact awake dt ((later dt).modAnalyzer a _)
  | analyzerRisingEdge dt a => cases ht; exact awake dt (risingEdge_atRest (later dt) a)
  | analyzerSilence dt a => cases ht; exact due dt _ (silent_atRest (later dt) a)
  | analyzerHoldExpired dt a => cases ht; exact due dt _ (holdRunsOut_atRest (later dt) a)
  | switchPinChange dt w covered => cases ht; exact h
  | debounceExpired dt w => cases ht; exact due dt _ (debounced_atRest (later dt) w)
  | switchStartingLevels dt => cases ht; exact due dt _ (startingLevels_atRest (later dt))
  | cellPrimingTimeout dt c => cases ht; exact due dt _ (cellFaulted_atRest (later dt) c _)
  | cellControlTick dt c => cases ht; exact whenDue_atRest (later dt) _ (controlTick_atRest (later dt) c)
  | cellPwmPeriodStart dt c => cases ht; exact due dt _ ((later dt).modCell c fun hc => hc.periodStart _)
  | washCycleStart dt l => cases ht; exact due dt _ (startCycle_atRest (later dt) l)
  | washStopTimeout dt l => cases ht; exact due dt _ (later dt)
  | maxFillTimeout dt t => cases ht; exact marked dt _ fun x => maxFillExpired_marks x t
  | sumpBackupDelay dt => cases ht; exact marked dt _ backupArises_marks
  | settleTimerExpired dt t => cases ht; exact marked dt _ fun x => settleExpired_marks x t
  | sampleFlushEnd dt => cases ht; exact marked dt _ flushEnds_marks
  | sampleWindowEnd dt => cases ht; exact marked dt _ windowEnds_marks
  | permitCheckTimer dt => cases ht; exact marked dt _ checkExpired_marks
  | clockSecond dt =>
    cases ht
    split
    · exact (later dt).of_marks (clockAdvance_marks _)
    · exact later dt
  | drainTimerExpired dt => cases ht; exact marked dt _ drainTimedOut_marks
  | closingTimerExpired dt => cases ht; exact marked dt _ closingExpired_marks
  | linkCharacter dt b framingError =>
    cases ht; exact awake dt (takeCharacter_keeps atRest_linkKeeps (later dt) b framingError)
  | linkGapTimeout dt => cases ht; exact due dt _ (damage_keeps atRest_linkKeeps (later dt) _ _)
  | outboundFrameSent dt => cases ht; exact awake dt (frameSent_keeps atRest_linkKeeps (later dt))
  | supplyFall dt level => cases ht; exact supplyAt_atRest (later dt) level
  | supplyRise dt level => cases ht; exact supplyAt_atRest (later dt) level
  | supplyRecovery dt => cases ht; exact due dt _ (recover_atRest (later dt))
  | supplyBelowReset dt level => cases ht; exact lost_atRest _
  | resetPin dt sel1 sel0 => cases ht; exact beginStartUp_atRest sel1 sel0 _
  | powerOn dt level sel1 sel0 => cases ht; exact beginStartUp_atRest sel1 sel0 _
  | selfTestEnd dt memoryGood storeReadable imageMatches =>
    cases ht
    split
    · exact endSelfTest_atRest _ _ _ _
    · exact later dt
  | imageWriteComplete dt =>
    cases ht
    have hwritten (x : State) : (completeWrite x).cells = x.cells := by
      unfold completeWrite
      split
      · rfl
      · dsimp only; split <;> rfl
    exact awake dt ((later dt).of_cells (hwritten _))
  | resetPinLow dt => cases ht; exact lost_atRest _
  | permitMemoryFault dt p digest =>
    cases ht
    have haltered (x : State) : (permitAltered p digest x).cells = x.cells := by
      unfold permitAltered; split <;> rfl
    exact awake dt ((later dt).of_cells (haltered _))
  | restoreEnd dt =>
    cases ht
    split
    · exact settle_keeps atRest_linkKeeps (endRestore_atRest (later dt)) _ _
    · exact later dt
  | _ => cases ht; exact request _ _ _ _

/-- So does every step. -/
theorem step_atRest (h : CellsAtRest s) (ht : step s = .next t) : CellsAtRest t := by
  unfold step at ht
  split at ht
  · cases ht; exact h
  next c rest _ => exact exec_atRest (s := { s with pending := rest }) h c ht

end

end Sys2Proof.Machine

namespace Sys2Proof.Settled

open Sys2Proof Sys2Proof.Machine

/-- Settles O5: only a driven cell outside a hold gains a duty or a control timer, and whatever takes a cell out of that
takes them away. -/
theorem cellsAtRestKept : Obligations.CellsAtRestKept :=
  fun _ _ h ht => step_atRest h ht

end Sys2Proof.Settled
end

section
/-! PROOFS of O24 and O33. SET CELL, and the start of a PWM period (R37, R53). -/

namespace Sys2Proof.Machine

open Sys2Proof

theorem State.modCell_congr {s : State} {c : Fin 4} {f g : Cell → Cell} (h : f s.cells[c] = g s.cells[c]) :
    s.modCell c f = s.modCell c g := by
  simp only [State.modCell, modAt, h]

theorem State.modCell_same (s : State) (c : Fin 4) (f : Cell → Cell) : (s.modCell c f).cells[c] = f s.cells[c] :=
  modAt_same s.cells c f

/-! ### SET CELL (R37) -/

/-- A line is taken when another cell holds it. -/
theorem lineTaken_iff (s : State) (c : Fin 4) (line : Option (Fin 4)) :
    s.lineTaken c line = true ↔ ∃ d : Fin 4, d ≠ c ∧ line.isSome = true ∧ s.kept.cells[d].line = line := by
  simp only [State.lineTaken, Bool.and_eq_true, List.any_eq_true, List.mem_finRange, true_and, decide_eq_true_eq]
  exact ⟨fun ⟨hbound, d, hd, hl⟩ => ⟨d, hd, hbound, hl⟩, fun ⟨d, hd, hbound, hl⟩ => ⟨hbound, d, hd, hl⟩⟩

/-- The entry acts on a stopped cell whose line no other cell holds. -/
theorem serveSetCell_eq {f : CellFields} {c : Fin 4} (s : State) (hc : f.cell = c.val + 1) (hf : f.inRange = true) :
    serveSetCell f s =
      if ¬(s.cells[c].state = .off ∨ s.cells[c].state = .fault) ∨ s.lineTaken c f.settings.line = true then wrongState s
      else ok (cellTakes c f.settings s) := by
  simp only [serveSetCell, hc, numbered_succ, hf, if_true, not_or]
  rw [ite_or]

theorem cellTakes_withLink (c : Fin 4) (k : CellSettings) (s : State) (l : Link) :
    cellTakes c k { s with link := l } = { cellTakes c k s with link := l } := by
  unfold cellTakes
  by_cases h : s.kept.cells[c].line = k.line
  · exact (if_pos h).trans (by rw [if_pos h]; rfl)
  · exact (if_neg h).trans (by rw [if_neg h]; rfl)

theorem cellTakes_sameLine {c : Fin 4} {k : CellSettings} {s : State} (h : s.kept.cells[c].line = k.line) :
    cellTakes c k s = { s with kept := { s.kept with cells := s.kept.cells.set c.val k } } :=
  if_pos h

theorem cellTakes_newLine {c : Fin 4} {k : CellSettings} {s : State} (h : s.kept.cells[c].line ≠ k.line) :
    cellTakes c k s =
      State.modCell { s with kept := { s.kept with cells := s.kept.cells.set c.val k } } c
        fun x => { x with view := s.viewOf k.line } :=
  if_neg h

/-! ### The start of a PWM period (R53) -/

theorem Cell.periodStart_unstaged {k : Cell} (h : k.staged = none) (pwm : Timer) :
    k.periodStart pwm = { k with pwm := pwm } := by
  unfold Cell.periodStart
  split
  · rfl
  next hd => rw [h] at hd; cases hd

theorem Cell.periodStart_staged {k : Cell} {d : StagedDuty} (h : k.staged = some d) (pwm : Timer) :
    k.periodStart pwm =
      { k with
        pwm := pwm, staged := none, appliedDuty := d.duty, appliedTarget := d.target
        appliedSince := if d.duty = k.appliedDuty then k.appliedSince else pwm.start } := by
  unfold Cell.periodStart
  rw [h]

theorem execCellPwmPeriodStart_eq {dt : Micros} {s : State} {c : Fin 4} (hawake : s.awake = true)
    (hdue : s.cells[c].pwm.due (s.now + dt) = true) :
    exec (.cellPwmPeriodStart dt c) s = .next (pwmPeriod c (s.after dt)) :=
  congrArg Host.Outcome.next (whenDue_of (s := s.after dt) (t := some s.cells[c].pwm) hawake hdue (pwmPeriod c))

end Sys2Proof.Machine

namespace Sys2Proof.Settled

open Sys2Proof Sys2Proof.Machine

/-- Settles O24: the two checks are those of the entry, and the view is written where the line changes. -/
theorem cellSet : Obligations.CellSet := by
  intro dt tag s c f ready hc hf line stopped shared written
  have hh := passesHold (r := .setCell f) s rfl
  have hs := serveSetCell_eq (serving dt (Request.kind (.setCell f)) s) hc hf
  have hshared : s.lineTaken c line = true ↔ shared := lineTaken_iff s c line
  have acts (hstop : stopped) (hfree : ¬shared) :=
    hostRequest_acts dt tag (.setCell f) s .empty (cellTakes c f.settings) ready rfl hh
      (hs.trans (if_neg (not_or.mpr ⟨not_not.mpr hstop, fun h => hfree (hshared.mp h)⟩)))
      (cellTakes_withLink c f.settings (s.after dt))
  refine ⟨fun bad => ?_, fun hstop hfree hline => ?_, fun hstop hfree hline => ?_⟩
  · have hbad : ¬stopped ∨ s.lineTaken c line = true := bad.imp_right hshared.mpr
    exact congrArg _ (hostRequest_refused dt tag (.setCell f) s _ ready rfl hh (hs.trans (if_pos hbad)))
  · have hanswer := acts hstop hfree
    rw [cellTakes_sameLine (s := s.after dt) hline] at hanswer
    exact congrArg _ hanswer
  · have hanswer := acts hstop hfree
    rw [cellTakes_newLine (s := s.after dt) hline] at hanswer
    exact congrArg _ hanswer

/-- Settles O33: a staged duty is applied, and an unstaged period starts as the last one was. -/
theorem pwmPeriodStart : Obligations.PwmPeriodStart := by
  intro dt s c awake due start next
  rw [execCellPwmPeriodStart_eq awake due]
  exact ⟨fun hnone => congrArg Host.Outcome.next (State.modCell_congr (Cell.periodStart_unstaged hnone _)),
    fun d hd => congrArg Host.Outcome.next (State.modCell_congr (Cell.periodStart_staged hd _))⟩

end Sys2Proof.Settled
end

section
/-! SUPPORT. The control tick: what its check finds, what a tick that faults and a tick that finishes leave (R49 to R52,
R55 to R57), and when a PRIMING cell goes on to its first tick (R40). -/

namespace Sys2Proof.Machine

open Sys2Proof

/-! ### The check (R56, R57) -/

section
variable {s : State} {c : Fin 4}

theorem tickCheck_overcurrent (h : s.kept.cells[c].iMax * 110 / 100 < s.measuredCurrent c) :
    tickCheck s c = .overcurrent := if_pos h

variable (hmost : s.measuredCurrent c ≤ s.kept.cells[c].iMax * 110 / 100)
include hmost

/-- The applied duty has not been in force for a full PWM period. -/
theorem tickCheck_skipped (h : s.now < s.cells[c].appliedSince + s.kept.cells[c].pwmPeriod * ms) :
    tickCheck s c = .skipped :=
  (if_neg (Nat.not_lt.mpr hmost)).trans (if_pos h)

variable (hsince : s.cells[c].appliedSince + s.kept.cells[c].pwmPeriod * ms ≤ s.now)
include hsince

theorem tickCheck_mismatch
    (h : s.cells[c].appliedTarget + s.kept.cells[c].iFs / 10 < s.measuredCurrent c ∨
      s.measuredCurrent c + s.kept.cells[c].iFs / 10 < s.cells[c].appliedTarget) : tickCheck s c = .mismatch := by
  have hgap : s.kept.cells[c].iFs / 10 < currentGap (s.measuredCurrent c) s.cells[c].appliedTarget := by
    unfold currentGap; omega
  exact (if_neg (Nat.not_lt.mpr hmost)).trans ((if_neg (Nat.not_lt.mpr hsince)).trans (if_pos hgap))

theorem tickCheck_pass
    (h : s.measuredCurrent c ≤ s.cells[c].appliedTarget + s.kept.cells[c].iFs / 10 ∧
      s.cells[c].appliedTarget ≤ s.measuredCurrent c + s.kept.cells[c].iFs / 10) : tickCheck s c = .pass := by
  have hgap : ¬s.kept.cells[c].iFs / 10 < currentGap (s.measuredCurrent c) s.cells[c].appliedTarget := by
    unfold currentGap; omega
  exact (if_neg (Nat.not_lt.mpr hmost)).trans ((if_neg (Nat.not_lt.mpr hsince)).trans (if_neg hgap))

end

/-! ### A tick with its control timer restarted (R49) -/

/-- The state on which the tick of an expired control timer is taken. -/
def restarted (c : Fin 4) (s : State) : State :=
  s.modCell c fun k => { k with control := some (s.timer (s.kept.cells[c].interval * sec)) }

theorem tickAndRestart_eq (c : Fin 4) (s : State) : tickAndRestart c s = cellTick c (restarted c s) := rfl

section
variable (s : State) (c : Fin 4)

theorem restarted_cell : (restarted c s).cells[c] =
    { s.cells[c] with control := some (s.timer (s.kept.cells[c].interval * sec)) } :=
  State.modCell_same s c _

/-- Neither the check nor the computed figures read the control timer. -/
theorem tickCheck_restarted : tickCheck (restarted c s) c = tickCheck s c := by
  unfold tickCheck
  rw [restarted_cell]
  rfl

theorem tickOutcome_restarted : tickOutcome (restarted c s) c = tickOutcome s c := by
  unfold tickOutcome
  rw [restarted_cell]
  rfl

theorem tickRecord_restarted (outcome : Option TickOutcome) :
    tickRecord (restarted c s) c outcome = tickRecord s c outcome := by
  unfold tickRecord
  rw [restarted_cell, tickCheck_restarted]
  rfl

/-- A tick that ends in FAULT, its record written before (R47, R50). -/
theorem restarted_faults (reason : CellFault) :
    cellFaulted c reason ((restarted c s).modCell c fun k => { k with lastTick := some (faultTick (restarted c s) c) }) =
      latch (.cellFault c) (s.modCell c fun k =>
        { k.stopped s.now with
          state := .fault, fault := some reason, lastTick := some (tickRecord s c none) }) := by
  rw [faultTick, tickRecord_restarted, cellFaulted, restarted, State.modCell_twice, State.modCell_twice]
  rfl

/-- A tick that finishes, with the mismatch count that its check left (R50). -/
theorem finishTick_restarted (n : Nat) :
    finishTick c n (restarted c s) = s.modCell c fun k =>
      { k with
        state := (tickOutcome s c).state, target := (tickOutcome s c).target, limit := (tickOutcome s c).limit
        mismatch := n, staged := some { duty := (tickOutcome s c).duty, target := (tickOutcome s c).target }
        control := some (s.timer (s.kept.cells[c].interval * sec))
        lastTick := some (tickRecord s c (some (tickOutcome s c))) } := by
  rw [finishTick, tickOutcome_restarted, tickRecord_restarted, restarted, State.modCell_twice]

end

section
variable {s : State} {c : Fin 4}

theorem tickAndRestart_overcurrent (h : tickCheck s c = .overcurrent) :
    tickAndRestart c s = latch (.cellFault c) (s.modCell c fun k =>
      { k.stopped s.now with
        state := .fault, fault := some .overcurrent, lastTick := some (tickRecord s c none) }) := by
  rw [tickAndRestart_eq, cellTick, tickCheck_restarted, h]
  exact restarted_faults s c .overcurrent

/-- The third mismatch in a row faults the cell (R57). -/
theorem tickAndRestart_thirdMismatch (h : tickCheck s c = .mismatch) (hn : 2 ≤ s.cells[c].mismatch) :
    tickAndRestart c s = latch (.cellFault c) (s.modCell c fun k =>
      { k.stopped s.now with
        state := .fault, fault := some .driveMismatch, lastTick := some (tickRecord s c none) }) := by
  rw [tickAndRestart_eq, cellTick, tickCheck_restarted, h]
  dsimp only
  rw [restarted_cell, if_pos (show 3 ≤ s.cells[c].mismatch + 1 by omega)]
  exact restarted_faults s c .driveMismatch

theorem tickAndRestart_mismatch (h : tickCheck s c = .mismatch) (hn : s.cells[c].mismatch < 2) :
    tickAndRestart c s = finishTick c (s.cells[c].mismatch + 1) (restarted c s) := by
  rw [tickAndRestart_eq, cellTick, tickCheck_restarted, h]
  dsimp only
  rw [restarted_cell, if_neg (show ¬3 ≤ s.cells[c].mismatch + 1 by omega)]

theorem tickAndRestart_pass (h : tickCheck s c = .pass) : tickAndRestart c s = finishTick c 0 (restarted c s) := by
  rw [tickAndRestart_eq, cellTick, tickCheck_restarted, h]

theorem tickAndRestart_skipped (h : tickCheck s c = .skipped) :
    tickAndRestart c s = finishTick c s.cells[c].mismatch (restarted c s) := by
  rw [tickAndRestart_eq, cellTick, tickCheck_restarted, h]
  dsimp only
  rw [restarted_cell]

/-! ### What a tick computes (R43, R50 to R52) -/

/-- The state that step 3 of a tick leaves: a HOLDING or STANDBY cell whose analyzer is VALID regulates again (R43). -/
def State.tickState (s : State) (c : Fin 4) : CellState :=
  if (s.cells[c].state = .holding || s.cells[c].state = .standby) && s.cells[c].view.state = .valid then .regulating
  else s.cells[c].state

/-- The target computation's figures of a cell, from its demand and its concentration in whole mg/L; an absent reading
counts as 0 (assumption 27). -/
def State.figures (s : State) (c : Fin 4) : TargetFigures :=
  targetFigures s.kept.cells[c] (s.demand s.kept.cells[c].line)
    (((s.cellInput c).bind fun a => (s.reading a).1).getD 0 / 1000)

theorem tickOutcome_of_standby (h : s.tickState c = .standby) :
    tickOutcome s c =
      { state := .standby, reading := none, figures := none, target := standbyTarget s.kept.cells[c], limit := .noLimit,
        duty := dutyFor (standbyTarget s.kept.cells[c]) s.kept.cells[c].iFs } :=
  if_pos h

/-- A cell that a tick does not leave in STANDBY takes the target of its figures. -/
theorem tickOutcome_of_computed (h : s.tickState c ≠ .standby) :
    (tickOutcome s c).state = s.tickState c ∧
      ((tickOutcome s c).target, (tickOutcome s c).limit) = targetOf s.kept.cells[c] (s.figures c) ∧
      (tickOutcome s c).duty = dutyFor (tickOutcome s c).target s.kept.cells[c].iFs := by
  have heq : tickOutcome s c = _ := if_neg h
  rw [heq]
  refine ⟨rfl, ?_, rfl⟩
  unfold State.figures
  cases s.cellInput c <;> rfl

theorem tickOutcome_duty (s : State) (c : Fin 4) :
    (tickOutcome s c).duty = min ((tickOutcome s c).target * 1024 / s.kept.cells[c].iFs) 1023 := by
  by_cases h : s.tickState c = .standby
  · rw [tickOutcome_of_standby h]; rfl
  · obtain ⟨-, -, hduty⟩ := tickOutcome_of_computed h
    exact hduty

/-- A STANDBY cell whose analyzer is not VALID stays there. -/
theorem tickState_standby (h : s.cells[c].state = .standby) (hv : s.cells[c].view.state ≠ .valid) :
    s.tickState c = .standby := by
  have hreturns :
      ¬((s.cells[c].state = .holding || s.cells[c].state = .standby) && s.cells[c].view.state = .valid) = true :=
    fun hc => hv (of_decide_eq_true (Bool.and_eq_true_iff.mp hc).2)
  exact (if_neg hreturns).trans h

/-- A REGULATING or HOLDING cell, and a STANDBY cell whose analyzer is VALID again, regulates under a VALID analyzer and
else stays as it is. -/
theorem tickState_controls
    (h : s.cells[c].state = .regulating ∨ s.cells[c].state = .holding ∨
      (s.cells[c].state = .standby ∧ s.cells[c].view.state = .valid)) :
    s.tickState c = (if s.cells[c].view.state = .valid then .regulating else s.cells[c].state) ∧
      s.tickState c ≠ .standby := by
  unfold State.tickState
  generalize s.cells[c] = k at h ⊢
  rcases h with h | h | ⟨h, hv⟩
  · simp [h]
  · by_cases hv : k.view.state = .valid <;> simp [h, hv]
  · simp [h, hv]

/-! ### The clamp (the table of R51) -/

section
variable (k : CellSettings) (demand conc : Nat)

/-- The raw current of a demand and a concentration. -/
def rawCurrent (k : CellSettings) (demand conc : Nat) : Int :=
  (demand * 10000 / (6708 * k.eff) : Nat) + (k.kc : Int) * ((conc : Int) - (k.cSet : Int))

theorem targetOf_zero (h : rawCurrent k demand conc ≤ 0) :
    targetOf k (targetFigures k demand conc) = (0, .zero) := if_pos h

variable (hraw : 0 < rawCurrent k demand conc)
include hraw

theorem targetOf_unclamped (h : rawCurrent k demand conc ≤ (min k.iMax (k.klim * conc) : Nat)) :
    targetOf k (targetFigures k demand conc) = ((rawCurrent k demand conc).toNat, .noLimit) :=
  (if_neg (not_le.mpr hraw)).trans (if_pos h)

theorem targetOf_guarded (h : (min k.iMax (k.klim * conc) : Nat) < rawCurrent k demand conc)
    (hguard : k.klim * conc < k.iMax) : targetOf k (targetFigures k demand conc) = (k.klim * conc, .guarded) :=
  (if_neg (not_le.mpr hraw)).trans ((if_neg (not_le.mpr h)).trans (if_pos hguard))

theorem targetOf_rated (h : (k.iMax : Int) < rawCurrent k demand conc) (hguard : k.iMax ≤ k.klim * conc) :
    targetOf k (targetFigures k demand conc) = (k.iMax, .rated) := by
  have hceil : ((min k.iMax (k.klim * conc) : Nat) : Int) < rawCurrent k demand conc := by
    rw [Nat.min_eq_left hguard]; exact h
  exact (if_neg (not_le.mpr hraw)).trans ((if_neg (not_le.mpr hceil)).trans (if_neg (Nat.not_lt.mpr hguard)))

end

/-! ### The test of a PRIMING cell (R40) -/

theorem testPrimed_stays (h : ¬(s.cells[c].hold = false ∧ s.cells[c].flowCovered = true ∧
    s.cells[c].view.state = .valid)) : testPrimed c s = s := by
  refine if_neg fun hc => h ?_
  simp only [Bool.and_eq_true, Bool.not_eq_true', decide_eq_true_eq] at hc
  obtain ⟨⟨⟨-, hhold⟩, hflow⟩, hview⟩ := hc
  exact ⟨hhold, hflow, hview⟩

/-- A PRIMING cell that is primed regulates, with a first tick. -/
theorem testPrimed_primed (hstate : s.cells[c].state = .priming) (hhold : s.cells[c].hold = false)
    (hflow : s.cells[c].flowCovered = true) (hview : s.cells[c].view.state = .valid) :
    testPrimed c s = tickAndRestart c (s.modCell c fun k => { k with state := .regulating, priming := none }) := by
  refine if_pos ?_
  rw [hstate, hhold, hflow, hview]
  rfl

end

end Sys2Proof.Machine
end

section
/-! PROOFS of O31 and O32. The ways into FAULT, and the control tick that finishes (R41, R43, R45, R47, R49 to R57). -/

namespace Sys2Proof.Machine

open Sys2Proof

section
variable {dt : Micros} {s : State} {c : Fin 4}

theorem execCellPrimingTimeout_eq (hawake : s.awake = true) (hdue : timerDue s.cells[c].priming (s.now + dt) = true) :
    exec (.cellPrimingTimeout dt c) s = .next (primingExpired c (s.after dt)) :=
  congrArg Host.Outcome.next (whenDue_of (s := s.after dt) (t := s.cells[c].priming) hawake hdue (primingExpired c))

theorem execCellControlTick_eq (hawake : s.awake = true) (hdue : timerDue s.cells[c].control (s.now + dt) = true) :
    exec (.cellControlTick dt c) s = .next (tickAndRestart c (s.after dt)) :=
  congrArg Host.Outcome.next (whenDue_of (s := s.after dt) (t := s.cells[c].control) hawake hdue (tickAndRestart c))

/-- A flow switch that opens for good tells its cell that the flow is lost. -/
theorem execFlowLost_eq (hawake : s.awake = true)
    (hdue : timerDue s.switches[switchIndex (.cellFlow c)].debounce (s.now + dt) = true)
    (hpin : s.switches[switchIndex (.cellFlow c)].pin = false) :
    exec (.debounceExpired dt (.cellFlow c)) s =
      .next (cellFlowChange c false (accept (.cellFlow c) (s.after dt))) := by
  have hdebounced := debounced_eq (.cellFlow c) (s.after dt)
  rw [show (s.after dt).switches[switchIndex (.cellFlow c)].pin = false from hpin] at hdebounced
  exact congrArg Host.Outcome.next
    ((whenDue_of (s := s.after dt) (t := s.switches[switchIndex (.cellFlow c)].debounce) hawake hdue _).trans
      hdebounced)

/-- A driven cell that loses its flow faults (R45). -/
theorem cellFlowChange_faults (hd : s.cells[c].state.driven = true) (hh : s.cells[c].hold = false) :
    cellFlowChange c false s =
      latch (.cellFault c) (s.modCell c fun k =>
        { Cell.stopped { k with flowCovered := false } s.now with state := .fault, fault := some .noFlow }) := by
  have hlost : (!false && s.cells[c].state.driven && !s.cells[c].hold) = true := by rw [hd, hh]; rfl
  refine (if_pos hlost).trans ?_
  rw [cellFaulted, State.modCell_twice]
  rfl

/-- A cell that is not driven, or that a supply hold marks, notes the loss of its flow alone. -/
theorem cellFlowChange_noted (h : s.cells[c].state.driven = false ∨ s.cells[c].hold = true) :
    cellFlowChange c false s = s.modCell c fun k => { k with flowCovered := false } := by
  have hkept : ¬(!false && s.cells[c].state.driven && !s.cells[c].hold) = true := by
    rcases h with h | h <;> simp only [h, Bool.and_false, Bool.false_and, Bool.not_true, Bool.false_eq_true,
      not_false_eq_true]
  refine (if_neg hkept).trans (testPrimed_stays fun ⟨_, hflow, _⟩ => ?_)
  rw [State.modCell_same] at hflow
  exact Bool.false_ne_true hflow

end

theorem CellState.driven_iff {k : CellState} : k.driven = true ↔ k = .regulating ∨ k = .holding ∨ k = .standby := by
  cases k <;> decide

theorem CellState.driven_eq_false_iff {k : CellState} : k.driven = false ↔ k = .off ∨ k = .priming ∨ k = .fault := by
  cases k <;> decide

end Sys2Proof.Machine

namespace Sys2Proof.Settled

open Sys2Proof Sys2Proof.Machine

/-- Settles O31: the priming timer, the flow by whether the cell is driven, and the tick by what its check finds. -/
theorem cellFaults : Obligations.CellFaults := by
  refine ⟨fun dt s c hawake => ?_, fun dt s c => ?_⟩
  · intro x faulted w accepted
    refine ⟨fun hdue => execCellPrimingTimeout_eq hawake hdue,
      fun hdue hpin => ⟨fun hstate hhold => ?_, fun hrest => ?_⟩⟩
    all_goals rw [execFlowLost_eq hawake hdue hpin]
    · have hd : accepted.cells[c].state.driven = true := CellState.driven_iff.mpr hstate
      exact congrArg Host.Outcome.next (cellFlowChange_faults hd hhold)
    · have hd : accepted.cells[c].state.driven = false ∨ accepted.cells[c].hold = true := by
        rcases hrest with h | h | h | h
        · exact .inl (CellState.driven_eq_false_iff.mpr (.inl h))
        · exact .inl (CellState.driven_eq_false_iff.mpr (.inr (.inl h)))
        · exact .inl (CellState.driven_eq_false_iff.mpr (.inr (.inr h)))
        · exact .inr h
      exact congrArg Host.Outcome.next (cellFlowChange_noted hd)
  · intro x k cell measured mismatched faulted hawake hdue
    have hmeasured : x.measuredCurrent c = measured := by
      rw [State.measuredCurrent]
      rfl
    have htick (check : TickCheck) (h : tickCheck x c = check) : tickRecord x c none =
        { time := x.now, measured := measured, applied := cell.appliedTarget, check := check, outcome := none } := by
      rw [tickRecord, hmeasured, h]
      rfl
    rw [execCellControlTick_eq hawake hdue]
    refine ⟨fun hover => ?_, fun hmost hmis hn => ?_, fun hmost hmis hn => ?_⟩
    · have hcheck : tickCheck x c = .overcurrent := tickCheck_overcurrent (by rw [hmeasured]; exact hover)
      rw [tickAndRestart_overcurrent hcheck, htick _ hcheck]
      rfl
    all_goals
      obtain ⟨hsince, hgap⟩ := hmis
      have hcheck : tickCheck x c = .mismatch :=
        tickCheck_mismatch (by rw [hmeasured]; exact hmost) hsince (by rw [hmeasured]; exact hgap)
    · rw [tickAndRestart_thirdMismatch hcheck hn, htick _ hcheck]
      rfl
    · rw [tickAndRestart_mismatch hcheck hn, finishTick_restarted]
      exact ⟨_, rfl, congrArg Cell.mismatch (State.modCell_same x c _),
        (congrArg Cell.appliedDuty (State.modCell_same x c _)).trans rfl, rfl⟩

/-- Settles O32: a tick whose check passes or is skipped finishes with the outcome's state, target and limit. -/
theorem controlTick : Obligations.ControlTick := by
  intro dt s c x k cell measured hawake hdue hmost hgap conc demand raw ticked
  have hexec := execCellControlTick_eq hawake hdue
  have hfinish : tickAndRestart c x =
      finishTick c (if x.now < cell.appliedSince + k.pwmPeriod * ms then cell.mismatch else 0) (restarted c x) := by
    by_cases hsince : x.now < cell.appliedSince + k.pwmPeriod * ms
    · rw [if_pos hsince]
      exact tickAndRestart_skipped (s := x) (tickCheck_skipped (s := x) hmost hsince)
    · rw [if_neg hsince]
      exact tickAndRestart_pass (s := x)
        (tickCheck_pass (s := x) hmost (Nat.not_lt.mp hsince) (hgap.resolve_left hsince))
  have ticks (state : CellState) (target : Nat) (limit : LimitReason) (hstate : (tickOutcome x c).state = state)
      (htarget : ((tickOutcome x c).target, (tickOutcome x c).limit) = (target, limit)) :
      ticked state target limit := by
    obtain ⟨htarget, hlimit⟩ := Prod.mk.injEq .. ▸ htarget
    refine ⟨tickRecord x c (some (tickOutcome x c)), rfl, rfl, ?_⟩
    rw [hexec, hfinish, finishTick_restarted, tickOutcome_duty, hstate, htarget, hlimit]
    rfl
  constructor
  · intro hstate state
    obtain ⟨htick, hcomputed⟩ := tickState_controls (s := x) hstate
    obtain ⟨hout, htarget, -⟩ := tickOutcome_of_computed hcomputed
    have hfigures : x.figures c = targetFigures k demand conc := rfl
    have hraw : rawCurrent k demand conc = raw := rfl
    have hticked (target : Nat) (limit : LimitReason) (h : targetOf k (targetFigures k demand conc) = (target, limit)) :
        ticked state target limit :=
      ticks state target limit (hout.trans htick) (htarget.trans (hfigures ▸ h))
    exact ⟨fun h => hticked _ _ (targetOf_zero k demand conc h),
      fun hpos h => hticked _ _ (targetOf_unclamped k demand conc hpos h),
      fun hpos h hguard => hticked _ _ (targetOf_guarded k demand conc hpos h hguard),
      fun hpos h hguard => hticked _ _ (targetOf_rated k demand conc hpos h hguard)⟩
  · intro hstate hview
    have hout := tickOutcome_of_standby (tickState_standby (s := x) hstate hview)
    exact ticks _ _ _ (by rw [hout]) (by rw [hout]; rfl)

end Sys2Proof.Settled
end

section
/-! PROOF of O30. START CELL, STOP CELL and CLEAR CELL FAULT (R39, R40, R46, R48). -/

namespace Sys2Proof.Machine

open Sys2Proof

/-! ### What the entries do, by the state of the cell -/

section
variable {s : State} {c : Fin 4}

theorem serveStartCell_refuses
    (h : s.cells[c].state = .fault ∨ (s.cells[c].state = .off ∧ s.kept.cells[c].line = none)) :
    serveStartCell (c.val + 1) s = wrongState s := by
  simp only [serveStartCell, numbered_succ]
  rcases h with h | ⟨h, hline⟩
  · rw [h]
  · rw [h, hline]
    rfl

theorem serveStartCell_started (hfault : s.cells[c].state ≠ .fault) (hoff : s.cells[c].state ≠ .off) :
    serveStartCell (c.val + 1) s = ok s := by
  simp only [serveStartCell, numbered_succ]
  split
  next h => exact absurd h hoff
  next h => exact absurd h hfault
  all_goals rfl

theorem serveStartCell_starts (hoff : s.cells[c].state = .off) (hline : s.kept.cells[c].line.isSome = true) :
    serveStartCell (c.val + 1) s = ok (enterPriming c s) := by
  simp only [serveStartCell, numbered_succ]
  rw [hoff]
  exact if_pos hline

theorem serveStopCell_fault (h : s.cells[c].state = .fault) : serveStopCell (c.val + 1) s = wrongState s := by
  simp only [serveStopCell, numbered_succ]
  rw [h]

theorem serveStopCell_off (h : s.cells[c].state = .off) : serveStopCell (c.val + 1) s = ok s := by
  simp only [serveStopCell, numbered_succ]
  rw [h]

theorem serveStopCell_stops (hoff : s.cells[c].state ≠ .off) (hfault : s.cells[c].state ≠ .fault) :
    serveStopCell (c.val + 1) s = ok (s.modCell c fun k => { k.stopped s.now with state := .off }) := by
  simp only [serveStopCell, numbered_succ]
  split
  next h => exact absurd h hfault
  next h => exact absurd h hoff
  all_goals rfl

theorem serveClearCellFault_clears (h : s.cells[c].state = .fault) :
    serveClearCellFault (c.val + 1) s =
      ok (s.modCell c fun k => { k.stopped s.now with state := .off, fault := none }) := by
  simp only [serveClearCellFault, numbered_succ]
  exact if_pos h

theorem serveClearCellFault_refuses (h : s.cells[c].state ≠ .fault) :
    serveClearCellFault (c.val + 1) s = wrongState s := by
  simp only [serveClearCellFault, numbered_succ]
  exact if_neg h

/-! ### Entry to PRIMING (R39, R40) -/

/-- A cell as it enters PRIMING. -/
def Cell.primingFrom (k : Cell) (now : Micros) : Cell :=
  { k with
    state := .priming, mismatch := 0, staged := none, appliedDuty := 0, target := 0, limit := .noLimit,
    control := none, priming := if k.hold then none else some { start := now, len := 60 * sec } }

theorem enterPriming_eq (c : Fin 4) (s : State) :
    enterPriming c s = testPrimed c (s.modCell c (·.primingFrom s.now)) := rfl

/-- A cell that is not primed enters PRIMING and stays there. -/
theorem enterPriming_stays (h : ¬(s.cells[c].hold = false ∧ s.cells[c].flowCovered = true ∧
    s.cells[c].view.state = .valid)) : enterPriming c s = s.modCell c (·.primingFrom s.now) := by
  refine (enterPriming_eq c s).trans (testPrimed_stays ?_)
  rw [State.modCell_same]
  exact h

/-- A cell that is primed goes on to REGULATING and its first tick. -/
theorem enterPriming_primed (hhold : s.cells[c].hold = false) (hflow : s.cells[c].flowCovered = true)
    (hview : s.cells[c].view.state = .valid) :
    enterPriming c s = cellTick c (s.modCell c fun k =>
      { k.primingFrom s.now with
        state := .regulating, priming := none
        control := some { start := s.now, len := s.kept.cells[c].interval * sec } }) := by
  have hcell : (s.modCell c (·.primingFrom s.now)).cells[c] = s.cells[c].primingFrom s.now := State.modCell_same s c _
  rw [enterPriming_eq, testPrimed_primed (by rw [hcell]; rfl) (by rw [hcell]; exact hhold)
    (by rw [hcell]; exact hflow) (by rw [hcell]; exact hview), tickAndRestart_eq, restarted, State.modCell_twice,
    State.modCell_twice]
  rfl

end

/-! ### A tick and the frames that wait -/

section
variable (c : Fin 4) (s : State)

/-- A latching hands its notice behind the frames that wait. -/
theorem latch_prefix (f : Flag) : s.link.outbound <+: (latch f s).link.outbound := by
  by_cases h : s.latched f = true
  · rw [latch_of_latched s f h]
  · have hlatch : latch f s = handAlert f true _ := if_neg h
    rw [hlatch]
    exact handNotice_prefix _ _ (judgeAlert (s.modFlag f.index fun _ => { latched := true, time := some s.stamp }))

theorem cellFaulted_prefix (reason : CellFault) : s.link.outbound <+: (cellFaulted c reason s).link.outbound :=
  latch_prefix (s.modCell c fun k => { k.stopped s.now with state := .fault, fault := some reason }) (.cellFault c)

theorem cellTick_prefix : s.link.outbound <+: (cellTick c s).link.outbound := by
  have hfault (reason : CellFault) (record : TickRecord) := cellFaulted_prefix c
    (s.modCell c fun x => { x with lastTick := some record }) reason
  unfold cellTick
  split
  · exact hfault _ _
  · split
    · exact hfault _ _
    · exact List.prefix_rfl
  · exact List.prefix_rfl
  · exact List.prefix_rfl

theorem cellFaulted_withLink (reason : CellFault) (k : Link) :
    ∃ k', cellFaulted c reason { s with link := k } = { cellFaulted c reason s with link := k' } :=
  latch_withLink (.cellFault c)
    (s.modCell c fun k => { k.stopped s.now with state := .fault, fault := some reason }) k

/-- The frames that wait do not bear on what a tick does but for the notice of its fault. -/
theorem cellTick_withLink (k : Link) :
    ∃ k', cellTick c { s with link := k } = { cellTick c s with link := k' } := by
  have hfault (reason : CellFault) (record : TickRecord) := cellFaulted_withLink c
    (s.modCell c fun x => { x with lastTick := some record }) reason k
  have hcheck : tickCheck { s with link := k } c = tickCheck s c := rfl
  unfold cellTick
  rw [hcheck]
  cases tickCheck s c with
  | overcurrent => exact hfault _ _
  | mismatch =>
    dsimp only
    split
    · exact hfault _ _
    · exact ⟨k, rfl⟩
  | pass => exact ⟨k, rfl⟩
  | skipped => exact ⟨k, rfl⟩

end

/-- `AlikeButFrames.of_rest`, for a state that has its place free again and else differs by its link. -/
theorem AlikeButFrames.of_freed {t u v : State} {l : Link}
    (h : AlikeButFrames (t.modLink fun k => { k with reserved := 0 }) v) (ht : t = { u with link := l })
    (hrest : Link.rest { t.link with reserved := 0 } = u.link.rest) :
    AlikeButFrames u v := by
  subst ht
  exact h.of_rest rfl hrest

end Sys2Proof.Machine

namespace Sys2Proof.Settled

open Sys2Proof Sys2Proof.Machine

/-- Settles O30: each request by the state of its cell, and START CELL by whether the cell is primed. -/
theorem cellCommands : Obligations.CellCommands := by
  intro dt tag s c ready n x k primed priming off
  let y (r : Request) : State := serving dt r.kind s
  refine ⟨fun hhold hbad => ?_, fun hhold hfault hoff => ?_, fun hhold hoff hline hprimed => ?_,
    fun hhold hoff hline hprimed => ?_, fun hfault => ?_, fun hoff => ?_, fun hoff hfault => ?_, fun hfault => ?_,
    fun hfault => ?_⟩
  · exact congrArg _ (hostRequest_refused dt tag (.startCell n) s _ ready rfl (passesNormal _ hhold)
      (serveStartCell_refuses (s := y (.startCell n)) hbad))
  · exact congrArg _ (hostRequest_acts dt tag (.startCell n) s .empty id ready rfl (passesNormal _ hhold)
      (serveStartCell_started (s := y (.startCell n)) hfault hoff) fun _ => rfl)
  · have hserve := serveStartCell_starts (s := y (.startCell n)) hoff hline
    rw [enterPriming_stays (s := y (.startCell n)) hprimed] at hserve
    exact congrArg _ (hostRequest_acts dt tag (.startCell n) s .empty (·.modCell c (·.primingFrom x.now)) ready rfl
      (passesNormal _ hhold) hserve fun _ => rfl)
  · obtain ⟨hcell, hflow, hview⟩ := hprimed
    let begun (u : State) : State := u.modCell c fun k =>
      { k.primingFrom x.now with
        state := .regulating, priming := none
        control := some { start := x.now, len := s.kept.cells[c].interval * sec } }
    have hserve := serveStartCell_starts (s := y (.startCell n)) hoff hline
    rw [enterPriming_primed (s := y (.startCell n)) hcell hflow hview] at hserve
    have hrest : (cellTick c (begun (y (.startCell n)))).link.rest = (y (.startCell n)).link.rest :=
      rest_of_ledger (cellTick_ledger (s := begun (y (.startCell n))) c)
    obtain ⟨halike, hout, hreply⟩ := hostRequest_answers (r := .startCell n) (tag := tag) ready rfl
      (passesNormal _ hhold) hserve hrest (cellTick_prefix c (begun (y (.startCell n))))
    obtain ⟨link, hlink⟩ := cellTick_withLink c (begun x) (y (.startCell n)).link
    have htick : cellTick c (begun (y (.startCell n))) = { cellTick c (begun x) with link := link } := hlink
    have hfreed := (serving_rest ready hrest).trans (rest_of_ledger (cellTick_ledger (s := begun x) c)).symm
    exact ⟨_, rfl, halike.of_freed htick hfreed, hout, hreply⟩
  · exact congrArg _ (hostRequest_refused dt tag (.stopCell n) s _ ready rfl (passesHold s rfl)
      (serveStopCell_fault (s := y (.stopCell n)) hfault))
  · exact congrArg _ (hostRequest_acts dt tag (.stopCell n) s .empty id ready rfl (passesHold s rfl)
      (serveStopCell_off (s := y (.stopCell n)) hoff) fun _ => rfl)
  · exact congrArg _ (hostRequest_acts dt tag (.stopCell n) s .empty
      (·.modCell c fun k => { k.stopped x.now with state := .off }) ready rfl (passesHold s rfl)
      (serveStopCell_stops (s := y (.stopCell n)) hoff hfault) fun _ => rfl)
  · exact congrArg _ (hostRequest_acts dt tag (.clearCellFault n) s .empty
      (·.modCell c fun k => { k.stopped x.now with state := .off, fault := none }) ready rfl (passesHold s rfl)
      (serveClearCellFault_clears (s := y (.clearCellFault n)) hfault) fun _ => rfl)
  · exact congrArg _ (hostRequest_refused dt tag (.clearCellFault n) s _ ready rfl (passesHold s rfl)
      (serveClearCellFault_refuses (s := y (.clearCellFault n)) hfault))

end Sys2Proof.Settled
end

section
/-! PROOF of O56, first part. A supply hold: the blocks it marks, the path it ends, and its write of the image (R58, R74,
R101, R147, R187). -/

namespace Sys2Proof.Machine

open Sys2Proof

/-! ### The drives of the outputs -/

/-- What a supply hold turns off, but for the discharge path. -/
structure Drives where
  now : Micros
  supply : Supply
  cells : Vector Cell 4
  loops : Vector WashLoop 4
  sump : Sump
  sampler : Sampler

def State.drives (s : State) : Drives :=
  { now := s.now, supply := s.supply, cells := s.cells, loops := s.loops, sump := s.sump, sampler := s.sampler }

section
variable (s : State)

@[simp] theorem latch_drives (f : Flag) : (latch f s).drives = s.drives := by
  rw [latch_eq]; rfl

@[simp] theorem orderWrite_drives (kind : WriteKind) : (orderWrite kind s).drives = s.drives := by
  rw [orderWrite_eq]; rfl

@[simp] theorem handBackReturned_drives (t : Fin 3) : (handBackReturned t s).drives = s.drives := by
  unfold handBackReturned enterQueueHead
  rw [lotEvent_link]
  split <;> rfl

@[simp] theorem handBackAbandoned_drives (t : Fin 3) : (handBackAbandoned t s).drives = s.drives := by
  unfold handBackAbandoned enterPolishWait
  split <;> rfl

theorem handBack_drives (how : Fin 3 → State → State) (h : ∀ t s, (how t s).drives = s.drives) :
    (handBack how s).drives = s.drives := by
  unfold handBack
  split
  · rfl
  · exact h _ s

/-- The path's end leaves it IDLE and hands a notice. -/
theorem pathEnds_eq : ∃ link, pathEnds s =
    { s with
      path :=
        { s.path with
          state := .idle, lot := none, tank := none, use := none, drain := none, closing := none, dropped := none }
      link := link } := by
  unfold pathEnds
  dsimp only
  split
  · rw [handNotice_eq]; exact ⟨_, rfl⟩
  · exact ⟨_, rfl⟩

@[simp] theorem pathEnds_drives : (pathEnds s).drives = s.drives := by
  obtain ⟨link, h⟩ := pathEnds_eq s
  rw [h]; rfl

theorem pathEnds_idle : (pathEnds s).path.state = .idle := by
  obtain ⟨link, h⟩ := pathEnds_eq s
  rw [h]

theorem pathEnds_store : (pathEnds s).store = s.store := by
  obtain ⟨link, h⟩ := pathEnds_eq s
  rw [h]

/-! ### The discharge path in a supply hold (R147) -/

theorem stopForHold_drives (how : Fin 3 → State → State) (h : ∀ t s, (how t s).drives = s.drives) :
    (stopForHold how s).drives = s.drives :=
  handBack_drives _ how h

theorem stopForHold_marks (how : Fin 3 → State → State) (h : ∀ t s, (how t s).marks = s.marks) :
    (stopForHold how s).marks = s.marks :=
  (handBack_marks _ how h).trans (modPath_marks s _ rfl)

theorem holdPath_drives : (holdPath s).drives = s.drives := by
  unfold holdPath
  dsimp only
  split
  · rw [pathEnds_drives, orderWrite_drives, stopForHold_drives _ _ fun t x => handBackReturned_drives x t]
    rfl
  · rw [pathEnds_drives, stopForHold_drives _ _ fun t x => handBackAbandoned_drives x t]
    rfl
  · rw [pathEnds_drives]; rfl
  · rfl

theorem holdPath_idles : (holdPath s).path.state = .idle := by
  unfold holdPath
  dsimp only
  split
  · exact pathEnds_idle _
  · exact pathEnds_idle _
  · exact pathEnds_idle _
  · assumption

theorem holdPath_hold : (holdPath s).path.hold = true := by
  let marked := s.modPath fun p => { p with hold := true }
  have hmarked (x : State) (hx : x.marks = marked.marks) : x.path.hold = true := pathHold_of_marks hx
  unfold holdPath
  dsimp only
  split
  · refine hmarked _ ?_
    rw [pathEnds_marks, orderWrite_marks, stopForHold_marks _ _ fun t x => handBackReturned_marks x t]
  · refine hmarked _ ?_
    rw [pathEnds_marks, stopForHold_marks _ _ fun t x => handBackAbandoned_marks x t]
  · exact hmarked _ (pathEnds_marks _)
  · rfl

/-- A discharge that ends orders its checkpoint. -/
theorem holdPath_writes (h : s.path.state = .discharge) : (holdPath s).store.inFlight.isSome = true := by
  unfold holdPath
  rw [h]
  dsimp only
  rw [pathEnds_store]
  exact orderWrite_inFlight _ _

/-! ### The blocks in a supply hold (R58, R74, R101) -/

/-- The marks of the blocks and their forced zeros; the pump stops, and the Sampler ends its attempt. -/
theorem holdBlocks_drives : ∃ sump : Sump, sump.hold = true ∧ sump.pump = false ∧ (holdBlocks s).drives =
    { now := s.now, supply := { s.supply with hold := true, recovery := none }
      cells := s.cells.map (·.setHold s.now)
      loops := s.loops.map fun k => { k.forceClosed.unwatched with hold := true }
      sump := sump
      sampler := { state := .idle, lot := none, flush := none, window := none, count := 0, sum := 0, hold := true } } := by
  let marked : State := { s with
    supply := { s.supply with hold := true, recovery := none }
    cells := s.cells.map (·.setHold s.now)
    loops := s.loops.map fun k => { k.forceClosed.unwatched with hold := true }
    sump := { s.sump with hold := true } }
  have hblocks : holdBlocks s = holdSampler (pumpJudge marked) := rfl
  have hpump : (pumpJudge marked).sump.pump = false := by
    rw [pumpJudge_pump]
    exact Bool.and_false _
  have hhold : (pumpJudge marked).sump.hold = true := sumpHold_of_fixed (pumpJudge_fixed marked)
  have hsampler := holdSampler_sampler (pumpJudge marked)
  obtain ⟨sump, hjudged⟩ := pumpJudge_held marked rfl
  obtain ⟨sampler, kept, hheld⟩ := holdSampler_eq (pumpJudge marked)
  rw [hblocks]
  rw [hheld] at hsampler ⊢
  refine ⟨(pumpJudge marked).sump, hhold, hpump, ?_⟩
  rw [hjudged] at hsampler ⊢
  rw [← hsampler]
  rfl

/-- What the outputs' drives say of a hold's outputs, on an IDLE path and with every held cell at rest. -/
theorem outputsOff_of_drives {t : State} (ht : t.drives = (holdBlocks s).drives) (hpath : t.path.state = .idle)
    (hrest : CellsAtRest t) :
    t.supply = { s.supply with hold := true, recovery := none } ∧ OutputsOff t ∧ t.sump.hold = true ∧
      t.sampler.hold = true ∧ t.sampler.state = .idle ∧ (∀ c : Fin 4, t.cells[c].hold = true) ∧
      ∀ l : Fin 4, t.loops[l].hold = true := by
  obtain ⟨sump, hhold, hpump, hheld⟩ := holdBlocks_drives s
  rw [hheld] at ht
  have hsump : t.sump = sump := congrArg Drives.sump ht
  have hsampler : t.sampler = _ := congrArg Drives.sampler ht
  have hcell (c : Fin 4) : t.cells[c].hold = true := by
    rw [show t.cells = s.cells.map (·.setHold s.now) from congrArg Drives.cells ht, Vector.map_fin]
    exact setHold_hold _ _
  have hloop (l : Fin 4) : t.loops[l] = { s.loops[l].forceClosed.unwatched with hold := true } := by
    rw [show t.loops = _ from congrArg Drives.loops ht, Vector.map_fin]
  have hidle : t.samplePumpOn = false := by
    rw [State.samplePumpOn, hsampler]
    rfl
  refine ⟨congrArg Drives.supply ht,
    ⟨fun c => ?_, fun l => ?_, by rw [hsump, hpump], fun u => ?_, hidle, fun u => ?_, ?_⟩, by rw [hsump, hhold], by rw [hsampler], by rw [hsampler], hcell, fun l => by rw [hloop]⟩
  · obtain ⟨hduty, -, -⟩ := hrest c (.inr (hcell c))
    exact driveHigh_undriven hduty
  · rw [State.washValveOpen, hloop]
    simp [WashLoop.forceClosed, WashLoop.unwatched]
  · simp [State.inletOn, hsump, hhold]
  · rw [State.sampleSelOn, hidle]; rfl
  · rw [State.outletOutputs, hpath]

/-! ### The entry to HOLD (R187) -/

theorem holdPath_heldDrives {x : State} (hx : x.drives = (holdBlocks s).drives) :
    (latch .supplyLow (holdPath x)).drives = (holdBlocks s).drives ∧
      (latch .supplyLow (holdPath x)).path.state = .idle ∧ (latch .supplyLow (holdPath x)).path.hold = true := by
  rw [latch_drives, latch_path]
  exact ⟨(holdPath_drives x).trans hx, holdPath_idles x, holdPath_hold x⟩

theorem enterHold_leaves :
    (enterHold s).drives = (holdBlocks s).drives ∧ (enterHold s).path.state = .idle ∧
      (enterHold s).path.hold = true ∧ (enterHold s).latched .supplyLow = true ∧
      (enterHold s).store.inFlight.isSome = true := by
  have hwritten (x : State) (hx : x.drives = (holdBlocks s).drives) :
      let y := orderWrite .supplyLow (latch .supplyLow (holdPath x))
      y.drives = (holdBlocks s).drives ∧ y.path.state = .idle ∧ y.path.hold = true ∧ y.latched .supplyLow = true ∧
        y.store.inFlight.isSome = true := by
    obtain ⟨hdrives, hidle, hhold⟩ := holdPath_heldDrives s hx
    intro y
    have hy : y = { latch .supplyLow (holdPath x) with store := y.store } := orderWrite_eq _ _
    refine ⟨(orderWrite_drives _ _).trans hdrives, ?_, ?_, ?_, orderWrite_inFlight _ _⟩
    · rw [hy]; exact hidle
    · rw [hy]; exact hhold
    · rw [hy]; exact latch_latched _ _
  unfold enterHold
  dsimp only
  split
  next hfirst =>
    let x := orderWrite .supplyLow (holdBlocks s).choose.2
    have hx : x.drives = (holdBlocks s).drives := orderWrite_drives _ _
    have hdischarge : x.path.state = .discharge := by
      rw [show x = { (holdBlocks s).choose.2 with store := x.store } from orderWrite_eq _ _]
      exact of_decide_eq_true (Bool.and_eq_true_iff.mp hfirst).1
    obtain ⟨hdrives, hidle, hhold⟩ := holdPath_heldDrives s hx
    refine ⟨hdrives, hidle, hhold, latch_latched _ _, ?_⟩
    rw [latch_store]
    exact holdPath_writes x hdischarge
  next =>
    split
    · exact hwritten (holdBlocks s).choose.2 rfl
    · exact hwritten (holdBlocks s) rfl

end

/-! ### The judgement of the supply -/

section
variable {s : State}

theorem judgeSupply_normal (hhold : s.supply.hold = false) (h : s.threshold ≤ s.supply.level) : judgeSupply s = s := by
  unfold judgeSupply
  rw [hhold]
  exact if_neg (Nat.not_lt.mpr h)

theorem judgeSupply_below (hhold : s.supply.hold = false) (h : s.supply.level < s.threshold) :
    judgeSupply s = enterHold s := by
  unfold judgeSupply
  rw [hhold]
  exact if_pos h

theorem judgeSupply_unrecovered (hhold : s.supply.hold = true) (h : s.supply.level ≤ s.threshold + 10) :
    judgeSupply s = { s with supply := { s.supply with recovery := none } } :=
  (if_pos hhold).trans (if_neg (Nat.not_lt.mpr h))

theorem judgeSupply_recovering (hhold : s.supply.hold = true) (h : s.threshold + 10 < s.supply.level) :
    judgeSupply s =
      { s with supply := { s.supply with recovery := some (s.supply.recovery.getD (s.timer recoverySpan)) } } :=
  (if_pos hhold).trans (if_pos h)

end

/-- A level of 3.0 V or more is taken, and an awake part judges it. -/
theorem supplyAt_of {level : Nat} (h : 300 ≤ level) (s : State) :
    supplyAt level s =
      if s.awake then judgeSupply { s with supply := { s.supply with level := level } }
      else { s with supply := { s.supply with level := level } } :=
  if_neg (Nat.not_lt.mpr h)

end Sys2Proof.Machine
end

section
/-! PROOF of O56, second part. The recovery returns the blocks (R59, R74, R101, R147, R188). -/

namespace Sys2Proof.Machine

open Sys2Proof

/-- What a fold of actions over the four indices makes of one part, where an action on one index leaves the parts of the
others: the part of that index's own action, on a state with the same reading and the same part before. -/
theorem foldl_part {β γ : Type} {act : State → Fin 4 → State} (part : State → γ) (read : State → β) (c : Fin 4)
    (hother : ∀ x d, d ≠ c → part (act x d) = part x) (hread : ∀ x d, read (act x d) = read x) (s : State) :
    ∃ x, read x = read s ∧ part x = part s ∧ part ((List.finRange 4).foldl act s) = part (act x c) := by
  have key (l : List (Fin 4)) (hl : l.Nodup) (s : State) :
      (c ∉ l → part (l.foldl act s) = part s) ∧
        (c ∈ l → ∃ x, read x = read s ∧ part x = part s ∧ part (l.foldl act s) = part (act x c)) := by
    induction l generalizing s with
    | nil => exact ⟨fun _ => rfl, nofun⟩
    | cons d l ih =>
      obtain ⟨hd, hl⟩ := List.nodup_cons.mp hl
      obtain ⟨habsent, hpresent⟩ := ih hl (act s d)
      refine ⟨fun hc => ?_, fun hc => ?_⟩
      · obtain ⟨hne, hc⟩ := not_or.mp fun h => hc (List.mem_cons.mpr h)
        exact (habsent hc).trans (hother s d fun h => hne h.symm)
      · by_cases hcd : c = d
        · subst hcd
          exact ⟨s, rfl, rfl, habsent hd⟩
        · obtain ⟨x, hx, hpart, hfold⟩ := hpresent ((List.mem_cons.mp hc).resolve_left hcd)
          exact ⟨x, hx.trans (hread s d), hpart.trans (hother s d fun h => hcd h.symm), hfold⟩
  exact (key _ (List.nodup_finRange 4) s).2 (List.mem_finRange c)

/-! ### What one cell's actions leave of the cells -/

/-- Only cell `c` may differ, and its hold mark does not. -/
def OnlyCell (c : Fin 4) (s t : State) : Prop :=
  (∀ d, d ≠ c → t.cells[d] = s.cells[d]) ∧ t.cells[c].hold = s.cells[c].hold

theorem State.modCell_other {c d : Fin 4} (h : d ≠ c) (s : State) (f : Cell → Cell) :
    (s.modCell c f).cells[d] = s.cells[d] :=
  modAt_other s.cells c d f h.symm

section
variable {s t u : State} {c : Fin 4}

theorem OnlyCell.refl (c : Fin 4) (s : State) : OnlyCell c s s := ⟨fun _ _ => rfl, rfl⟩

theorem OnlyCell.trans (h : OnlyCell c s t) (h' : OnlyCell c t u) : OnlyCell c s u :=
  ⟨fun d hd => (h'.1 d hd).trans (h.1 d hd), h'.2.trans h.2⟩

theorem OnlyCell.modCell (s : State) (c : Fin 4) {f : Cell → Cell} (hf : (f s.cells[c]).hold = s.cells[c].hold) :
    OnlyCell c s (s.modCell c f) :=
  ⟨fun _ hd => State.modCell_other hd s f, by rw [State.modCell_same]; exact hf⟩

theorem OnlyCell.of_cells (h : OnlyCell c s t) (hu : u.cells = t.cells) : OnlyCell c s u := by
  unfold OnlyCell
  rw [hu]
  exact h

theorem cellFaulted_onlyCell (s : State) (c : Fin 4) (reason : CellFault) : OnlyCell c s (cellFaulted c reason s) :=
  (OnlyCell.modCell s c rfl).of_cells (latch_cells _ _)

theorem cellTick_onlyCell (s : State) (c : Fin 4) : OnlyCell c s (cellTick c s) := by
  have hfault (reason : CellFault) (record : TickRecord) :
      OnlyCell c s (cellFaulted c reason (s.modCell c fun x => { x with lastTick := some record })) :=
    (OnlyCell.modCell s c rfl).trans (cellFaulted_onlyCell _ c reason)
  have hfinish (n : Nat) : OnlyCell c s (finishTick c n s) := OnlyCell.modCell s c rfl
  unfold cellTick
  split
  · exact hfault _ _
  · split
    · exact hfault _ _
    · exact hfinish _
  · exact hfinish _
  · exact hfinish _

theorem testPrimed_onlyCell (s : State) (c : Fin 4) : OnlyCell c s (testPrimed c s) := by
  unfold testPrimed
  dsimp only
  split
  · exact (OnlyCell.modCell s c rfl).trans
      ((OnlyCell.modCell _ c rfl).trans (cellTick_onlyCell (restarted c _) c))
  · exact OnlyCell.refl c s

theorem enterPriming_onlyCell (s : State) (c : Fin 4) : OnlyCell c s (enterPriming c s) :=
  (OnlyCell.modCell s c rfl).trans (testPrimed_onlyCell _ c)

/-! ### The cells (R59) -/

/-- A recovering cell clears its mark and leaves the others. -/
theorem recoverCell_leaves (s : State) (c : Fin 4) :
    (∀ d, d ≠ c → (recoverCell c s).cells[d] = s.cells[d]) ∧ (recoverCell c s).cells[c].hold = false := by
  let cleared := s.modCell c fun k => { k with hold := false }
  have hcleared (x : State) (h : OnlyCell c cleared x) :
      (∀ d, d ≠ c → x.cells[d] = s.cells[d]) ∧ x.cells[c].hold = false := by
    obtain ⟨hother, hhold⟩ := h
    refine ⟨fun d hd => (hother d hd).trans (State.modCell_other hd s _), hhold.trans ?_⟩
    rw [State.modCell_same]
  unfold recoverCell
  dsimp only
  split
  · exact hcleared _ (enterPriming_onlyCell cleared c)
  · split
    · exact hcleared _ ((OnlyCell.modCell cleared c rfl).trans (testPrimed_onlyCell _ c))
    · exact hcleared _ (OnlyCell.refl c cleared)

/-- A driven cell whose flow is not covered goes back to PRIMING, with its whole time. -/
theorem recoverCell_uncovered (hd : s.cells[c].state.driven = true) (hflow : s.cells[c].flowCovered = false) :
    (recoverCell c s).cells[c].state = .priming ∧
      (recoverCell c s).cells[c].priming = some { start := s.now, len := 60 * sec } := by
  let cleared := s.modCell c fun k => { k with hold := false }
  have hcell : cleared.cells[c] = { s.cells[c] with hold := false } := State.modCell_same s c _
  have hrecover : recoverCell c s = enterPriming c cleared := if_pos hd
  have hprimes : recoverCell c s = cleared.modCell c (·.primingFrom s.now) :=
    hrecover.trans (enterPriming_stays (s := cleared) fun ⟨_, hcovered, _⟩ => by
      rw [hcell] at hcovered
      exact Bool.false_ne_true (hflow.symm.trans hcovered))
  rw [hprimes, State.modCell_same, hcell]
  exact ⟨rfl, rfl⟩

theorem recoverCell_fixed (s : State) (c : Fin 4) : (recoverCell c s).fixed = s.fixed := by
  unfold recoverCell enterPriming
  dsimp only
  split
  · rw [testPrimed_fixed]; rfl
  · split
    · rw [testPrimed_fixed]; rfl
    · rfl

/-- A cell after the recovery, by its own action. -/
theorem recoverCells_cell (s : State) (c : Fin 4) :
    ∃ x, x.fixed = s.fixed ∧ x.cells[c] = s.cells[c] ∧ (recoverCells s).cells[c] = (recoverCell c x).cells[c] :=
  foldl_part (act := fun x d => recoverCell d x) (fun x => x.cells[c]) State.fixed c
    (fun x d hd => (recoverCell_leaves x d).1 c hd.symm) recoverCell_fixed s

/-! ### The wash loops (R74) -/

theorem recoverLoop_eq (l : Fin 4) (s : State) : ∃ f : WashLoop → WashLoop, (∀ k, (f k).hold = false) ∧
    recoverLoop l s = s.modLoop l f := by
  unfold recoverLoop retargetIfActive retarget
  split
  · rw [State.modLoop_twice]
    exact ⟨_, fun _ => rfl, rfl⟩
  · exact ⟨_, fun _ => rfl, rfl⟩

theorem recoverLoops_hold (s : State) (l : Fin 4) : (recoverLoops s).loops[l].hold = false :=
  foldl_entry (fun s l => recoverLoop l s) (fun s l => s.loops[l].hold) (fun _ => ()) (fun _ _ _ => false)
    (fun _ _ => rfl)
    (fun s l => by
      obtain ⟨f, hf, h⟩ := recoverLoop_eq l s
      rw [h]
      exact (congrArg WashLoop.hold (modAt_same s.loops l f)).trans (hf _))
    (fun s l m hm => by
      obtain ⟨f, -, h⟩ := recoverLoop_eq l s
      rw [h]
      exact congrArg WashLoop.hold (modAt_other s.loops l m f hm.symm)) s l

theorem recoverLoops_fixed (s : State) : (recoverLoops s).fixed = s.fixed :=
  foldl_keeps _ State.fixed (fun s l => by obtain ⟨f, -, h⟩ := recoverLoop_eq l s; rw [h]; rfl) _ s

/-! ### The whole recovery (R188) -/

/-- The marks of the tanks' blocks. -/
theorem recoverTanks_marks (s : State) :
    (∀ l : Fin 4, (recoverTanks s).loops[l].hold = s.loops[l].hold) ∧ (recoverTanks s).sampler.hold = false ∧
      (recoverTanks s).fixed = { s.fixed with sumpHold := false } := by
  let judged := pumpJudge { s with sump := { s.sump with hold := false } }
  have hmarks : (recoverTanks s).marks = State.marks { judged with sampler := { judged.sampler with hold := false } } :=
    samplerTest_marks _
  refine ⟨fun l => (loopHold_of_marks hmarks l).trans (loopHold_of_marks (pumpJudge_marks _) l),
    samplerHold_of_marks hmarks, ?_⟩
  exact (samplerTest_fixed _).trans (pumpJudge_fixed _)

theorem recoverPath_marks (s : State) :
    (∀ l : Fin 4, (recoverPath s).loops[l].hold = s.loops[l].hold) ∧
      (recoverPath s).sampler.hold = s.sampler.hold ∧ (recoverPath s).path.hold = false ∧
      (recoverPath s).fixed = s.fixed := by
  let cleared := s.modPath fun p => { p with hold := false }
  have hmarks : (recoverPath s).marks = cleared.marks := occasion_marks cleared
  have hloops (l : Fin 4) : (recoverPath s).loops[l].hold = cleared.loops[l].hold := loopHold_of_marks hmarks l
  have hsampler : (recoverPath s).sampler.hold = cleared.sampler.hold := samplerHold_of_marks hmarks
  exact ⟨hloops, hsampler, pathHold_of_marks hmarks, occasion_fixed cleared⟩

/-- The state in which the blocks recover. -/
def State.normal (s : State) : State :=
  { s with supply := { s.supply with hold := false, recovery := none } }

theorem recover_fixed (s : State) : (recover s).fixed = { s.normal.fixed with sumpHold := false } := by
  have hcells : (recoverCells s.normal).fixed = s.normal.fixed :=
    foldl_keeps _ State.fixed (fun x c => recoverCell_fixed x c) _ s.normal
  calc (recover s).fixed = (recoverTanks (recoverLoops (recoverCells s.normal))).fixed := (recoverPath_marks _).2.2.2
    _ = { (recoverLoops (recoverCells s.normal)).fixed with sumpHold := false } := (recoverTanks_marks _).2.2
    _ = { s.normal.fixed with sumpHold := false } := by rw [recoverLoops_fixed, hcells]

theorem State.fixed_supply (s : State) : s.fixed.supply = s.supply := rfl

theorem State.fixed_sumpHold (s : State) : s.fixed.sumpHold = s.sump.hold := rfl

theorem recover_supply (s : State) : (recover s).supply = { s.supply with hold := false, recovery := none } := by
  rw [← State.fixed_supply, recover_fixed]
  rfl

theorem recover_sumpHold (s : State) : (recover s).sump.hold = false := by
  rw [← State.fixed_sumpHold, recover_fixed]

theorem recover_cells (s : State) : (recover s).cells = (recoverCells s.normal).cells := by
  unfold recover
  rw [recoverPath_cells, recoverTanks_cells, recoverLoops_cells]
  rfl

/-- Every mark is cleared. -/
theorem recover_clears (s : State) :
    (∀ c : Fin 4, (recover s).cells[c].hold = false) ∧ (∀ l : Fin 4, (recover s).loops[l].hold = false) ∧
      (recover s).sump.hold = false ∧ (recover s).sampler.hold = false ∧ (recover s).path.hold = false := by
  have hrecover : recover s = recoverPath (recoverTanks (recoverLoops (recoverCells s.normal))) := rfl
  obtain ⟨hpathLoops, hpathSampler, hpath, -⟩ :=
    recoverPath_marks (recoverTanks (recoverLoops (recoverCells s.normal)))
  obtain ⟨hloops, hsampler, -⟩ := recoverTanks_marks (recoverLoops (recoverCells s.normal))
  refine ⟨fun c => ?_, fun l => ?_, recover_sumpHold s, ?_, ?_⟩
  · obtain ⟨x, -, -, hcell⟩ := recoverCells_cell s.normal c
    rw [recover_cells, hcell]
    exact (recoverCell_leaves x c).2
  · rw [hrecover, hpathLoops, hloops]
    exact recoverLoops_hold _ l
  · rw [hrecover, hpathSampler, hsampler]
  · rw [hrecover]
    exact hpath

theorem recover_uncovered (hd : s.cells[c].state.driven = true) (hflow : s.cells[c].flowCovered = false) :
    (recover s).cells[c].state = .priming ∧
      (recover s).cells[c].priming = some { start := s.now, len := 60 * sec } := by
  obtain ⟨x, hfixed, hcell, hrecovered⟩ := recoverCells_cell s.normal c
  have hcell : x.cells[c] = s.cells[c] := hcell
  have hnow : x.now = s.now := congrArg Fixed.now hfixed
  have h := recoverCell_uncovered (s := x) (c := c) (by rw [hcell]; exact hd) (by rw [hcell]; exact hflow)
  rw [recover_cells, hrecovered, ← hnow]
  exact h

end

end Sys2Proof.Machine

namespace Sys2Proof.Settled

open Sys2Proof Sys2Proof.Machine

/-- Settles O56: the level taken, the judgement's four outcomes, and the recovery. -/
theorem supplyHold : Obligations.SupplyHold := by
  intro dt s level i hi x set threshold
  have hexec : exec i s = .next (supplyAt level x) := by
    rcases hi with rfl | rfl <;> rfl
  let taken : State := { x with supply := { x.supply with level := level } }
  refine ⟨fun hlevel hasleep => ?_, fun hlevel hawake => ?_, fun hawake hdue => ?_⟩
  · exact hexec.trans (congrArg Host.Outcome.next ((supplyAt_of hlevel x).trans (if_neg (Bool.eq_false_iff.mp hasleep))))
  · have hjudges : exec i s = .next (judgeSupply taken) :=
      hexec.trans (congrArg Host.Outcome.next ((supplyAt_of hlevel x).trans (if_pos hawake)))
    refine ⟨fun hhold h => ?_, fun hhold h hrest => ?_, fun hhold h => ?_, fun hhold h => ?_⟩
    · exact hjudges.trans (congrArg Host.Outcome.next (judgeSupply_normal (s := taken) hhold h))
    · obtain ⟨hdrives, hidle, hpath, hlatched, hwrite⟩ := enterHold_leaves taken
      have hcarries := accounts_of_books (enterHold_carries taken).books
      have htotal : (enterHold taken).kept.day.total = s.kept.day.total :=
        congrArg Books.total (enterHold_carries taken).books
      have htaken : CellsAtRest taken := hrest
      obtain ⟨hsupply, houtputs, hsump, hsampler, hsamplerIdle, hcells, hloops⟩ :=
        outputsOff_of_drives taken hdrives hidle (enterHold_atRest htaken)
      exact ⟨enterHold taken, hjudges.trans (congrArg Host.Outcome.next (judgeSupply_below (s := taken) hhold h)),
        hsupply, houtputs, hidle, hpath, hlatched, hwrite, hsump, hsampler, hsamplerIdle, hcarries, htotal, hcells,
        hloops⟩
    · exact hjudges.trans (congrArg Host.Outcome.next (judgeSupply_unrecovered (s := taken) hhold h))
    · exact hjudges.trans (congrArg Host.Outcome.next (judgeSupply_recovering (s := taken) hhold h))
  · have hrecovers : exec (.supplyRecovery dt) s = .next (recover x) :=
      congrArg Host.Outcome.next (whenDue_of (s := x) (t := s.supply.recovery) hawake hdue recover)
    obtain ⟨hcells, hloops, hsump, hsampler, hpath⟩ := recover_clears x
    exact ⟨recover x, hrecovers, recover_supply x, hcells, hloops, hsump, hsampler, hpath,
      fun c hstate hflow => recover_uncovered (s := x) (CellState.driven_iff.mpr (.inl hstate)) hflow⟩

end Sys2Proof.Settled
end

section
/-! PROOF of O58, first part. What the flags and the permit's judgement at the self-test's end leave as the blocks began
(R125, R166, R189, R190). -/

namespace Sys2Proof.Machine

open Sys2Proof

/-! ### The latched flags -/

section
variable (s : State)

/-- A latching leaves every other flag as it was. -/
theorem latch_latched_other {f g : Flag} (h : f.index ≠ g.index) : (latch f s).latched g = s.latched g := by
  rw [State.latched, latch_flags]
  split
  · rfl
  · rw [modAt_other _ _ _ _ h]
    rfl

theorem clearByPart_latched_other {f g : Flag} (h : f.index ≠ g.index) :
    (clearByPart f s).latched g = s.latched g := by
  rw [State.latched, clearByPart_flags]
  split
  · rw [modAt_other _ _ _ _ h]
    rfl
  · rfl

theorem latchIf_latched_same (b : Bool) (f : Flag) : (latchIf b f s).latched f = (b || s.latched f) := by
  cases b
  · rfl
  · exact latch_latched f s

theorem latchIf_latched_other (b : Bool) {f g : Flag} (h : f.index ≠ g.index) :
    (latchIf b f s).latched g = s.latched g := by
  cases b
  · rfl
  · exact latch_latched_other s h

end

/-! ### What the judgement of flags and permit leaves -/

/-- The lasting state but for the permit, and what an activation and a corrupt permit write of the day (R108, R110). -/
def Kept.besidePermit (k : Kept) : Kept :=
  { k with
    permit := { active := none, digest := none, corrupt := false, next := none }
    day := { k.day with dayStart := 0, flags := DayFlags.clear } }

/-- The blocks and flags as they stand when the self-test ends. -/
structure Outset where
  now : Micros
  phase : Phase
  supply : Supply
  startUp : StartUp
  store : Store
  kept : Kept
  loops : Vector WashLoop 4
  cells : Vector Cell 4
  sump : Sump
  sampler : Sampler
  enable : Bool
  clock : Clock
  path : Path
  clockUnset : Bool
  selfTestFailed : Bool
  restoreFailed : Bool
  supplyLow : Bool

def State.outset (s : State) : Outset :=
  { now := s.now, phase := s.phase, supply := s.supply, startUp := s.startUp, store := s.store
    kept := s.kept.besidePermit, loops := s.loops, cells := s.cells, sump := s.sump, sampler := s.sampler
    enable := s.permit.enable, clock := s.clock, path := s.path, clockUnset := s.latched .clockUnset
    selfTestFailed := s.latched .selfTestFailed, restoreFailed := s.latched .restoreFailed
    supplyLow := s.latched .supplyLow }

/-- A flag that stands for a result of the start-up. -/
def Flag.IsResult (f : Flag) : Prop :=
  f = .clockUnset ∨ f = .selfTestFailed ∨ f = .restoreFailed ∨ f = .supplyLow

/-- The flags of the lots, the train, the permit and the cap are no results of the start-up. -/
theorem Flag.beside_result {f : Flag}
    (h : f = .drainTimeout ∨ f = .lotHeld ∨ f = .cartridgeExhausted ∨ f = .permitCorrupt ∨ f = .capReached) :
    ∀ g : Flag, g.IsResult → f.index ≠ g.index := by
  rintro g (rfl | rfl | rfl | rfl) <;> rcases h with rfl | rfl | rfl | rfl | rfl <;> decide

section
variable {s : State} {f : Flag} (h : ∀ g : Flag, g.IsResult → f.index ≠ g.index)
include h

theorem latch_outset (s : State) : (latch f s).outset = s.outset := by
  unfold State.outset
  rw [latch_latched_other s (h .clockUnset (.inl rfl)), latch_latched_other s (h .selfTestFailed (.inr (.inl rfl))),
    latch_latched_other s (h .restoreFailed (.inr (.inr (.inl rfl)))),
    latch_latched_other s (h .supplyLow (.inr (.inr (.inr rfl)))), latch_eq]

theorem latchIf_outset (b : Bool) (s : State) : (latchIf b f s).outset = s.outset := by
  cases b
  · rfl
  · exact latch_outset h s

theorem clearByPart_outset (s : State) : (clearByPart f s).outset = s.outset := by
  unfold State.outset
  rw [clearByPart_latched_other s (h .clockUnset (.inl rfl)),
    clearByPart_latched_other s (h .selfTestFailed (.inr (.inl rfl))),
    clearByPart_latched_other s (h .restoreFailed (.inr (.inr (.inl rfl)))),
    clearByPart_latched_other s (h .supplyLow (.inr (.inr (.inr rfl)))), clearByPart_eq]

end

theorem setDayFlags_outset (f : DayFlags → DayFlags) (s : State) : (setDayFlags f s).outset = s.outset := rfl

theorem windowShut_outset (s : State) :
    State.outset { s with permit := { s.permit with windowOpen := false } } = s.outset := rfl

theorem latchStanding_outset (s : State) : (latchStanding s).outset = s.outset := by
  unfold latchStanding
  dsimp only
  rw [latchIf_outset (Flag.beside_result (by simp)), latchIf_outset (Flag.beside_result (by simp)),
    latchIf_outset (Flag.beside_result (by simp)), latchIf_outset (Flag.beside_result (by simp))]

theorem latchCap_outset (s : State) : (latchCap s).outset = s.outset := by
  unfold latchCap
  split
  · exact (setDayFlags_outset _ _).trans (latch_outset (Flag.beside_result (by simp)) s)
  · rfl

theorem putInForce_outset (p : Permit) (s : State) : (putInForce p s).outset = s.outset := by
  let active := s.modKept fun k =>
    { k with permit := { active := some p, digest := some (digestOf p), corrupt := false, next := none } }
  exact (show (putInForce p s).outset = (clearByPart .permitCorrupt active).outset from rfl).trans
    (clearByPart_outset (Flag.beside_result (by simp)) active)

/-! ### The permit's judgement with the discharge path at rest -/

/-- The path is IDLE, the arbiter has not started, and the clock is UNSET. -/
def Quiet (s : State) : Prop :=
  s.path.state = .idle ∧ s.path.started = false ∧ s.clock.running = false

section
variable {s t : State}

theorem Quiet.of_outset (h : Quiet s) (ht : t.outset = s.outset) : Quiet t := by
  have hpath : t.path = s.path := congrArg Outset.path ht
  have hclock : t.clock = s.clock := congrArg Outset.clock ht
  unfold Quiet
  rw [hpath, hclock]
  exact h

variable (h : Quiet s)
include h

theorem interruptDischarge_quiet (cause : StopCause) : interruptDischarge cause s = s := by
  obtain ⟨hidle, -, -⟩ := h
  exact if_neg fun hd => by rw [hidle] at hd; cases hd

theorem occasion_quiet : occasion s = s := by
  obtain ⟨-, hstarted, -⟩ := h
  refine if_neg ?_
  rw [hstarted, Bool.and_false]
  exact Bool.false_ne_true

/-- With the clock UNSET the window is closed. -/
theorem judgeWindow_outset (tell : State → State) : (judgeWindow tell s).outset = s.outset := by
  have hnow : s.windowNow = false := by
    obtain ⟨-, -, hclock⟩ := h
    rw [State.windowNow, hclock]
    rfl
  have hjudged : Quiet { s with permit := { s.permit with windowOpen := false } } := h
  unfold judgeWindow
  dsimp only
  rw [hnow]
  split
  next hopen => cases hopen
  · rw [interruptDischarge_quiet hjudged]
    rfl
  · rfl
  · rfl

theorem activate_outset : (activate occasion s).outset = s.outset := by
  unfold activate
  split
  · rfl
  next p _ =>
    have hforce := putInForce_outset p s
    have hjudged := (judgeWindow_outset (h.of_outset hforce) occasion).trans hforce
    rw [occasion_quiet (h.of_outset hjudged)]
    exact hjudged

theorem foundCorrupt_outset : (foundCorrupt s).outset = s.outset := by
  let marked := s.modKept fun k => { k with permit := { k.permit with corrupt := true } }
  let unchecked : State := { marked with permit := { marked.permit with check := none } }
  have hquiet : Quiet unchecked := h
  rw [foundCorrupt, windowShut_outset, setDayFlags_outset, interruptDischarge_quiet hquiet,
    latch_outset (Flag.beside_result (by simp))]
  rfl

theorem digestCheck_outset : (digestCheck occasion s).outset = s.outset := by
  unfold digestCheck
  split
  · rfl
  · split
    · rfl
    · have hfound := foundCorrupt_outset h
      exact (activate_outset (h.of_outset hfound)).trans hfound

theorem checkRestored_outset : (checkRestored s).outset = s.outset := by
  have hchecked := digestCheck_outset h
  unfold checkRestored
  dsimp only
  split
  · exact hchecked
  · exact (activate_outset (h.of_outset hchecked)).trans hchecked

end

/-! ### Without a permit -/

section
variable {s : State} (hactive : s.kept.permit.active = none) (hnext : s.kept.permit.next = none)
include hactive

theorem usablePermit_unset : s.usablePermit = none := by
  unfold State.usablePermit
  rw [hactive, ite_self]

theorem latchCap_unset : latchCap s = s := by
  refine if_neg ?_
  rw [State.capShort, usablePermit_unset hactive]
  exact Bool.false_ne_true

include hnext

theorem checkRestored_unset : checkRestored s = s := by
  have husable := usablePermit_unset hactive
  have hchecked : digestCheck occasion s = s := by rw [digestCheck, husable]
  have hactivate : activate occasion s = s := by rw [activate, hnext]
  unfold checkRestored
  dsimp only
  rw [hchecked, husable, hactivate]
  rfl

end

theorem latchStanding_kept (s : State) : (latchStanding s).kept = s.kept := by
  simp only [latchStanding, latchIf_kept]

end Sys2Proof.Machine
end

section
/-! PROOF of O58, second part. The blocks as they begin, the supply's first judgement, autostart, and the restored image
(R60, R187 to R191). -/

namespace Sys2Proof.Machine

open Sys2Proof

/-! ### The results of the start-up (R190) -/

theorem blocksAtStart_clear (k : Kept) (x : State) (f : Flag) : (blocksAtStart k x).latched f = false := by
  simp [State.latched, blocksAtStart, FlagRecord.clear]

theorem latchResults_kept (s : State) : (latchResults s).kept = s.kept := by
  rw [latchResults, latchIf_kept, latchIf_kept, latch_kept]

/-- The flags of the results latch as the results stand. -/
theorem latchResults_outset (s : State) (hclear : ∀ f, s.latched f = false) :
    (latchResults s).outset =
      { s.outset with
        clockUnset := true, selfTestFailed := !s.startUp.selfTestPassed, restoreFailed := s.startUp.restoreStands
        supplyLow := false } := by
  have hclock : (latchResults s).latched .clockUnset = true := by
    rw [latchResults, latchIf_latched_other _ _ (by decide), latchIf_latched_other _ _ (by decide), latch_latched]
  have hfailed : (latchResults s).latched .selfTestFailed = !s.startUp.selfTestPassed := by
    rw [latchResults, latchIf_latched_other _ _ (by decide), latchIf_latched_same, latch_latched_other _ (by decide),
      hclear, Bool.or_false]
    rfl
  have hrestore : (latchResults s).latched .restoreFailed = s.startUp.restoreStands := by
    rw [latchResults, latchIf_latched_same, latchIf_latched_other _ _ (by decide), latch_latched_other _ (by decide),
      hclear, Bool.or_false]
    rfl
  have hsupply : (latchResults s).latched .supplyLow = false := by
    rw [latchResults, latchIf_latched_other _ _ (by decide), latchIf_latched_other _ _ (by decide),
      latch_latched_other _ (by decide), hclear]
  have hrest : latchResults s =
      { s with
        flags := (latchResults s).flags, alertActive := (latchResults s).alertActive
        link := (latchResults s).link } := by
    have hlatchIf (b : Bool) (f : Flag) (u : State) : latchIf b f u =
        { u with
          flags := (latchIf b f u).flags, alertActive := (latchIf b f u).alertActive, link := (latchIf b f u).link } := by
      cases b
      · rfl
      · exact latch_eq u f
    rw [latchResults, hlatchIf, hlatchIf, latch_eq]
  unfold State.outset
  rw [hclock, hfailed, hrestore, hsupply, hrest]

/-! ### The first judgement of the supply (R187) -/

theorem holdBlocks_kept {s : State} (h : s.samplerTank = none) : (holdBlocks s).kept = s.kept := by
  let marked : State := { holdLoops (holdCells { s with supply := { s.supply with hold := true, recovery := none } }) with
    sump := { s.sump with hold := true } }
  obtain ⟨sump, hpump⟩ := pumpJudge_held marked rfl
  have hblocks : holdBlocks s = holdSampler (pumpJudge marked) := rfl
  have hnone : State.samplerTank { marked with sump := sump } = none := h
  rw [hblocks, hpump, holdSampler]
  dsimp only
  rw [show State.samplerTank _ = none from hnone]
  rfl

/-- The marks that a supply found low sets, with the path IDLE and no lot at the Sampler. -/
theorem firstJudgement_outset {s : State} (hlow : s.supply.level < s.threshold) (hidle : s.path.state = .idle)
    (hnone : s.samplerTank = none) : (firstJudgement s).kept = s.kept ∧
      ∃ (sump : Sump) (sampler : Sampler), sump.hold = true ∧ sampler.hold = true ∧ (firstJudgement s).outset =
        { s.outset with
          supply := { s.supply with hold := true, recovery := none }
          cells := s.cells.map (·.setHold s.now)
          loops := s.loops.map fun k => { k.forceClosed.unwatched with hold := true }
          sump := sump, sampler := sampler, path := { s.path with hold := true }, supplyLow := true } := by
  have hkept := holdBlocks_kept hnone
  obtain ⟨sump', hhold, -, hdrives⟩ := holdBlocks_drives s
  have hsump : (holdBlocks s).sump = sump' := congrArg Drives.sump hdrives
  have hsampler : (holdBlocks s).sampler = _ := congrArg Drives.sampler hdrives
  obtain ⟨sump, sampler, kept, hblocks⟩ := holdBlocks_eq s
  rw [hblocks] at hkept hsump hsampler
  let held : State := { s with
    supply := { s.supply with hold := true, recovery := none }
    cells := s.cells.map (·.setHold s.now)
    loops := s.loops.map fun k => { k.forceClosed.unwatched with hold := true }
    sump := sump, sampler := sampler, kept := kept, path := { s.path with hold := true } }
  have hpath : holdPath (holdBlocks s) = held := by
    rw [hblocks]
    exact holdPath_idle _ hidle
  have hjudged : firstJudgement s = latch .supplyLow held := (if_pos hlow).trans (congrArg _ hpath)
  have hkept : kept = s.kept := hkept
  have hsump : sump = sump' := hsump
  have hsampler : sampler.hold = true := congrArg Sampler.hold hsampler
  rw [hjudged]
  refine ⟨(latch_kept _ _).trans hkept, sump, sampler, by rw [hsump, hhold], hsampler, ?_⟩
  unfold State.outset
  rw [latch_latched, latch_latched_other _ (by decide), latch_latched_other _ (by decide),
    latch_latched_other _ (by decide), latch_eq, ← hkept]
  rfl

/-! ### The state in which the blocks begin -/

/-- What the self-test's end makes of the lasting state `k`, of the prepared state `x` and of a low supply, before
autostart. -/
structure Begun (k : Kept) (x : State) (low : Bool) (o : Outset) : Prop where
  now : o.now = x.now
  phase : o.phase = x.phase
  supply : o.supply = { x.supply with hold := low }
  store : o.store = x.store
  kept : o.kept = k.besidePermit
  loops : ∀ l : Fin 4, o.loops[l].hold = low
  cells : ∀ c : Fin 4, o.cells[c] = { Cell.atStart k.cells[c] x.now with hold := low }
  sump : o.sump.hold = low
  sampler : o.sampler.hold = low
  enable : o.enable = false
  clock : o.clock.running = false
  path : o.path = { Path.atStart with hold := low }
  clockUnset : o.clockUnset = true
  selfTestFailed : o.selfTestFailed = !x.startUp.selfTestPassed
  restoreFailed : o.restoreFailed = x.startUp.restoreStands
  supplyLow : o.supplyLow = low

section
variable {k : Kept} {x : State}

/-- The blocks begin, and the supply is judged. -/
theorem begun_of_judged (hhold : x.supply.hold = false) (hrecovery : x.supply.recovery = none) :
    (firstJudgement (latchResults (blocksAtStart k x))).kept = k ∧
      Begun k x (Decidable.decide (x.supply.level < thresholdOf k.plant.threshold))
        (firstJudgement (latchResults (blocksAtStart k x))).outset := by
  let s := latchResults (blocksAtStart k x)
  have houtset := latchResults_outset (blocksAtStart k x) (blocksAtStart_clear k x)
  have hkept : s.kept = k := latchResults_kept _
  have hsupply : s.supply = x.supply := congrArg Outset.supply houtset
  have hpath : s.path = Path.atStart := congrArg Outset.path houtset
  have hsampler : s.sampler = Sampler.atStart := congrArg Outset.sampler houtset
  have hcells : s.cells = (blocksAtStart k x).cells := congrArg Outset.cells houtset
  have hnow : s.now = x.now := congrArg Outset.now houtset
  have hthreshold : s.threshold = thresholdOf k.plant.threshold := by rw [State.threshold, hkept]
  by_cases hlow : x.supply.level < thresholdOf k.plant.threshold
  · have hfound : s.supply.level < s.threshold := by rw [hsupply, hthreshold]; exact hlow
    have hnone : s.samplerTank = none := by rw [State.samplerTank, hsampler]; rfl
    obtain ⟨hjudged, sump, sampler, hsumpHold, hsamplerHold, ho⟩ :=
      firstJudgement_outset hfound (by rw [hpath]; rfl) hnone
    refine ⟨hjudged.trans hkept, ?_⟩
    rw [ho, houtset, decide_eq_true hlow]
    exact
      { now := rfl, phase := rfl, store := rfl, kept := rfl, enable := rfl, clock := rfl, clockUnset := rfl
        selfTestFailed := rfl, restoreFailed := rfl, supplyLow := rfl, sump := hsumpHold, sampler := hsamplerHold
        supply := by dsimp only; rw [hsupply, ← hrecovery]
        loops := fun l => congrArg WashLoop.hold (Vector.map_fin _ s.loops l)
        cells := fun c => by
          dsimp only
          rw [Vector.map_fin, hcells, blocksAtStart_cell, hnow]
          rfl
        path := by dsimp only; rw [hpath] }
  · have hstays : firstJudgement s = s := if_neg (by rw [hsupply, hthreshold]; exact hlow)
    rw [hstays, houtset, decide_eq_false hlow]
    exact ⟨hkept,
      { now := rfl, phase := rfl, store := rfl, kept := rfl, enable := rfl, clock := rfl, clockUnset := rfl
        selfTestFailed := rfl, restoreFailed := rfl, supplyLow := rfl, sump := rfl, sampler := rfl, path := rfl
        supply := by rw [← hhold]; rfl
        loops := fun l => congrArg WashLoop.hold (Vector.getElem_ofFn l.isLt)
        cells := fun c => blocksAtStart_cell k x c }⟩

end

end Sys2Proof.Machine
end

section
/-! PROOF of O58, third part. Autostart, the restored lots, and the end of the self-test (R60, R102, R187 to R191). -/

namespace Sys2Proof.Machine

open Sys2Proof

/-! ### Autostart (R60) -/

/-- Whether a cell enters PRIMING by itself. -/
def Kept.autostarts (k : Kept) (c : Fin 4) : Bool :=
  k.cells[c].autostart && k.cells[c].line.isSome

/-- Autostart of a cell whose flow is not covered. -/
def primeAtStart (c : Fin 4) (s : State) : State :=
  s.modCell c fun k => if s.kept.autostarts c then k.primingFrom s.now else k

theorem autostart_uncovered {s : State} {c : Fin 4} (h : s.cells[c].flowCovered = false) :
    autostart c s = primeAtStart c s := by
  cases hauto : s.kept.autostarts c with
  | true =>
    have hstart : autostart c s = enterPriming c s := if_pos hauto
    rw [hstart, enterPriming_stays fun ⟨_, hflow, _⟩ => Bool.false_ne_true (h.symm.trans hflow), primeAtStart, hauto]
    rfl
  | false =>
    have hstays : autostart c s = s := if_neg (Bool.eq_false_iff.mp hauto)
    rw [hstays, primeAtStart, hauto]
    have hsame : modAt s.cells c (fun k => if false then k.primingFrom s.now else k) = s.cells := modAt_id s.cells c rfl
    exact (congrArg (fun cells : Vector Cell 4 => { s with cells := cells }) hsame).symm

theorem autostarts_uncovered {s : State} (h : ∀ c : Fin 4, s.cells[c].flowCovered = false) (l : List (Fin 4)) :
    l.foldl (fun s c => autostart c s) s = l.foldl (fun s c => primeAtStart c s) s := by
  induction l generalizing s with
  | nil => rfl
  | cons c l ih =>
    rw [List.foldl_cons, List.foldl_cons, autostart_uncovered (h c)]
    refine ih fun d => ?_
    refine modAt_forall (p := fun k : Cell => k.flowCovered = false) h c ?_ d
    split
    · exact h c
    · exact h c

/-- With no flow covered, autostart changes the cells alone. -/
theorem autostarts_eq {s : State} (h : ∀ c : Fin 4, s.cells[c].flowCovered = false) :
    ∃ cells : Vector Cell 4, (List.finRange 4).foldl (fun s c => autostart c s) s = { s with cells := cells } ∧
      ∀ c : Fin 4, cells[c] = if s.kept.autostarts c then s.cells[c].primingFrom s.now else s.cells[c] := by
  rw [autostarts_uncovered h]
  let primed := (List.finRange 4).foldl (fun s c => primeAtStart c s) s
  have hrest : ({ primed with cells := s.cells } : State) = { s with cells := s.cells } :=
    foldl_keeps (fun s c => primeAtStart c s) (fun x : State => { x with cells := s.cells }) (fun _ _ => rfl)
      (List.finRange 4) s
  refine ⟨primed.cells, ?_, fun c => ?_⟩
  · exact congrArg (fun x : State => { x with cells := primed.cells }) hrest
  · exact foldl_entry (fun s c => primeAtStart c s) (fun s c => s.cells[c]) (fun s => (s.kept, s.now))
      (fun c r k => if r.1.autostarts c then k.primingFrom r.2 else k) (fun _ _ => rfl)
      (fun s c => State.modCell_same s c _) (fun s c d hd => State.modCell_other hd s _) s c

/-! ### The restored lots (R102, R188) -/

/-- A lot as the restore leaves it. -/
def Lot.afterRestore (l : Lot) : Lot :=
  { l with
    state := match l.state with
      | .discharging => .queued
      | .polishing => .polishWait
      | .sampling => .sampleWait
      | state => state }

/-- The lasting state but for the tanks and the lists. -/
def Kept.besideLots (k : Kept) : Kept :=
  { k with
    tanks := Vector.replicate 3 { state := .empty, lot := none }
    dischargeQueue := [], polishWait := [], sampleWait := [] }

theorem placeLot_besideLots (t : Fin 3) (k : Kept) : (placeLot t k).besideLots = k.besideLots := by
  unfold placeLot
  split
  · rfl
  · dsimp only
    split <;> rfl

theorem placeLots_besideLots (k : Kept) : (placeLots k).besideLots = k.besideLots :=
  foldl_keeps _ Kept.besideLots (fun k t => placeLot_besideLots t k) _ k

theorem placeLot_same (t : Fin 3) (k : Kept) : (placeLot t k).tanks[t].lot = k.tanks[t].lot.map Lot.afterRestore := by
  cases hl : k.tanks[t].lot with
  | none => rw [placeLot, hl, Option.map_none]; exact hl
  | some l =>
    have hplaced (tanks : Vector Tank 3) (state : LotState)
        (h : tanks = modAt k.tanks t fun _ => { state := .closed, lot := some { l with state := state } }) :
        tanks[t].lot = some { l with state := state } := by
      rw [h, modAt_same]
    have hkept (state : LotState) (h : l.state = state) : k.tanks[t].lot = some { l with state := state } := by
      rw [hl, ← h]
    rw [placeLot, hl, Option.map_some, Lot.afterRestore]
    dsimp only
    cases hs : l.state with
    | sampling => exact hplaced _ _ rfl
    | discharging => exact hplaced _ _ rfl
    | polishing => exact hplaced _ _ rfl
    | filling => exact hkept _ hs
    | settling => exact hkept _ hs
    | sampleWait => exact hkept _ hs
    | queued => exact hkept _ hs
    | polishWait => exact hkept _ hs
    | held => exact hkept _ hs

theorem placeLot_other {t u : Fin 3} (h : u ≠ t) (k : Kept) : (placeLot t k).tanks[u].lot = k.tanks[u].lot := by
  have hother (f : Tank → Tank) : (modAt k.tanks t f)[u] = k.tanks[u] := modAt_other _ _ _ _ h.symm
  unfold placeLot
  split
  · rfl
  · dsimp only
    split
    · exact congrArg Tank.lot (hother _)
    · exact congrArg Tank.lot (hother _)
    · exact congrArg Tank.lot (hother _)
    all_goals rfl

theorem placeLots_lot (k : Kept) (t : Fin 3) : (placeLots k).tanks[t].lot = k.tanks[t].lot.map Lot.afterRestore :=
  foldl_entry (fun k t => placeLot t k) (fun k t => k.tanks[t].lot) (fun _ => ()) (fun _ _ o => o.map Lot.afterRestore)
    (fun _ _ => rfl) (fun k t => placeLot_same t k) (fun k t u h => placeLot_other h k) k t

/-- What the placement of the lots and the permit's judgement leave of a restored image. -/
theorem Kept.restored_eq {k m : Kept} (h : m.besidePermit = (placeLots k).besidePermit) :
    m.accounts = k.accounts ∧ m.channels = k.channels ∧ m.analyzers = k.analyzers ∧ m.films = k.films ∧
      m.lines = k.lines ∧ m.cells = k.cells ∧ m.tankSettings = k.tankSettings ∧ m.plant = k.plant ∧
      m.alertMask = k.alertMask ∧ m.noticeMask = k.noticeMask ∧ m.train = k.train ∧ m.history = k.history ∧
      m.dayHistory = k.dayHistory ∧ m.day.total = k.day.total ∧ m.day.number = k.day.number ∧
      ∀ (u : Fin 3) (l : Lot), k.tanks[u].lot = some l → m.tanks[u].lot = some l.afterRestore := by
  have hkept : m.besidePermit.besideLots = k.besideLots.besidePermit :=
    (congrArg Kept.besideLots h).trans (congrArg Kept.besidePermit (placeLots_besideLots k))
  have htanks : m.tanks = (placeLots k).tanks := congrArg (·.tanks) h
  exact ⟨congrArg (·.accounts) hkept, congrArg (·.channels) hkept, congrArg (·.analyzers) hkept,
    congrArg (·.films) hkept, congrArg (·.lines) hkept, congrArg (·.cells) hkept, congrArg (·.tankSettings) hkept,
    congrArg (·.plant) hkept, congrArg (·.alertMask) hkept, congrArg (·.noticeMask) hkept,
    congrArg (·.train) hkept, congrArg (·.history) hkept, congrArg (·.dayHistory) hkept,
    congrArg (·.day.total) hkept, congrArg (·.day.number) hkept,
    fun u l hl => by rw [htanks, placeLots_lot, hl, Option.map_some]⟩

/-! ### The end of the self-test -/

/-- The state in which the blocks begin, for a self-test's findings and what the restore has read. -/
def State.starting (s : State) (memoryGood storeReadable : Bool) (image : Option Kept) : State :=
  { s with
    phase := .restoring
    supply := { s.supply with hold := false, recovery := none }
    store := { s.store with image := if image.isSome then s.store.image else none }
    startUp :=
      { selfTestPassed := memoryGood && storeReadable, restored := image.isSome, restoreStands := image.isNone,
        levels := none } }

/-- The lasting state that the blocks begin with. -/
def begunFrom (image : Option Kept) : Kept :=
  (image.map placeLots).getD Kept.fresh

/-- The blocks as they begin, and the cells that enter PRIMING. -/
theorem startFrom_begun (memoryGood storeReadable : Bool) (image : Option Kept) (s : State) :
    let k := begunFrom image
    let x := s.starting memoryGood storeReadable image
    ∃ (u : State) (cells : Vector Cell 4),
      startFrom memoryGood storeReadable image s = { u with cells := cells } ∧
        Begun k x (Decidable.decide (s.supply.level < thresholdOf k.plant.threshold)) u.outset ∧
        (k.permit.active = none → k.permit.next = none → u.kept = k) ∧
        ∀ c : Fin 4, cells[c] = if u.kept.autostarts c then u.cells[c].primingFrom u.now else u.cells[c] := by
  intro k x
  obtain ⟨hkept, hbegun⟩ := begun_of_judged (k := k) (x := x) rfl rfl
  generalize hj : firstJudgement (latchResults (blocksAtStart k x)) = judged at hkept hbegun
  have hstart : startFrom memoryGood storeReadable image s =
      (List.finRange 4).foldl (fun s c => autostart c s)
        (latchCap (checkRestored (latchStanding (firstJudgement (latchResults (blocksAtStart k x)))))) := rfl
  rw [hj] at hstart
  have hstanding := latchStanding_outset judged
  have hquiet : Quiet judged := by
    have hpath : judged.path = _ := hbegun.path
    have hclock : judged.clock.running = false := hbegun.clock
    exact ⟨by rw [hpath]; rfl, by rw [hpath]; rfl, hclock⟩
  have houtset : (latchCap (checkRestored (latchStanding judged))).outset = judged.outset :=
    ((latchCap_outset _).trans (checkRestored_outset (hquiet.of_outset hstanding))).trans hstanding
  have hunset : k.permit.active = none → k.permit.next = none →
      (latchCap (checkRestored (latchStanding judged))).kept = k := fun hactive hnext => by
    have hstandingKept : (latchStanding judged).kept = k := (latchStanding_kept judged).trans hkept
    have hactive : (latchStanding judged).kept.permit.active = none := by rw [hstandingKept]; exact hactive
    have hnext : (latchStanding judged).kept.permit.next = none := by rw [hstandingKept]; exact hnext
    rw [checkRestored_unset hactive hnext, latchCap_unset hactive, hstandingKept]
  generalize latchCap (checkRestored (latchStanding judged)) = u at hstart houtset hunset
  rw [← houtset] at hbegun
  have hcell (c : Fin 4) : u.cells[c] = _ := hbegun.cells c
  obtain ⟨cells, hfold, hcells⟩ := autostarts_eq (s := u) fun c => by rw [hcell]; rfl
  exact ⟨u, cells, hstart.trans hfold, hbegun, hunset, hcells⟩

/-- A restore that fails starts afresh. -/
theorem readBack_fails {s : State} {storeReadable imageMatches : Bool}
    (h : ¬(storeReadable = true ∧ imageMatches = true) ∨ s.store.image = none ∨
      ∃ i, s.store.image = some i ∧ i.crc ≠ crc32 (Config.imageBytes i.content)) :
    s.store.readBack storeReadable imageMatches = none := by
  refine Store.readBack_none _ _ _ (h.imp_left fun hbad => ?_)
  rw [← Bool.not_eq_true, Bool.and_eq_true]
  exact hbad

end Sys2Proof.Machine

namespace Sys2Proof.Settled

open Sys2Proof Sys2Proof.Machine

/-- Settles O58: the blocks as they begin, and what the restore has read. -/
theorem imageRestored : Obligations.ImageRestored := by
  intro dt s memoryGood storeReadable imageMatches i good
  let x := s.after dt
  have hexec : exec i s =
      .next (if s.phase = .selfTest then endSelfTest memoryGood storeReadable imageMatches x else x) := rfl
  refine ⟨fun hphase => ?_, fun hphase => ?_⟩
  · rw [hexec, if_neg hphase]
  · rw [if_pos hphase] at hexec
    have hends : endSelfTest memoryGood storeReadable imageMatches x =
      startFrom memoryGood storeReadable (s.store.readBack storeReadable imageMatches) x := rfl
    generalize hread : s.store.readBack storeReadable imageMatches = image at hends
    obtain ⟨u, cells, hstart, hbegun, hunset, hcells⟩ := startFrom_begun memoryGood storeReadable image x
    rw [hends, hstart] at hexec
    have hplant : u.kept.plant = (begunFrom image).plant := congrArg (·.plant) hbegun.kept
    have hnow : u.now = s.now + dt := hbegun.now
    rw [← hplant] at hbegun
    have hcell (c : Fin 4) : u.cells[c] = _ := hbegun.cells c
    refine ⟨_, hexec, hbegun.phase, hbegun.clock, hbegun.enable, congrArg Path.state hbegun.path, hbegun.clockUnset,
      hbegun.selfTestFailed.trans (Bool.not_and _ _), ?_, fun hbad => ?_, fun k hgood himage => ?_⟩
    · refine ⟨hbegun.supply, hbegun.supplyLow, hbegun.sump, hbegun.sampler, congrArg Path.hold hbegun.path, hbegun.loops,
        congrArg (·.inFlight) hbegun.store, congrArg (·.waiting) hbegun.store,
        fun c => ⟨?_, fun hauto => ?_, fun hauto => ?_⟩⟩
      · rw [hcells]
        split <;> (rw [hcell]; rfl)
      · have hstarts : u.kept.autostarts c = true := Bool.and_eq_true_iff.mpr hauto
        rw [hcells, if_pos hstarts, hcell, hnow]
        exact ⟨rfl, rfl⟩
      · have hstays : ¬u.kept.autostarts c = true := fun hstarts => by
          obtain ⟨hon, hline⟩ := Bool.and_eq_true_iff.mp hstarts
          rcases hauto with h | h
          · exact Bool.false_ne_true (h.symm.trans hon)
          · rw [show u.kept.cells[c].line = none from h] at hline; cases hline
        rw [hcells, if_neg hstays, hcell]
        rfl
    · have hnone : image = none := hread.symm.trans (readBack_fails (s := s) hbad)
      subst hnone
      exact ⟨hunset rfl rfl, congrArg (·.image) hbegun.store, hbegun.restoreFailed⟩
    · obtain ⟨hreadable, hmatches⟩ := hgood
      have hsome : image = some k := by
        rw [← hread, hreadable, hmatches]
        exact Store.readBack_good _ _ himage rfl
      subst hsome
      exact ⟨hbegun.restoreFailed, Kept.restored_eq hbegun.kept⟩

end Sys2Proof.Settled
end

section
/-! PROOFS of O23 and O34. Wash Control: the targets of RUNNING and TRICKLE, what a loop does on its film's events and on
its line's new settings, and the judgement of a wash cycle (R63 to R73). -/

namespace Sys2Proof.Machine

open Sys2Proof

/-! ### Targets (R68, R69) -/

/-- The target in RUNNING of a line whose film runs at a rate, with the backup restriction in force or not. -/
def LineSettings.runningTarget (line : LineSettings) (rate : Nat) (backup : Bool) : Nat :=
  let film := rate * line.washRatio / 1000
  if backup then min film line.trickle else film

/-- The loop with a target computed and its open fraction staged; under the hold mark no fraction is staged. -/
def WashLoop.aimedAt (target rated : Nat) (k : WashLoop) : WashLoop :=
  { k with
    target := some target
    staged := if k.hold then none else some (openFraction target rated) }

theorem State.modLoop_id (s : State) (l : Fin 4) : s.modLoop l id = s := by
  have hloops : modAt s.loops l id = s.loops := modAt_id s.loops l rfl
  rw [State.modLoop, hloops]

section
variable {l : Fin 4} {s : State} {line : LineSettings} {rate : Nat}

theorem retarget_of {q : Nat} (h : s.washTarget l = some q) (hline : s.kept.lines[l] = line) :
    retarget l s = s.modLoop l (·.aimedAt q line.ratedFlow) := by
  rw [retarget, h, hline]
  rfl

theorem retarget_running (hstate : s.loops[l].state = .running) (hline : s.kept.lines[l] = line)
    (hrate : s.lines[l].filmRate = rate) :
    retarget l s = s.modLoop l (·.aimedAt (line.runningTarget rate s.loops[l].backup) line.ratedFlow) := by
  have htarget : s.washTarget l = some (line.runningTarget rate s.loops[l].backup) := by
    simp only [State.washTarget, hstate, State.filmFlow, hline, hrate, LineSettings.runningTarget]
  exact retarget_of htarget hline

theorem retarget_trickle (hstate : s.loops[l].state = .trickle) (hline : s.kept.lines[l] = line) :
    retarget l s = s.modLoop l (·.aimedAt line.trickle line.ratedFlow) := by
  have htarget : s.washTarget l = some line.trickle := by simp only [State.washTarget, hstate, hline]
  exact retarget_of htarget hline

/-- A change that leaves a loop in RUNNING, and its target computed then. -/
theorem retarget_modLoop_running (f : WashLoop → WashLoop) (hstate : (f s.loops[l]).state = .running)
    (hbackup : (f s.loops[l]).backup = s.loops[l].backup) (hline : s.kept.lines[l] = line)
    (hrate : s.lines[l].filmRate = rate) :
    retarget l (s.modLoop l f) = s.modLoop l fun k =>
      (f k).aimedAt (line.runningTarget rate s.loops[l].backup) line.ratedFlow := by
  have hloop : (s.modLoop l f).loops[l] = f s.loops[l] := modAt_same _ _ _
  rw [retarget_running ((congrArg WashLoop.state hloop).trans hstate) hline hrate, hloop, hbackup, State.modLoop_twice]

/-- A change that leaves a loop in TRICKLE, and its target computed then. -/
theorem retarget_modLoop_trickle (f : WashLoop → WashLoop) (hstate : (f s.loops[l]).state = .trickle)
    (hline : s.kept.lines[l] = line) :
    retarget l (s.modLoop l f) = s.modLoop l fun k => (f k).aimedAt line.trickle line.ratedFlow := by
  have hloop : (s.modLoop l f).loops[l].state = .trickle := (congrArg WashLoop.state (modAt_same _ _ _)).trans hstate
  rw [retarget_trickle hloop hline, State.modLoop_twice]

/-! ### RUNNING and the film's events (R63, R66, R67) -/

theorem washRun_eq (hline : s.kept.lines[l] = line) (hrate : s.lines[l].filmRate = rate) :
    washRun l s = s.modLoop l fun k =>
      { k with state := .running, stop := none, lowFlow := 0 }.aimedAt
        (line.runningTarget rate s.loops[l].backup) line.ratedFlow :=
  retarget_modLoop_running _ rfl rfl hline hrate

theorem washRun_state : (washRun l s).loops[l].state = .running := by
  rw [washRun_eq rfl rfl]
  exact congrArg WashLoop.state (modAt_same _ _ _)

/-- A loop that has entered RUNNING has its target already. -/
theorem retarget_washRun : retarget l (washRun l s) = washRun l s := by
  rw [retarget_running washRun_state rfl rfl, washRun_eq rfl rfl, State.modLoop_loops, modAt_same, State.modLoop_twice]
  rfl

theorem filmStarted_runs (h : s.loops[l].state = .idle ∨ s.loops[l].state = .trickle) :
    filmStarted l s = washRun l s := by
  rcases h with h | h <;> simp only [filmStarted, h]

theorem filmStarted_stays (h : s.loops[l].state = .off ∨ s.loops[l].state = .running) : filmStarted l s = s := by
  rcases h with h | h <;> simp only [filmStarted, h]

theorem filmRateChanged_retargets (h : s.loops[l].state = .running) : filmRateChanged l s = retarget l s := by
  simp only [filmRateChanged, h]

theorem filmRateChanged_stays (h : s.loops[l].state ≠ .running) : filmRateChanged l s = s := by
  unfold filmRateChanged
  split
  · exact absurd ‹_› h
  all_goals rfl

/-- With a stop timeout of 0 a loop goes from RUNNING to IDLE at once. -/
theorem filmStopped_idles (h : s.loops[l].state = .running) (htimeout : s.kept.lines[l].stopTimeout = 0) :
    filmStopped l s = washIdle l (s.modLoop l WashLoop.unwatched) := by
  simp only [filmStopped, h, htimeout, if_true]

/-- With a stop timeout above 0 a loop goes from RUNNING to TRICKLE, and its stop timer starts. -/
theorem filmStopped_trickles (h : s.loops[l].state = .running) (hline : s.kept.lines[l] = line)
    (htimeout : line.stopTimeout ≠ 0) :
    filmStopped l s = s.modLoop l fun k =>
      { k.unwatched with
        state := .trickle, stop := some (s.timer (line.stopTimeout * sec)) }.aimedAt line.trickle line.ratedFlow := by
  simp only [filmStopped, h, hline, if_neg htimeout]
  rw [State.modLoop_twice]
  exact retarget_modLoop_trickle _ rfl hline

theorem filmStopped_stays (h : s.loops[l].state ≠ .running) : filmStopped l s = s := by
  unfold filmStopped
  split
  · exact absurd ‹_› h
  all_goals rfl

end

/-! ### The film's rate (R63) -/

/-- The Line Unit with the rate and the motion of an update. -/
def State.filmAt (s : State) (l : Fin 4) (rate : Nat) (moving : Bool) : State :=
  s.modLine l fun _ => { filmRate := rate, filmMoving := moving }

section
variable {l : Fin 4} {rate : Nat} {moving : Bool} {s : State}

theorem State.filmAt_rate (s : State) (l : Fin 4) (rate : Nat) (moving : Bool) :
    (s.filmAt l rate moving).lines[l].filmRate = rate := congrArg LineUnit.filmRate (modAt_same _ _ _)

theorem lineRateUpdate_starts (hwas : s.lines[l].filmMoving = false) :
    lineRateUpdate l rate true s = filmStarted l (s.filmAt l rate true) := by
  simp only [lineRateUpdate, hwas]
  rfl

theorem lineRateUpdate_stops (hwas : s.lines[l].filmMoving = true) :
    lineRateUpdate l rate false s = filmStopped l (s.filmAt l rate false) := by
  simp only [lineRateUpdate, hwas]
  rfl

theorem lineRateUpdate_changes (hwas : s.lines[l].filmMoving = true) :
    lineRateUpdate l rate true s = filmRateChanged l (s.filmAt l rate true) := by
  simp only [lineRateUpdate, hwas]
  rfl

theorem lineRateUpdate_still (hwas : s.lines[l].filmMoving = false) :
    lineRateUpdate l rate false s = s.filmAt l rate false := by
  simp only [lineRateUpdate, hwas]
  rfl

/-- An update whose event finds the loop in a state that does not take it reaches the Line Unit alone. -/
theorem lineRateUpdate_unheard
    (h : (s.lines[l].filmMoving = false ∧ moving = false) ∨
      (s.lines[l].filmMoving = false ∧ (s.loops[l].state = .off ∨ s.loops[l].state = .running)) ∨
      (s.lines[l].filmMoving = true ∧ s.loops[l].state ≠ .running)) :
    lineRateUpdate l rate moving s = s.filmAt l rate moving := by
  rcases h with ⟨hwas, hmoving⟩ | ⟨hwas, hstate⟩ | ⟨hwas, hstate⟩
  · rw [hmoving, lineRateUpdate_still hwas]
  · cases moving with
    | false => exact lineRateUpdate_still hwas
    | true => exact (lineRateUpdate_starts hwas).trans (filmStarted_stays hstate)
  · cases moving with
    | false => exact (lineRateUpdate_stops hwas).trans (filmStopped_stays hstate)
    | true => exact (lineRateUpdate_changes hwas).trans (filmRateChanged_stays hstate)

end

/-! ### SET LINE (R64) -/

/-- R64, steps 1 and 2: the loop follows the enabled flag. -/
def followEnabled (l : Fin 4) (old new : LineSettings) (s : State) : State :=
  if old.enabled && !new.enabled then washOff l s
  else if !old.enabled && new.enabled then
    if s.lines[l].filmMoving then washRun l s else washIdle l s
  else s

/-- R64, step 3: a running stop timer of a loop in TRICKLE is judged against a changed stop timeout. -/
def judgeStop (l : Fin 4) (old new : LineSettings) (now : Micros) (s : State) : State :=
  match s.loops[l].state, s.loops[l].stop with
  | .trickle, some t =>
    if old.stopTimeout = new.stopTimeout then s
    else if t.start + new.stopTimeout * sec ≤ now then washIdle l s
    else s.modLoop l fun k => { k with stop := some { t with len := new.stopTimeout * sec } }
  | _, _ => s

section
variable {l : Fin 4} {old new : LineSettings} {s : State}

/-- The steps of R64 in their order. -/
theorem loopTakesLine_eq (hnew : s.kept.lines[l] = new) :
    loopTakesLine l old s = retargetIfActive l (judgeStop l old new s.now (followEnabled l old new s)) := by
  subst hnew
  rfl

theorem followEnabled_unchanged (h : old.enabled = new.enabled) : followEnabled l old new s = s := by
  cases hn : new.enabled <;> simp [followEnabled, h, hn]

theorem followEnabled_off (hwas : old.enabled = true) (his : new.enabled = false) :
    followEnabled l old new s = washOff l s := by
  simp only [followEnabled, hwas, his, Bool.not_false, Bool.and_self, if_true]

theorem followEnabled_on (hwas : old.enabled = false) (his : new.enabled = true) :
    followEnabled l old new s = if s.lines[l].filmMoving then washRun l s else washIdle l s := by
  simp only [followEnabled, hwas, his, Bool.false_and, Bool.not_false, Bool.and_self, Bool.false_eq_true, if_false,
    if_true]

theorem followEnabled_still (hwas : old.enabled = false) (his : new.enabled = true)
    (hfilm : s.lines[l].filmMoving = false) : followEnabled l old new s = washIdle l s :=
  (followEnabled_on hwas his).trans (if_neg (Bool.eq_false_iff.mp hfilm))

theorem followEnabled_moving (hwas : old.enabled = false) (his : new.enabled = true)
    (hfilm : s.lines[l].filmMoving = true) : followEnabled l old new s = washRun l s :=
  (followEnabled_on hwas his).trans (if_pos hfilm)

theorem judgeStop_stays {now : Micros} (h : s.loops[l].state ≠ .trickle) : judgeStop l old new now s = s := by
  unfold judgeStop
  split
  · exact absurd ‹_› h
  · rfl

theorem judgeStop_trickle {now : Micros} {t : Timer} (hstate : s.loops[l].state = .trickle)
    (hstop : s.loops[l].stop = some t) :
    judgeStop l old new now s =
      if old.stopTimeout = new.stopTimeout then s
      else if t.start + new.stopTimeout * sec ≤ now then washIdle l s
      else s.modLoop l fun k => { k with stop := some { t with len := new.stopTimeout * sec } } := by
  simp only [judgeStop, hstate, hstop]

theorem retargetIfActive_active (h : s.loops[l].state = .running ∨ s.loops[l].state = .trickle) :
    retargetIfActive l s = retarget l s := if_pos (by simpa using h)

theorem retargetIfActive_rests (h : s.loops[l].state = .off ∨ s.loops[l].state = .idle) :
    retargetIfActive l s = s := by
  rcases h with h | h <;> exact if_neg (by rw [h]; decide)

/-- A loop that steps 1 and 2 leave in OFF or IDLE takes neither step 3 nor step 4. -/
theorem loopTakesLine_rests {t : State} (hnew : s.kept.lines[l] = new) (ht : followEnabled l old new s = t)
    (h : t.loops[l].state = .off ∨ t.loops[l].state = .idle) : loopTakesLine l old s = t := by
  have htrickle : t.loops[l].state ≠ .trickle := by rcases h with h | h <;> (rw [h]; decide)
  rw [loopTakesLine_eq hnew, ht, judgeStop_stays htrickle, retargetIfActive_rests h]

/-- A loop that steps 1 and 2 leave in RUNNING computes its target. -/
theorem loopTakesLine_runs {t : State} (hnew : s.kept.lines[l] = new) (ht : followEnabled l old new s = t)
    (h : t.loops[l].state = .running) : loopTakesLine l old s = retarget l t := by
  rw [loopTakesLine_eq hnew, ht, judgeStop_stays (by rw [h]; decide), retargetIfActive_active (.inl h)]

theorem washIdle_state : (washIdle l s).loops[l].state = .idle := congrArg WashLoop.state (modAt_same _ _ _)

theorem washOff_state : (washOff l s).loops[l].state = .off := congrArg WashLoop.state (modAt_same _ _ _)

theorem loopTakesLine_disabled (hnew : s.kept.lines[l] = new) (hwas : old.enabled = true) (his : new.enabled = false) :
    loopTakesLine l old s = washOff l s :=
  loopTakesLine_rests hnew (followEnabled_off hwas his) (.inl washOff_state)

theorem loopTakesLine_enabled_still (hnew : s.kept.lines[l] = new) (hwas : old.enabled = false)
    (his : new.enabled = true) (hfilm : s.lines[l].filmMoving = false) : loopTakesLine l old s = washIdle l s :=
  loopTakesLine_rests hnew (followEnabled_still hwas his hfilm) (.inr washIdle_state)

theorem loopTakesLine_enabled_moving (hnew : s.kept.lines[l] = new) (hwas : old.enabled = false)
    (his : new.enabled = true) (hfilm : s.lines[l].filmMoving = true) : loopTakesLine l old s = washRun l s :=
  (loopTakesLine_runs hnew (followEnabled_moving hwas his hfilm) washRun_state).trans retarget_washRun

/-- A loop in TRICKLE with its line still enabled, or still disabled, goes through steps 3 and 4. -/
theorem loopTakesLine_trickle {t : Timer} (hnew : s.kept.lines[l] = new) (henabled : old.enabled = new.enabled)
    (hstate : s.loops[l].state = .trickle) (hstop : s.loops[l].stop = some t) :
    loopTakesLine l old s =
      if old.stopTimeout = new.stopTimeout then retarget l s
      else if t.start + new.stopTimeout * sec ≤ s.now then washIdle l s
      else retarget l (s.modLoop l fun k => { k with stop := some { t with len := new.stopTimeout * sec } }) := by
  rw [loopTakesLine_eq hnew, followEnabled_unchanged henabled, judgeStop_trickle hstate hstop]
  split
  · exact retargetIfActive_active (.inr hstate)
  split
  · exact retargetIfActive_rests (.inr washIdle_state)
  · exact retargetIfActive_active (.inr ((congrArg WashLoop.state (modAt_same _ _ _)).trans hstate))

end

/-- The state with a line's new settings written. -/
def lineWritten (l : Fin 4) (k : LineSettings) (s : State) : State :=
  { s with kept := { s.kept with lines := s.kept.lines.set l.val k } }

theorem lineWritten_line (l : Fin 4) (k : LineSettings) (s : State) : (lineWritten l k s).kept.lines[l] = k :=
  modAt_same s.kept.lines l fun _ => k

theorem serveSetLine_eq {f : LineFields} {l : Fin 4} (s : State) (hl : f.line = l.val + 1) (hf : f.inRange = true) :
    serveSetLine f s = ok (loopTakesLine l s.kept.lines[l] (lineWritten l f.settings s)) := by
  have hn : numbered 4 f.line = some l := (numbered_eq_some l).mpr hl
  simp only [serveSetLine, hn, hf, if_true]
  rfl

/-- What the wash loop meets when a SET LINE is taken: the settings written, whatever the Plant Link holds. -/
def lineTaken (dt : Micros) (l : Fin 4) (f : LineFields) (s : State) (k : Link) : State :=
  lineWritten l f.settings { s.after dt with link := k }

theorem lineTaken_line (dt : Micros) (l : Fin 4) (f : LineFields) (s : State) (k : Link) :
    (lineTaken dt l f s k).kept.lines[l] = f.settings := lineWritten_line _ _ _

/-- A SET LINE in range writes the settings and changes its loop as the new settings make it. -/
theorem hostRequest_setLine {f : LineFields} {l : Fin 4} (dt : Micros) (tag : Byte) (s : State) (ready : LinkReady 1 s)
    (hl : f.line = l.val + 1) (hf : f.inRange = true) (g : WashLoop → WashLoop)
    (hg : ∀ k : Link, loopTakesLine l s.kept.lines[l] (lineTaken dt l f s k) = (lineTaken dt l f s k).modLoop l g) :
    hostRequest dt (Request.kind (.setLine f)) tag (.setLine f) s =
      withStatus (.setLine f) tag .ok ((lineWritten l f.settings (s.after dt)).modLoop l g) :=
  hostRequest_acts dt tag (.setLine f) s .empty (fun x => (lineWritten l f.settings x).modLoop l g) ready rfl
    (passesHold s rfl) ((serveSetLine_eq _ hl hf).trans (congrArg ok (hg _))) fun _ => rfl

/-! ### Wash cycles (R70 to R72) -/

/-- What the start of a cycle at a time makes of a loop that has been judged: a staged fraction is applied, and the
measured volume begins at 0. -/
def WashLoop.cycled (now len : Micros) (k : WashLoop) : WashLoop :=
  let fraction := k.staged.getD k.applied
  { k with
    applied := fraction, staged := none, cycleVolume := 0
    watched := Decidable.decide (k.state = .running ∧ k.hold = false ∧ 100 ≤ fraction)
    cycle := { start := now, len := len } }

section
variable {l : Fin 4} {s : State}

theorem startCycle_eq : startCycle l s =
    (judgeCycle l s).modLoop l (·.cycled s.now (s.kept.lines[l].washCycle * sec)) := by
  unfold startCycle
  refine State.modLoop_congr ?_
  simp only [WashLoop.cycled, State.timer, Bool.decide_and, Bool.decide_eq_false, Bool.and_assoc]

/-- A cycle that was not watched is not judged. -/
theorem judgeCycle_unwatched (h : s.loops[l].watched = false) : judgeCycle l s = s :=
  if_neg (Bool.eq_false_iff.mp h)

/-- A watched cycle that brought half of what it commanded passes. -/
theorem judgeCycle_passes (h : s.loops[l].watched = true)
    (hv : ¬s.loops[l].cycleVolume * 2 < s.commandedVolume l) :
    judgeCycle l s = s.modLoop l fun k => { k with lowFlow := 0 } := by
  simp only [judgeCycle, h, hv, if_true, if_false]

/-- A failing cycle is counted, and the third latches WASH_LOW. -/
theorem judgeCycle_fails (h : s.loops[l].watched = true) (hv : s.loops[l].cycleVolume * 2 < s.commandedVolume l) :
    judgeCycle l s =
      let failed := s.modLoop l fun k => { k with lowFlow := min (k.lowFlow + 1) 3 }
      if s.loops[l].lowFlow = 2 then latch (.washLow l) failed else failed := by
  simp only [judgeCycle, h, hv, if_true]

/-- A cycle start after a judgement that changed the low-flow count alone. -/
theorem startCycle_of_judged {n : Nat} (h : judgeCycle l s = s.modLoop l fun k => { k with lowFlow := n }) :
    startCycle l s =
      s.modLoop l fun k => { k with lowFlow := n }.cycled s.now (s.kept.lines[l].washCycle * sec) := by
  rw [startCycle_eq, h, State.modLoop_twice]

/-- The cycle start that finds the third failing cycle. -/
theorem startCycle_latches (h : s.loops[l].watched = true) (hv : s.loops[l].cycleVolume * 2 < s.commandedVolume l)
    (hcount : s.loops[l].lowFlow = 2) :
    startCycle l s = (latch (.washLow l) (s.modLoop l fun k => { k with lowFlow := 3 })).modLoop l
      (·.cycled s.now (s.kept.lines[l].washCycle * sec)) := by
  have hfailed : s.modLoop l (fun k => { k with lowFlow := min (k.lowFlow + 1) 3 }) =
      s.modLoop l fun k => { k with lowFlow := 3 } := State.modLoop_congr (by rw [hcount]; rfl)
  rw [startCycle_eq, judgeCycle_fails h hv, if_pos hcount, hfailed]

end

end Sys2Proof.Machine

namespace Sys2Proof.Settled

open Sys2Proof Sys2Proof.Machine

/-- Settles O23: the steps of R64 on the written settings, by the enabled flag before and after and the loop's state. -/
theorem lineSet : Obligations.LineSet := by
  intro dt tag s l f ready hl hf was written becomes aimed film running idle
  have acts (g : WashLoop → WashLoop)
      (hg : ∀ k, loopTakesLine l was (lineTaken dt l f s k) = (lineTaken dt l f s k).modLoop l g) : becomes g :=
    congrArg Host.Outcome.next (hostRequest_setLine dt tag s ready hl hf g hg)
  have hnew := lineTaken_line dt l f s
  have enabled {n : Nat} (h : f.enabled = n) : f.settings.enabled = decide (n = 1) := by rw [← h]; rfl
  refine ⟨fun hwas his => ?_, fun hwas his still => ?_, fun hwas his moves => ?_,
    fun same => ⟨fun rests => ?_, fun runs => ?_, fun t trickles stop => ⟨fun kept => ?_, fun changed reached => ?_,
      fun changed notOver => ?_⟩⟩⟩
  · exact acts _ fun k => loopTakesLine_disabled (hnew k) hwas (enabled his)
  · exact acts _ fun k => loopTakesLine_enabled_still (hnew k) hwas (enabled his) still
  · exact acts _ fun k =>
      (loopTakesLine_enabled_moving (hnew k) hwas (enabled his) moves).trans (washRun_eq (hnew k) rfl)
  · exact acts _ fun k =>
      (loopTakesLine_rests (hnew k) (followEnabled_unchanged same) rests).trans (State.modLoop_id _ l).symm
  · exact acts _ fun k =>
      (loopTakesLine_runs (hnew k) (followEnabled_unchanged same) runs).trans
        (retarget_running (s := lineTaken dt l f s k) runs (hnew k) rfl)
  · exact acts _ fun k => (loopTakesLine_trickle (hnew k) same trickles stop).trans
      ((if_pos kept).trans (retarget_trickle (s := lineTaken dt l f s k) trickles (hnew k)))
  · exact acts _ fun k => (loopTakesLine_trickle (hnew k) same trickles stop).trans
      ((if_neg changed).trans (if_pos reached))
  · exact acts _ fun k => (loopTakesLine_trickle (hnew k) same trickles stop).trans
      ((if_neg changed).trans ((if_neg (Nat.not_le.mpr notOver)).trans (retarget_modLoop_trickle _ trickles (hnew k))))

/-- Settles O34: the judgement of the cycle before, the stop timeout, and the film's events by what the film did before
and the loop's state. -/
theorem washCycle : Obligations.WashCycle := by
  refine ⟨fun dt s l awake => ?_, fun s l rate moving => ?_⟩
  · intro x k commanded short fraction started
    refine ⟨fun due => ?_, fun due => congrArg Host.Outcome.next (whenDue_of (s := x) awake due (washIdle l))⟩
    have hexec : exec (.washCycleStart dt l) s = .next (startCycle l x) :=
      congrArg Host.Outcome.next (whenDue_of (s := x) (t := some k.cycle) awake due (startCycle l))
    rw [hexec]
    refine ⟨fun unwatched => ?_, fun watched passed => ?_, fun failed few => ?_, fun failed third => ?_⟩
    · rw [startCycle_eq, judgeCycle_unwatched (s := x) unwatched]
      exact congrArg _ (State.modLoop_congr rfl)
    · have hpass := judgeCycle_passes (s := x) watched fun hv => passed ⟨watched, hv⟩
      rw [startCycle_of_judged hpass]
      exact congrArg _ (State.modLoop_congr rfl)
    · obtain ⟨watched, hv⟩ := failed
      have hfail := (judgeCycle_fails (s := x) watched hv).trans (if_neg few)
      rw [startCycle_of_judged (hfail.trans (State.modLoop_congr rfl))]
      exact congrArg _ (State.modLoop_congr rfl)
    · obtain ⟨watched, hv⟩ := failed
      rw [startCycle_latches (s := x) watched hv third]
      refine congrArg _ (State.modLoop_congr ?_)
      rw [latch_loops]
      have hloop : (x.modLoop l fun k => { k with lowFlow := 3 }).loops[l] = { k with lowFlow := 3 } := modAt_same _ _ _
      rw [hloop]
      rfl
  · intro was state line heard becomes aimed film running
    refine ⟨fun hwas hmoving hstate => ?_, fun hwas hmoving hstate => ⟨fun htimeout => ?_, fun htimeout => ?_⟩,
      fun hwas hmoving hstate => ?_, lineRateUpdate_unheard, rfl, rfl, fun dt c awake role due => ?_⟩
    · subst hmoving
      exact (lineRateUpdate_starts hwas).trans
        ((filmStarted_runs (s := heard) hstate).trans (washRun_eq rfl (s.filmAt_rate l rate true)))
    · subst hmoving
      exact (lineRateUpdate_stops hwas).trans (filmStopped_trickles (s := heard) hstate rfl htimeout)
    · subst hmoving
      exact (lineRateUpdate_stops hwas).trans
        ((filmStopped_idles (s := heard) hstate htimeout).trans (heard.modLoop_twice l _ _))
    · subst hmoving
      exact (lineRateUpdate_changes hwas).trans
        ((filmRateChanged_retargets (s := heard) hstate).trans
          (retarget_running hstate rfl (s.filmAt_rate l rate true)))
    · have hstale : exec (.channelStale dt c) s = .next (goStale c (s.after dt)) :=
        congrArg Host.Outcome.next (whenDue_of (s := s.after dt) awake due (goStale c))
      have hrole : (s.after dt).kept.channels[c].role = .wash l := role
      rw [hstale, goStale, hrole]
      rfl

end Sys2Proof.Settled
end

section
/-! SUPPORT. The cells, the wash loops, the flags and the Plant Link's queues stand apart from the tanks: the actions on
them leave every other field of the state as it is. One lemma for each action, in the order of the model's files. -/

namespace Sys2Proof.Machine

open Sys2Proof

/-- The state without its pulse channels, analyzer inputs, lines, loops, cells, flags and Plant Link: two states that
agree here agree in the lasting state, the store and the running figures of the tanks, the permit and the path. -/
def State.tankSide (s : State) : State :=
  { s with
    channels := State.reset.channels, analyzers := State.reset.analyzers, lines := State.reset.lines
    loops := State.reset.loops, cells := State.reset.cells, flags := State.reset.flags
    alertActive := State.reset.alertActive, link := State.reset.link }

section
variable (s : State)

@[simp] theorem modChannel_tankSide (i : Fin 16) (f : Channel → Channel) : (s.modChannel i f).tankSide = s.tankSide := rfl
@[simp] theorem modAnalyzer_tankSide (i : Fin 5) (f : Analyzer → Analyzer) :
    (s.modAnalyzer i f).tankSide = s.tankSide := rfl
@[simp] theorem modLoop_tankSide (i : Fin 4) (f : WashLoop → WashLoop) : (s.modLoop i f).tankSide = s.tankSide := rfl
@[simp] theorem modCell_tankSide (i : Fin 4) (f : Cell → Cell) : (s.modCell i f).tankSide = s.tankSide := rfl

@[simp] theorem handNotice_tankSide (key : Fin 33) (content : NoticeContent) :
    (handNotice key content s).tankSide = s.tankSide := by
  rw [handNotice_eq]; rfl

@[simp] theorem latch_tankSide (f : Flag) : (latch f s).tankSide = s.tankSide := by
  rw [latch_eq]; rfl

@[simp] theorem clearByPart_tankSide (f : Flag) : (clearByPart f s).tankSide = s.tankSide := by
  rw [clearByPart_eq]; rfl

@[simp] theorem latchIf_tankSide (b : Bool) (f : Flag) : (latchIf b f s).tankSide = s.tankSide := by
  unfold latchIf; split <;> simp

/-! ### Cells -/

@[simp] theorem cellFaulted_tankSide (c : Fin 4) (reason : CellFault) :
    (cellFaulted c reason s).tankSide = s.tankSide := by
  simp [cellFaulted]

@[simp] theorem finishTick_tankSide (c : Fin 4) (n : Nat) : (finishTick c n s).tankSide = s.tankSide := rfl

@[simp] theorem tickAndRestart_tankSide (c : Fin 4) : (tickAndRestart c s).tankSide = s.tankSide := by
  have htick (x : State) : (cellTick c x).tankSide = x.tankSide := by
    unfold cellTick
    split
    · simp
    · split <;> simp
    · simp
    · simp
  rw [tickAndRestart, htick, modCell_tankSide]

@[simp] theorem testPrimed_tankSide (c : Fin 4) : (testPrimed c s).tankSide = s.tankSide := by
  unfold testPrimed
  dsimp only
  split <;> simp

@[simp] theorem enterPriming_tankSide (c : Fin 4) : (enterPriming c s).tankSide = s.tankSide := by
  simp [enterPriming]

@[simp] theorem enterStandby_tankSide (c : Fin 4) : (enterStandby c s).tankSide = s.tankSide := rfl

@[simp] theorem cellLeftValid_tankSide (c : Fin 4) (state : AnalyzerState) (held : Bool) :
    (cellLeftValid c state held s).tankSide = s.tankSide := by
  unfold cellLeftValid
  dsimp only
  split
  · split <;> simp
  · simp

@[simp] theorem cellFlowChange_tankSide (c : Fin 4) (covered : Bool) :
    (cellFlowChange c covered s).tankSide = s.tankSide := by
  unfold cellFlowChange
  dsimp only
  split <;> simp

@[simp] theorem startingFlow_tankSide (c : Fin 4) : (startingFlow c s).tankSide = s.tankSide := by
  simp [startingFlow]

@[simp] theorem autostart_tankSide (c : Fin 4) : (autostart c s).tankSide = s.tankSide := by
  unfold autostart; split <;> simp

@[simp] theorem recoverCell_tankSide (c : Fin 4) : (recoverCell c s).tankSide = s.tankSide := by
  unfold recoverCell
  dsimp only
  split
  · simp
  · split <;> simp

@[simp] theorem recoverCells_tankSide : (recoverCells s).tankSide = s.tankSide :=
  foldl_keeps _ State.tankSide (fun s c => recoverCell_tankSide s c) _ s

/-! ### Wash loops -/

@[simp] theorem washRun_tankSide (l : Fin 4) : (washRun l s).tankSide = s.tankSide := rfl
@[simp] theorem washIdle_tankSide (l : Fin 4) : (washIdle l s).tankSide = s.tankSide := rfl
@[simp] theorem washOff_tankSide (l : Fin 4) : (washOff l s).tankSide = s.tankSide := rfl

@[simp] theorem ownerRate_tankSide (r : Role) (rate : Nat) (moving : Bool) :
    (ownerRate r rate moving s).tankSide = s.tankSide := by
  rw [ownerRate_eq]; rfl

@[simp] theorem startCycle_tankSide (l : Fin 4) : (startCycle l s).tankSide = s.tankSide := by
  have hjudged : (judgeCycle l s).tankSide = s.tankSide := by
    unfold judgeCycle
    dsimp only
    split
    · split
      · split <;> simp
      · simp
    · rfl
  exact (modLoop_tankSide _ _ _).trans hjudged

@[simp] theorem backupEvent_tankSide (b : Bool) : (backupEvent b s).tankSide = s.tankSide :=
  backupEvent_keeps State.tankSide modLoop_tankSide b s

@[simp] theorem retargetIfActive_tankSide (l : Fin 4) : (retargetIfActive l s).tankSide = s.tankSide := by
  unfold retargetIfActive; split <;> rfl

@[simp] theorem recoverLoops_tankSide : (recoverLoops s).tankSide = s.tankSide :=
  foldl_keeps _ State.tankSide (fun s l => retargetIfActive_tankSide (s.modLoop l _) l) _ s

@[simp] theorem loopTakesLine_tankSide (l : Fin 4) (old : LineSettings) :
    (loopTakesLine l old s).tankSide = s.tankSide := by
  have hswitched : (if old.enabled && !s.kept.lines[l].enabled then washOff l s
      else if !old.enabled && s.kept.lines[l].enabled then
        if s.lines[l].filmMoving then washRun l s else washIdle l s
      else s).tankSide = s.tankSide := by
    split
    · simp
    · split
      · split <;> simp
      · rfl
  unfold loopTakesLine
  dsimp only
  rw [retargetIfActive_tankSide]
  split
  · split
    · exact hswitched
    · split <;> simpa using hswitched
  · exact hswitched

end

end Sys2Proof.Machine
end

section
/-! SUPPORT. The tanks' states and the Retained Store: what leaves both, and what may change them while at most one tank
is FILLING (R79). -/

namespace Sys2Proof.Machine

open Sys2Proof

/-- The states of the tanks, and the Retained Store. -/
structure Table where
  states : Fin 3 → TankState
  store : Store

def State.table (s : State) : Table :=
  { states := fun t => s.kept.tanks[t].state, store := s.store }

theorem table_of_tankSide {s t : State} (h : t.tankSide = s.tankSide) : t.table = s.table :=
  show t.tankSide.table = s.tankSide.table from congrArg State.table h

section
variable (s : State)

/-! ### Actions that leave every tank's state -/

@[simp] theorem modKept_table (f : Kept → Kept) (hf : (f s.kept).tanks = s.kept.tanks) :
    (s.modKept f).table = s.table :=
  congrArg (fun v : Vector Tank 3 => ({ states := fun t => v[t].state, store := s.store } : Table)) hf

/-- A change of a tank that leaves its state. -/
theorem modTank_table (t : Fin 3) (f : Tank → Tank) (hf : (f s.kept.tanks[t]).state = s.kept.tanks[t].state) :
    (s.modTank t f).table = s.table := by
  have hstates : (fun u : Fin 3 => (modAt s.kept.tanks t f)[u].state) = fun u => s.kept.tanks[u].state := by
    funext u
    rw [modAt_get]
    split
    · next hu => rw [hf, hu]
    · rfl
  exact congrArg (fun k => { s.table with states := k }) hstates

@[simp] theorem modLot_table (t : Fin 3) (f : Lot → Lot) : (s.modLot t f).table = s.table := modTank_table s t _ rfl

@[simp] theorem modTimers_table (t : Fin 3) (f : TankTimers → TankTimers) : (s.modTimers t f).table = s.table := rfl
@[simp] theorem modPath_table (f : Path → Path) : (s.modPath f).table = s.table := rfl
@[simp] theorem modDay_table (f : Day → Day) : (s.modDay f).table = s.table := rfl
@[simp] theorem modAccounts_table (f : Accounts → Accounts) : (s.modAccounts f).table = s.table := rfl
@[simp] theorem dropFromLists_table (n : Nat) : (dropFromLists n s).table = s.table := rfl
@[simp] theorem samplerEnd_table : (samplerEnd s).table = s.table := rfl
@[simp] theorem chargeSilver_table (ng : Nat) : (chargeSilver ng s).table = s.table := rfl
@[simp] theorem addDayVolume_table (q : Nat) : (addDayVolume q s).table = s.table := rfl
@[simp] theorem setDayFlags_table (f : DayFlags → DayFlags) : (setDayFlags f s).table = s.table := rfl

@[simp] theorem handNotice_table (key : Fin 33) (content : NoticeContent) :
    (handNotice key content s).table = s.table := table_of_tankSide (handNotice_tankSide s key content)

@[simp] theorem latch_table (f : Flag) : (latch f s).table = s.table := table_of_tankSide (latch_tankSide s f)

@[simp] theorem latchIf_table (b : Bool) (f : Flag) : (latchIf b f s).table = s.table :=
  table_of_tankSide (latchIf_tankSide s b f)

@[simp] theorem clearByPart_table (f : Flag) : (clearByPart f s).table = s.table :=
  table_of_tankSide (clearByPart_tankSide s f)

@[simp] theorem lotEvent_table (kind : LotEventKind) (t : Fin 3) : (lotEvent kind t s).table = s.table := by
  rw [lotEvent_link]; rfl

@[simp] theorem enterHeld_table (t : Fin 3) (reason : HoldReason) : (enterHeld t reason s).table = s.table := by
  simp [enterHeld]

/-- A lot that joins a list, and moves to the state of that list. -/
theorem listed_table (t : Fin 3) (f : Lot → Lot) (g : Kept → Kept) (hg : ∀ k, (g k).tanks = k.tanks) :
    ((s.modLot t f).modKept g).table = s.table :=
  (modKept_table _ g (hg _)).trans (modLot_table s t f)

@[simp] theorem enterSampleWait_table (t : Fin 3) : (enterSampleWait t s).table = s.table := by
  unfold enterSampleWait
  split
  · rfl
  · exact listed_table s t _ _ fun _ => rfl

@[simp] theorem enterQueued_table (t : Fin 3) : (enterQueued t s).table = s.table := by
  unfold enterQueued
  split
  · rfl
  · exact listed_table s t _ _ fun _ => rfl

@[simp] theorem enterQueueHead_table (t : Fin 3) : (enterQueueHead t s).table = s.table := by
  unfold enterQueueHead
  split
  · rfl
  · exact listed_table s t _ _ fun _ => rfl

@[simp] theorem enterPolishWait_table (t : Fin 3) : (enterPolishWait t s).table = s.table := by
  unfold enterPolishWait
  split
  · rfl
  · exact listed_table s t _ _ fun _ => rfl

@[simp] theorem samplerTest_table : (samplerTest s).table = s.table := by
  rcases samplerTest_cases s with h | ⟨n, rest, t, _, _, h⟩ <;> rw [h]
  exact modLot_table (s.modKept fun k => { k with sampleWait := rest }) t _

@[simp] theorem attemptFails_table : (attemptFails s).table = s.table := by
  unfold attemptFails
  split
  · simp
  · dsimp only; split <;> simp

@[simp] theorem pumpJudge_table : (pumpJudge s).table = s.table :=
  pumpJudge_keeps State.table (startPump_keeps _ (fun _ _ _ => rfl) fun _ _ => rfl) (fun _ => rfl) s

@[simp] theorem enterSettling_table (t : Fin 3) : (enterSettling t s).table = s.table := by
  unfold enterSettling
  split
  · rfl
  · dsimp only; split <;> simp

@[simp] theorem closeFill_table (t : Fin 3) : (closeFill t s).table = s.table := by
  simp [closeFill]

@[simp] theorem leaveTable_table (t : Fin 3) (d : Disposition) (hauled : Nat) (unknown : Bool) :
    (leaveTable t d hauled unknown s).table = s.table := by
  unfold leaveTable
  split
  · rfl
  · refine (handNotice_table _ _ _).trans ?_
    exact modTank_table s t (fun x => { x with lot := none }) rfl

@[simp] theorem meterLot_table (t : Fin 3) (q : Nat) : (meterLot t q s).table = s.table := by
  unfold meterLot
  split <;> simp

@[simp] theorem meterRecord_table (n q : Nat) : (meterRecord n q s).table = s.table := by
  unfold meterRecord
  dsimp only
  rw [addDayVolume_table, chargeSilver_table]
  split <;> rfl

@[simp] theorem overrunPulse_table (q : Nat) : (overrunPulse q s).table = s.table := by
  unfold overrunPulse
  dsimp only
  split
  · split
    · rfl
    · split <;> simp
  · simp
  · simp

@[simp] theorem strayPulse_table (q : Nat) : (strayPulse q s).table = s.table := by
  unfold strayPulse
  dsimp only
  rw [latch_table]
  split <;> simp

@[simp] theorem pathEnds_table : (pathEnds s).table = s.table := by
  unfold pathEnds
  dsimp only
  split <;> simp

@[simp] theorem putInForce_table (p : Permit) : (putInForce p s).table = s.table :=
  (clearByPart_table _ _).trans rfl

@[simp] theorem routeAbove_table (t : Fin 3) : (routeAbove t s).table = s.table := by
  unfold routeAbove
  split
  · rfl
  · dsimp only; split <;> simp

@[simp] theorem judgeHeads_table (k : Nat) : (judgeHeads k s).table = s.table := by
  induction k generalizing s with
  | zero => rfl
  | succ k ih =>
    unfold judgeHeads
    split
    · split
      · rfl
      · split <;> simp [ih]
    · rfl

@[simp] theorem refuseRelease_table (p : Permit) : (refuseRelease s p).table = s.table := by
  unfold refuseRelease; split <;> simp

@[simp] theorem bookRemoval_table (mass : Nat) : (bookRemoval mass s).table = s.table := by
  unfold bookRemoval trainJudged
  split
  · rfl
  · split
    · rfl
    · rw [latchIf_table]; rfl

@[simp] theorem flushEnds_table : (flushEnds s).table = s.table := by
  unfold flushEnds
  dsimp only
  split
  · rfl
  · exact attemptFails_table _

@[simp] theorem samplerPublished_table (value : Nat) : (samplerPublished value s).table = s.table := by
  unfold samplerPublished; split <;> rfl

@[simp] theorem samplerLeftValid_table : (samplerLeftValid s).table = s.table := by
  unfold samplerLeftValid; split <;> simp

@[simp] theorem recoverSampler_table : (recoverSampler s).table = s.table := samplerTest_table _

@[simp] theorem settleExpired_table (t : Fin 3) : (settleExpired t s).table = s.table := by
  simp [settleExpired]

@[simp] theorem sumpHighChange_table (covered : Bool) : (sumpHighChange covered s).table = s.table := by
  unfold sumpHighChange
  split <;> exact pumpJudge_table _

@[simp] theorem backupArises_table : (backupArises s).table = s.table := by
  unfold backupArises
  rw [table_of_tankSide (backupEvent_tankSide _ _), latch_table]; rfl

@[simp] theorem startSump_table : (startSump s).table = s.table := by
  unfold startSump; split <;> rfl

@[simp] theorem holdBlocks_table : (holdBlocks s).table = s.table := by
  unfold holdBlocks holdTanks holdSampler
  dsimp only
  split
  · exact pumpJudge_table _
  · exact (enterSampleWait_table _ _).trans (pumpJudge_table _)

@[simp] theorem recoverTanks_table : (recoverTanks s).table = s.table :=
  (recoverSampler_table _).trans (pumpJudge_table _)

/-! ### The inputs -/

theorem toConsumer_table (a : Fin 5) (toCell : Fin 4 → State → State) (toSampler : State → State)
    (hcell : ∀ c, (toCell c s).table = s.table) (hsampler : (toSampler s).table = s.table) :
    (toConsumer a toCell toSampler s).table = s.table := by
  unfold toConsumer
  split
  · exact hsampler
  · split
    · rfl
    · exact hcell _

@[simp] theorem handHoldExpired_table (a : Fin 5) : (handHoldExpired a s).table = s.table := by
  rw [handHoldExpired_cells]; rfl

@[simp] theorem handLeaving_table (a : Fin 5) : (handLeaving a s).table = s.table := by
  have hleft : (handLeftValid a s).table = s.table :=
    toConsumer_table s a _ _ (fun c => table_of_tankSide (cellLeftValid_tankSide s c _ _)) (samplerLeftValid_table s)
  unfold handLeaving
  split <;> simp [hleft]

@[simp] theorem enterFaulty_table (a : Fin 5) (state : AnalyzerState) : (enterFaulty a state s).table = s.table := by
  unfold enterFaulty
  dsimp only
  split
  · rw [latch_table, handLeaving_table]; rfl
  · rw [latchIf_table]; rfl

@[simp] theorem publish_table (a : Fin 5) : (publish a s).table = s.table := by
  have hhanded (x : State) (value : Nat) : (handPublished a value x).table = x.table :=
    toConsumer_table x a _ _ (fun _ => rfl) (samplerPublished_table x value)
  have hentered (x : State) : (handEnteredValid a x).table = x.table :=
    toConsumer_table x a _ _ (fun c => table_of_tankSide (testPrimed_tankSide _ c)) rfl
  unfold publish
  dsimp only
  rw [hhanded]
  split
  · rfl
  · rw [hentered]; rfl

@[simp] theorem takeResult_table (a : Fin 5) (r : PeriodResult) : (takeResult a r s).table = s.table := by
  have htaken (f : Analyzer → Analyzer) : (s.modAnalyzer a f).table = s.table := rfl
  unfold takeResult
  dsimp only
  split
  · simp [htaken]
  · split <;> simp [htaken]
  · split <;> simp [htaken]

@[simp] theorem risingEdge_table (a : Fin 5) : (risingEdge a s).table = s.table := by
  unfold risingEdge
  dsimp only
  split
  · rfl
  · split
    · rfl
    · exact takeResult_table _ a _

@[simp] theorem silent_table (a : Fin 5) : (silent a s).table = s.table := enterFaulty_table _ a _

@[simp] theorem holdRunsOut_table (a : Fin 5) : (holdRunsOut a s).table = s.table := handHoldExpired_table _ a

@[simp] theorem setAnalyzer_table (a : Fin 5) (k : AnalyzerSettings) : (setAnalyzer a k s).table = s.table := by
  obtain ⟨_, _, _, h⟩ := setAnalyzer_eq s a k
  rw [h]; rfl

@[simp] theorem rebind_table (c : Fin 16) (k : ChannelSettings) : (rebind c k s).table = s.table := by
  obtain ⟨_, _, h⟩ := rebind_lines s c k
  rw [h]; rfl

@[simp] theorem limitBlock_table (c : Fin 16) : (limitBlock c s).table = s.table := by
  unfold limitBlock
  split
  · rfl
  · exact table_of_tankSide (ownerRate_tankSide _ _ _ _)

@[simp] theorem goStale_table (c : Fin 16) : (goStale c s).table = s.table :=
  table_of_tankSide (ownerRate_tankSide _ _ _ _)

/-- The settings return to their defaults. -/
theorem defaultCells_table : (defaultCells (defaultLines (defaultInputs s))).table = s.table := by
  have hcells (x : State) : (defaultCells x).table = x.table :=
    foldl_keeps _ State.table (fun s c => by rw [cellTakes_eq]; rfl) _ x
  have hlines (x : State) : (defaultLines x).table = x.table :=
    (foldl_keeps _ State.table (fun s l => by rw [loopOff_loops]; rfl) _ _).trans rfl
  have hanalyzers (x : State) : (defaultAnalyzers x).table = x.table :=
    foldl_keeps _ State.table (fun s a => setAnalyzer_table s a _) _ x
  have hchannels (x : State) : (defaultChannels x).table = x.table :=
    foldl_keeps _ State.table (fun s c => rebind_table s c _) _ x
  rw [hcells, hlines, defaultInputs_eq, hanalyzers, hchannels]

end

end Sys2Proof.Machine
end

section
/-! SUPPORT. At most one tank is FILLING: a tank is opened only while none is, every other change of a tank's state leaves
FILLING or never enters it, and a write captures what holds then (R79, R80). -/

namespace Sys2Proof.Machine

open Sys2Proof

/-- At most one tank is FILLING, in the working copy and in the images (R79). -/
def OneFilling : State → Prop :=
  Throughout Kept.oneFilling

/-- Emptied of FILLING tanks, or left with the same ones, a lasting state has no more of them. -/
theorem Kept.oneFilling.mono {k m : Kept} (h : k.oneFilling)
    (hm : ∀ t : Fin 3, m.tanks[t].state = .filling → k.tanks[t].state = .filling) : m.oneFilling :=
  fun t u ht hu => h t u (hm t ht) (hm u hu)

/-- With one tank alone not known to be out of FILLING, at most one is FILLING. -/
theorem Kept.oneFilling_of_other {k : Kept} (t : Fin 3) (h : ∀ u : Fin 3, t ≠ u → k.tanks[u].state ≠ .filling) :
    k.oneFilling := by
  have only (u : Fin 3) (hu : k.tanks[u].state = .filling) : u = t := by
    by_contra hne
    exact h u (Ne.symm hne) hu
  exact fun u v hu hv => (only u hu).trans (only v hv).symm

/-- The lasting state after a failed restore has every tank EMPTY. -/
theorem Kept.fresh_oneFilling : Kept.fresh.oneFilling := by
  unfold Kept.oneFilling
  decide

/-- A restored lot is placed in a CLOSED tank, or where it is (R190). -/
theorem placeLots_oneFilling {k : Kept} (h : k.oneFilling) : (placeLots k).oneFilling := by
  have hclosed (k : Kept) (hk : k.oneFilling) (t : Fin 3) (lot : Option Lot) (m : Kept)
      (hm : m.tanks = modAt k.tanks t fun _ => { state := .closed, lot := lot }) : m.oneFilling := by
    refine hk.mono fun u hu => ?_
    rw [hm, modAt_get] at hu
    split at hu
    · cases hu
    · exact hu
  have hplaced (k : Kept) (hk : k.oneFilling) (t : Fin 3) : (placeLot t k).oneFilling := by
    unfold placeLot
    split
    · exact hk
    · dsimp only
      split
      · exact hclosed k hk t _ _ rfl
      · exact hclosed k hk t _ _ rfl
      · exact hclosed k hk t _ _ rfl
      all_goals exact hk
  unfold placeLots
  induction List.finRange 3 generalizing k with
  | nil => exact h
  | cons t l ih => exact ih (hplaced k h t)

section
variable {s t : State} (h : OneFilling s)
include h

theorem OneFilling.of_table (ht : t.table = s.table) : OneFilling t := by
  obtain ⟨hkept, himage, hflight⟩ := h
  have hstates (u : Fin 3) : t.kept.tanks[u].state = s.kept.tanks[u].state := congrFun (congrArg Table.states ht) u
  have hstore : t.store = s.store := congrArg Table.store ht
  exact ⟨hkept.mono fun u hu => (hstates u).symm.trans hu, by rw [hstore]; exact himage, by rw [hstore]; exact hflight⟩

theorem OneFilling.of_tankSide (ht : t.tankSide = s.tankSide) : OneFilling t := h.of_table (table_of_tankSide ht)

/-- A tank takes another state than FILLING. -/
theorem OneFilling.modTank (u : Fin 3) {f : Tank → Tank}
    (hf : (f s.kept.tanks[u]).state = .filling → s.kept.tanks[u].state = .filling) : OneFilling (s.modTank u f) := by
  obtain ⟨hkept, himage, hflight⟩ := h
  refine ⟨hkept.mono fun v hv => ?_, himage, hflight⟩
  rw [State.modTank_kept, modAt_get] at hv
  split at hv
  · next huv => exact huv ▸ hf hv
  · exact hv

theorem OneFilling.foldl {α : Type} (act : State → α → State) (hact : ∀ x a, OneFilling x → OneFilling (act x a))
    (l : List α) : OneFilling (l.foldl act s) := by
  induction l generalizing s with
  | nil => exact h
  | cons a l ih => exact ih (hact _ a h)

/-! ### Writes (R188) -/

theorem startWrite_oneFilling (kind : WriteKind) : OneFilling (startWrite kind s) :=
  ⟨h.1, by rintro _ ⟨⟩, by rintro _ ⟨⟩; exact h.1⟩

theorem orderWrite_oneFilling (kind : WriteKind) : OneFilling (orderWrite kind s) := by
  unfold orderWrite
  split
  · exact startWrite_oneFilling h kind
  · split
    · exact startWrite_oneFilling h _
    · exact h

theorem completeWrite_oneFilling : OneFilling (completeWrite s) := by
  unfold completeWrite
  split
  · exact h
  next w hw =>
    have hdone (startUp : StartUp) : OneFilling { s with
        store := { image := some w.content.stored, inFlight := none, waiting := none }, startUp := startUp } :=
      ⟨h.1, by rintro _ ⟨⟩; exact h.2.2 w hw, by rintro _ ⟨⟩⟩
    dsimp only
    split
    · exact hdone _
    · exact startWrite_oneFilling (hdone _) _

/-! ### Opening and closing lots (R80, R81) -/

/-- A lot opens in a tank while no tank is FILLING. -/
theorem openLot_oneFilling (u : Fin 3) (hnone : ∀ v : Fin 3, s.kept.tanks[v].state ≠ .filling) :
    OneFilling (openLot u s) := by
  obtain ⟨-, himage, hflight⟩ := h
  refine OneFilling.of_table (s := s.modKept fun k =>
      { k with
        nextLot := nextNumber s.freshNumber
        tanks := modAt k.tanks u fun _ =>
          { state := .filling, lot := some (Lot.opening s.freshNumber s.stamp s.kept.tankSettings[u]) } })
    ⟨Kept.oneFilling_of_other u fun v huv => ?_, himage, hflight⟩ (pumpJudge_table _)
  exact fun hv => hnone v ((congrArg Tank.state (modAt_other s.kept.tanks u v _ huv)).symm.trans hv)

theorem closeSteps_oneFilling (u : Fin 3) (byHigh : Bool) : OneFilling (closeSteps u byHigh s) := by
  have hfilled (f : Lot → Lot) : OneFilling ((closeFill u s).modLot u f) := h.of_table (by simp)
  have hclosed (f : Lot → Lot) :
      OneFilling (((closeFill u s).modLot u f).modTank u fun k => { k with state := .closed }) :=
    (hfilled f).modTank u fun hc => by cases hc
  exact (hclosed _).of_table ((pumpJudge_table _).trans ((lotEvent_table _ _ _).trans (enterSettling_table _ u)))

theorem fillTurns_oneFilling (k : Nat) : OneFilling (fillTurns k s) := by
  induction k generalizing s with
  | zero => exact h
  | succ k ih =>
    unfold fillTurns
    split
    · exact h
    next hnone =>
      split
      · exact h
      next u _ =>
        have hopened : OneFilling (openLot u s) :=
          openLot_oneFilling h u fun v hv => hnone (fillingTank_isSome hv)
        dsimp only
        split
        · exact (ih (closeSteps_oneFilling hopened u true)).of_table (pumpJudge_table _)
        · exact hopened

theorem fillSelection_oneFilling : OneFilling (fillSelection s) := fillTurns_oneFilling h 3

theorem closeLot_oneFilling (u : Fin 3) (byHigh : Bool) : OneFilling (closeLot u byHigh s) :=
  (fillSelection_oneFilling (closeSteps_oneFilling h u byHigh)).of_table (pumpJudge_table _)

/-! ### Drains of the Outlet Path (R93, R135 to R147) -/

theorem handBackReturned_oneFilling (u : Fin 3) : OneFilling (handBackReturned u s) :=
  (h.modTank u (f := fun k => { k with state := .closed }) fun hc => by cases hc).of_table
    ((lotEvent_table _ _ _).trans (enterQueueHead_table _ u))

theorem handBackDrained_oneFilling (u : Fin 3) : OneFilling (handBackDrained u s) :=
  have hleft : OneFilling (leaveTable u .discharged 0 false s) := h.of_table (leaveTable_table s u _ _ _)
  fillSelection_oneFilling (hleft.modTank u fun hc => by cases hc)

theorem handBackHeld_oneFilling (reason : HoldReason) (u : Fin 3) : OneFilling (handBackHeld reason u s) := by
  refine (h.modTank u fun hc => ?_).of_table (enterHeld_table _ u reason)
  dsimp only at hc
  split at hc <;> cases hc

theorem handBackPassed_oneFilling (u : Fin 3) : OneFilling (handBackPassed u s) :=
  (h.modTank u (f := fun k => { k with state := .closed }) fun hc => by cases hc).of_table
    ((enterSettling_table _ u).trans (modLot_table _ u _))

theorem handBackAbandoned_oneFilling (u : Fin 3) : OneFilling (handBackAbandoned u s) :=
  (h.modTank u (f := fun k => { k with state := .closed }) fun hc => by cases hc).of_table (enterPolishWait_table _ u)

theorem handBack_oneFilling {how : Fin 3 → State → State} (hhow : ∀ u x, OneFilling x → OneFilling (how u x)) :
    OneFilling (handBack how s) := by
  unfold handBack
  split
  · exact h
  · exact hhow _ _ h

/-- A stop keeps it when its handing back does. -/
theorem stopDrain_oneFilling (cause : StopCause) {how : Fin 3 → State → State}
    (hhow : ∀ u x, OneFilling x → OneFilling (how u x)) : OneFilling (stopDrain cause how s) := by
  have hback (f : Path → Path) : OneFilling (handBack how (s.modPath f)) :=
    handBack_oneFilling (h.of_table (modPath_table s f)) hhow
  unfold stopDrain
  dsimp only
  split
  · exact (orderWrite_oneFilling (hback _) _).of_table (modPath_table _ _)
  · exact (hback _).of_table (modPath_table _ _)

theorem interruptDischarge_oneFilling (cause : StopCause) : OneFilling (interruptDischarge cause s) := by
  unfold interruptDischarge
  split
  · exact stopDrain_oneFilling h _ fun u _ hx => handBackReturned_oneFilling hx u
  · exact h

theorem stopHeld_oneFilling (cause : StopCause) (reason : HoldReason) : OneFilling (stopHeld cause reason s) := by
  unfold stopHeld
  split
  · exact stopDrain_oneFilling h _ fun u _ hx => handBackHeld_oneFilling hx reason u
  · exact h

theorem runDry_oneFilling : OneFilling (runDry s) := by
  unfold runDry
  split
  · exact h
  · exact stopDrain_oneFilling (h.of_table (modLot_table s _ _)) _ fun u _ hx => handBackDrained_oneFilling hx u

theorem drainLowLost_oneFilling : OneFilling (drainLowLost s) := by
  unfold drainLowLost
  split
  · exact runDry_oneFilling h
  · exact stopDrain_oneFilling h _ fun u _ hx => handBackHeld_oneFilling hx _ u
  · exact h
  · exact h

theorem drainTimedOut_oneFilling : OneFilling (drainTimedOut s) :=
  (stopHeld_oneFilling h _ _).of_table (latch_table _ _)

theorem outletPulse_oneFilling (q : Nat) : OneFilling (outletPulse q s) := by
  unfold outletPulse
  split
  · unfold dischargePulse
    split
    · exact h
    · have hmetered (u : Fin 3) : OneFilling (meterLot u q s) := h.of_table (meterLot_table s u q)
      dsimp only
      split
      · exact stopDrain_oneFilling (hmetered _) _ fun u _ hx => handBackReturned_oneFilling hx u
      · exact hmetered _
  · unfold polishPulse
    dsimp only
    split
    · exact stopDrain_oneFilling (h.of_table (modPath_table s _)) _ fun u _ hx => handBackPassed_oneFilling hx u
    · exact h.of_table (modPath_table s _)
  · exact h.of_table (overrunPulse_table s q)
  · exact h.of_table (strayPulse_table s q)

theorem holdPath_oneFilling : OneFilling (holdPath s) := by
  have hmarked (f : Path → Path) : OneFilling (s.modPath f) := h.of_table (modPath_table s f)
  have hback (f g : Path → Path) {how : Fin 3 → State → State} (hhow : ∀ u x, OneFilling x → OneFilling (how u x)) :
      OneFilling (handBack how ((s.modPath f).modPath g)) :=
    handBack_oneFilling ((hmarked f).of_table (modPath_table _ g)) hhow
  unfold holdPath stopForHold
  dsimp only
  split
  · exact (orderWrite_oneFilling (hback _ _ fun u _ hx => handBackReturned_oneFilling hx u) _).of_table (pathEnds_table _)
  · exact (hback _ _ fun u _ hx => handBackAbandoned_oneFilling hx u).of_table (pathEnds_table _)
  · exact (hmarked _).of_table (pathEnds_table _)
  · exact hmarked _

/-! ### The permit and the arbiter -/

section
variable {tell : State → State} (htell : ∀ x, OneFilling x → OneFilling (tell x))
include htell

theorem judgeWindow_oneFilling : OneFilling (judgeWindow tell s) := by
  have hjudged : OneFilling { s with permit := { s.permit with windowOpen := s.windowNow } } := h.of_table rfl
  unfold judgeWindow
  dsimp only
  split
  · exact htell _ hjudged
  · exact interruptDischarge_oneFilling hjudged _
  · exact hjudged
  · exact hjudged

theorem activate_oneFilling : OneFilling (activate tell s) := by
  unfold activate
  split
  · exact h
  · exact htell _ (judgeWindow_oneFilling (h.of_table (putInForce_table s _)) htell)

theorem digestCheck_oneFilling : OneFilling (digestCheck tell s) := by
  have hfound : OneFilling (foundCorrupt s) := by
    let marked : State := { s with
      kept := { s.kept with permit := { s.kept.permit with corrupt := true } }
      permit := { s.permit with check := none } }
    have hmarked : OneFilling marked := h.of_table rfl
    exact (interruptDischarge_oneFilling hmarked .permitCorrupt).of_table
      (latch_table (interruptDischarge .permitCorrupt marked) .permitCorrupt)
  unfold digestCheck
  split
  · exact h
  · split
    · exact h
    · exact activate_oneFilling hfound htell

end

theorem takeDischarge_oneFilling (u : Fin 3) (grant : Grant) (remaining : Int) :
    OneFilling (takeDischarge u grant remaining s) := by
  unfold takeDischarge
  split
  · exact h
  next l _ =>
    have htaken (f : Path → Path) : OneFilling ((dropFromLists l.number (s.modPath f)).modTank u fun k =>
        { state := .draining, lot := k.lot.map fun l => { l with state := .discharging } }) :=
      OneFilling.modTank (h.of_table rfl) u fun hc => by cases hc
    dsimp only
    split
    · exact (htaken _).of_table ((handNotice_table _ _ _).trans (modPath_table _ _))
    · exact runDry_oneFilling ((htaken _).of_table ((handNotice_table _ _ _).trans (modPath_table _ _)))

theorem takePolish_oneFilling (u : Fin 3) : OneFilling (takePolish u s) := by
  unfold takePolish
  split
  · exact h
  next l _ =>
    have htaken (f : Path → Path) : OneFilling ((dropFromLists l.number (s.modPath f)).modTank u fun k =>
        { state := .draining, lot := k.lot.map fun l => { l with state := .polishing, removalPending := true } }) :=
      OneFilling.modTank (h.of_table rfl) u fun hc => by cases hc
    dsimp only
    split
    · exact (htaken _).of_table ((handNotice_table _ _ _).trans (modPath_table _ _))
    · exact drainLowLost_oneFilling ((htaken _).of_table ((handNotice_table _ _ _).trans (modPath_table _ _)))

theorem polishStep_oneFilling : OneFilling (polishStep s) := by
  unfold polishStep
  split
  · exact h
  · split
    · split
      · exact h
      · exact takePolish_oneFilling h _
    · exact h

theorem judgeRelease_oneFilling (u : Fin 3) (l : Lot) (p : Permit) : OneFilling (judgeRelease u l p s) := by
  unfold judgeRelease
  dsimp only
  split
  · exact takeDischarge_oneFilling h _ _ _
  · exact polishStep_oneFilling (h.of_table (refuseRelease_table s p))

theorem decide_oneFilling : OneFilling (decide s) := by
  have hchecked : OneFilling (digestCheck id s) := digestCheck_oneFilling h fun _ hx => hx
  have hjudged (k : Nat) : OneFilling (judgeHeads k (digestCheck id s)) := hchecked.of_table (judgeHeads_table _ k)
  unfold decide
  split
  · exact polishStep_oneFilling h
  · dsimp only
    split
    · split
      · exact polishStep_oneFilling (hjudged _)
      · split
        · exact polishStep_oneFilling (hjudged _)
        · exact judgeRelease_oneFilling (hjudged _) _ _ _
    · exact polishStep_oneFilling (hjudged _)

theorem occasion_oneFilling : OneFilling (occasion s) := by
  unfold occasion
  split
  · exact decide_oneFilling h
  · exact h

end

section
variable {s : State} (h : OneFilling s)
include h

theorem firstDecision_oneFilling : OneFilling (firstDecision s) := occasion_oneFilling (h.of_table (modPath_table s _))

theorem closingExpired_oneFilling : OneFilling (closingExpired s) := occasion_oneFilling (h.of_table (pathEnds_table s))

theorem recoverPath_oneFilling : OneFilling (recoverPath s) := occasion_oneFilling (h.of_table (modPath_table s _))

theorem toldWindow_oneFilling : OneFilling (judgeWindow occasion s) :=
  judgeWindow_oneFilling h fun _ hx => occasion_oneFilling hx

theorem toldActivation_oneFilling : OneFilling (activate occasion s) :=
  activate_oneFilling h fun _ hx => occasion_oneFilling hx

theorem toldCheck_oneFilling : OneFilling (digestCheck occasion s) :=
  digestCheck_oneFilling h fun _ hx => occasion_oneFilling hx

theorem checkExpired_oneFilling : OneFilling (checkExpired s) := by
  let restarted : State :=
    { s with permit := { s.permit with check := s.usablePermit.map fun _ => s.timer checkSpan } }
  have hrestarted : OneFilling restarted := h.of_table rfl
  exact toldCheck_oneFilling hrestarted

/-! ### The day -/

theorem rollover_oneFilling (number : Nat) : OneFilling (rollover number s) := by
  have hcleared (x : State) : (clearCapReached x).table = x.table := by
    unfold clearCapReached; split <;> simp
  have hstanding (x : State) : (setStandingFlags x).table = x.table := rfl
  have hclosed (record : DayRecord) : OneFilling (closeDay record (interruptDischarge .rollover s)) :=
    (interruptDischarge_oneFilling h _).of_table rfl
  have hnumbered (record : DayRecord) (f : Day → Day) :
      OneFilling ((activate occasion (closeDay record (interruptDischarge .rollover s))).modDay f) :=
    (toldActivation_oneFilling (hclosed record)).of_table (modDay_table _ f)
  unfold rollover
  dsimp only
  exact occasion_oneFilling ((orderWrite_oneFilling (hnumbered _ _) _).of_table
    ((handNotice_table _ _ _).trans ((hstanding _).trans (hcleared _))))

theorem clockAdvance_oneFilling : OneFilling (clockAdvance s) := by
  let advanced : State := { s with clock := s.clock.advance }
  have hadvanced : OneFilling advanced := h.of_table rfl
  have hchosen : OneFilling advanced.choose.2 := h.of_table rfl
  have htest (x : State) (hx : OneFilling x) : OneFilling (rolloverTest x) := by
    unfold rolloverTest
    split
    · exact rollover_oneFilling hx _
    · exact hx
  unfold clockAdvance
  dsimp only
  split
  · exact htest _ hadvanced
  · split
    · exact htest _ (toldWindow_oneFilling hchosen)
    · exact toldWindow_oneFilling (htest _ hchosen)

/-! ### The Sampler and Tank Control -/

theorem routeLot_oneFilling (u : Fin 3) : OneFilling (routeLot u s) := by
  have hqueued : OneFilling (routeQueued u s) := occasion_oneFilling (h.of_table (by simp))
  have habove : OneFilling (routeAbove u s) := h.of_table (routeAbove_table s u)
  unfold routeLot
  split
  · exact h
  · split
    · exact hqueued
    · split
      · exact hqueued
      · split
        · exact occasion_oneFilling habove
        · exact habove

theorem windowEnds_oneFilling : OneFilling (windowEnds s) := by
  have hends (x : State) (hx : OneFilling x) : OneFilling (attemptEnds x) := hx.of_table (by simp [attemptEnds])
  unfold windowEnds attemptSucceeds
  split
  · split
    · exact hends _ h
    · split
      · exact hends _ h
      · exact hends _ (routeLot_oneFilling (h.of_table (by simp)) _)
  · exact h.of_table (attemptFails_table s)

theorem stopFilling_oneFilling (u : Fin 3) (reason : HoldReason) : OneFilling (stopFilling u reason s) :=
  fillSelection_oneFilling (h.of_table (by simp))

theorem stopLot_oneFilling (u : Fin 3) (cause : StopCause) (reason : HoldReason) :
    OneFilling (stopLot u cause reason s) := by
  unfold stopLot
  split
  · exact h
  · split
    case h_1 => exact stopFilling_oneFilling h u reason
    case h_7 => exact stopHeld_oneFilling h _ _
    case h_8 => exact stopHeld_oneFilling h _ _
    all_goals exact h.of_table (by simp)

theorem switchFaultTest_oneFilling (u : Fin 3) : OneFilling (switchFaultTest u s) := by
  have hout : OneFilling (s.modTank u fun k => { k with state := .outOfService }) := h.modTank u fun hc => by cases hc
  unfold switchFaultTest
  split
  · split
    · exact h.of_table (latch_table s _)
    · exact stopLot_oneFilling (hout.of_table (latch_table _ _)) u _ _
  · exact h

theorem lowLost_oneFilling (u : Fin 3) : OneFilling (lowLost u s) := by
  unfold lowLost
  split
  · split
    · exact h
    · split
      · exact h
      · exact stopLot_oneFilling h u _ _
  · exact drainLowLost_oneFilling h
  all_goals exact h

theorem debounced_oneFilling (w : Switch) : OneFilling (debounced w s) := by
  have haccepted : OneFilling (accept w s) := h.of_table rfl
  have htested (u : Fin 3) : OneFilling (switchFaultTest u (accept w s)) := switchFaultTest_oneFilling haccepted u
  rw [debounced_eq]
  cases w with
  | tankLow u =>
    simp only [switchChange, tankLowChange]
    split
    · exact htested u
    · exact lowLost_oneFilling (htested u) u
  | tankHigh u =>
    simp only [switchChange, tankHighChange]
    split
    · exact closeLot_oneFilling (htested u) u true
    · exact htested u
  | sumpLow => exact haccepted.of_table (pumpJudge_table _)
  | sumpHigh => exact haccepted.of_table (sumpHighChange_table _ _)
  | cellFlow c => exact haccepted.of_tankSide (cellFlowChange_tankSide _ c _)

theorem transferPulse_oneFilling (q : Nat) : OneFilling (transferPulse q s) := by
  unfold transferPulse
  split
  · have hfilled (u : Fin 3) (f : Lot → Lot) : OneFilling (s.modLot u f) := h.of_table (modLot_table s u f)
    unfold fillPulse
    dsimp only
    split
    · exact closeLot_oneFilling (hfilled _ _) _ _
    · exact hfilled _ _
  · exact h.of_table rfl

theorem maxFillExpired_oneFilling (u : Fin 3) : OneFilling (maxFillExpired u s) := by
  unfold maxFillExpired
  split
  · exact closeLot_oneFilling h u _
  · exact h

theorem makeUnknown_oneFilling (u : Fin 3) : OneFilling (makeUnknown u s) := by
  unfold makeUnknown
  split
  · have hmade : OneFilling ((s.modKept fun k => { k with nextLot := nextNumber s.freshNumber }).modTank u fun _ =>
        { state := .closed, lot := some (Lot.unknown s.freshNumber s.kept.tankSettings[u]) }) :=
      OneFilling.modTank (h.of_table rfl) u fun hc => by cases hc
    exact hmade.of_table ((latch_table _ _).trans (lotEvent_table _ _ _))
  · exact h

theorem startFilling_oneFilling : OneFilling (startFilling s) := by
  unfold startFilling
  split
  · exact h
  · split
    · exact closeLot_oneFilling h _ _
    · exact h.of_table (modTimers_table s _ _)

theorem takeLevels_oneFilling : OneFilling (takeLevels s) := by
  have htaken : OneFilling s.taken := h.of_table rfl
  have htested : OneFilling (eachTank switchFaultTest s.taken) :=
    htaken.foldl _ (fun _ u hx => switchFaultTest_oneFilling hx u) _
  have hjudged := startFilling_oneFilling (htested.of_table (startSump_table _))
  have hends (x : State) (hx : OneFilling x) : OneFilling (samplerTest (pumpJudge (fillSelection x))) :=
    (fillSelection_oneFilling hx).of_table (by simp)
  unfold takeLevels
  dsimp only
  split
  · exact hends _ hjudged
  · exact hends _ (hjudged.foldl _ (fun _ u hx => makeUnknown_oneFilling hx u) _)

theorem startingLevels_oneFilling : OneFilling (startingLevels s) := by
  have hflows (x : State) : ((List.finRange 4).foldl (fun s c => startingFlow c s) x).tankSide = x.tankSide :=
    foldl_keeps _ State.tankSide (fun s c => startingFlow_tankSide s c) _ x
  let sampled : State := { s with
    switches := s.switches.map fun k => { k with accepted := some k.pin, debounce := none }
    startUp := { s.startUp with levels := none } }
  have hsampled : OneFilling sampled := h.of_table rfl
  exact firstDecision_oneFilling ((takeLevels_oneFilling hsampled).of_tankSide (hflows _))

/-! ### Pulses -/

theorem ownerPulse_oneFilling (r : Role) (q : Nat) : OneFilling (ownerPulse r q s) := by
  cases r with
  | noRole => exact h
  | footage l =>
    simp only [ownerPulse, footagePulse]
    split
    · exact h.of_table (modAccounts_table s _)
    · exact h
  | wash l => exact h.of_table rfl
  | celli c => exact h.of_table rfl
  | transfer => exact transferPulse_oneFilling h q
  | outlet => exact outletPulse_oneFilling h q

theorem edge_oneFilling (c : Fin 16) (rising : Bool) : OneFilling (edge c rising s) := by
  have hchannel (f : Channel → Channel) : OneFilling (s.modChannel c f) := h.of_tankSide (modChannel_tankSide s c f)
  unfold edge selectedEdge
  split
  · exact h
  · split
    · exact hchannel _
    · unfold acceptPulse
      dsimp only
      split
      · exact (ownerPulse_oneFilling (hchannel _) _ _).of_tankSide (ownerRate_tankSide _ _ _ _)
      · exact ownerPulse_oneFilling (hchannel _) _ _

/-! ### The supply, reset and start-up -/

theorem enterHold_oneFilling : OneFilling (enterHold s) := by
  have hheld : OneFilling (holdBlocks s) := h.of_table (holdBlocks_table s)
  have hchosen : OneFilling (holdBlocks s).choose.2 := hheld.of_table rfl
  have hends (x : State) (hx : OneFilling x) : OneFilling (latch .supplyLow (holdPath x)) :=
    (holdPath_oneFilling hx).of_table (latch_table _ _)
  unfold enterHold
  dsimp only
  split
  · exact hends _ (orderWrite_oneFilling hchosen _)
  · split
    · exact orderWrite_oneFilling (hends _ hchosen) _
    · exact orderWrite_oneFilling (hends _ hheld) _

theorem judgeSupply_oneFilling : OneFilling (judgeSupply s) := by
  unfold judgeSupply
  split
  · split <;> exact h.of_table rfl
  · split
    · exact enterHold_oneFilling h
    · exact h

theorem firstJudgement_oneFilling : OneFilling (firstJudgement s) := by
  unfold firstJudgement
  split
  · exact (holdPath_oneFilling (h.of_table (holdBlocks_table s))).of_table (latch_table _ _)
  · exact h

theorem recover_oneFilling : OneFilling (recover s) := by
  have hblocks (x : State) : (recoverTanks (recoverLoops (recoverCells x))).table = x.table := by
    rw [recoverTanks_table, table_of_tankSide (recoverLoops_tankSide _), table_of_tankSide (recoverCells_tankSide _)]
  exact recoverPath_oneFilling (h.of_table (hblocks _))

/-- A reset empties the working copy and cuts a write off. -/
theorem lost_oneFilling : OneFilling (lost s) :=
  ⟨Kept.fresh_oneFilling, h.2.1, fun _ hw => by cases hw⟩

theorem beginStartUp_oneFilling (sel1 sel0 : Bool) : OneFilling (beginStartUp sel1 sel0 s) := by
  have hlost := lost_oneFilling h
  unfold beginStartUp
  dsimp only
  split
  · exact hlost
  · exact hlost.of_table rfl

theorem supplyAt_oneFilling (level : Nat) : OneFilling (supplyAt level s) := by
  let taken : State := { s with supply := { s.supply with level := level } }
  have htaken : OneFilling taken := h.of_table rfl
  unfold supplyAt
  dsimp only
  split
  · exact lost_oneFilling htaken
  · split
    · exact judgeSupply_oneFilling htaken
    · exact htaken

theorem checkRestored_oneFilling : OneFilling (checkRestored s) := by
  have hchecked := toldCheck_oneFilling h
  unfold checkRestored
  dsimp only
  split
  · exact hchecked
  · exact toldActivation_oneFilling hchecked

theorem endSelfTest_oneFilling (memoryGood storeReadable imageMatches : Bool) :
    OneFilling (endSelfTest memoryGood storeReadable imageMatches s) := by
  obtain ⟨-, himage, hflight⟩ := h
  let image : Option Kept := s.store.readBack storeReadable imageMatches
  let begun := blocksAtStart ((image.map placeLots).getD Kept.fresh)
    { s with
      phase := .restoring
      supply := { s.supply with hold := false, recovery := none }
      store := { s.store with image := if image.isSome then s.store.image else none }
      startUp :=
        { selfTestPassed := memoryGood && storeReadable, restored := image.isSome, restoreStands := image.isNone,
          levels := none } }
  have hread : ((image.map placeLots).getD Kept.fresh).oneFilling := by
    cases hi : image with
    | none => exact Kept.fresh_oneFilling
    | some k =>
      obtain ⟨i, hstored, rfl⟩ := readBack_image hi
      exact placeLots_oneFilling (himage i hstored)
  have hbegun : OneFilling begun := by
    refine ⟨hread, fun i hi => ?_, hflight⟩
    have hi' : (if image.isSome then s.store.image else none) = some i := hi
    split at hi'
    · exact himage i hi'
    · cases hi'
  have hjudged := firstJudgement_oneFilling (hbegun.of_table (t := latchResults begun) (by simp [latchResults]))
  have hchecked := checkRestored_oneFilling
    (hjudged.of_table (t := latchStanding (firstJudgement (latchResults begun))) (by simp [latchStanding]))
  have hcapped (x : State) : (latchCap x).table = x.table := by
    unfold latchCap; split <;> simp
  exact (hchecked.of_table (hcapped _)).of_tankSide
    (foldl_keeps _ State.tankSide (fun s c => autostart_tankSide s c) _ _)

theorem endRestore_oneFilling : OneFilling (endRestore s) := by
  have hrestored : OneFilling s.restored := h.of_table rfl
  rw [endRestore_eq]
  split
  · exact hrestored
  · exact firstJudgement_oneFilling hrestored

end

end Sys2Proof.Machine
end

section
/-! PROOF of O8. Every request and every command keeps at most one tank FILLING (R79). -/

namespace Sys2Proof.Machine

open Sys2Proof

/-! ### Requests that leave the tanks' states -/

section
variable (s : State)

theorem serveSetLine_table (f : LineFields) : (serveSetLine f s).2.table = s.table := by
  unfold serveSetLine
  split
  · rfl
  · split
    · exact (table_of_tankSide (loopTakesLine_tankSide _ _ _)).trans (modKept_table s _ rfl)
    · rfl

theorem serveSetFilmType_table (entry load : Nat) : (serveSetFilmType entry load s).2.table = s.table := by
  unfold serveSetFilmType
  split
  · rfl
  · split <;> rfl

theorem serveSetCell_table (f : CellFields) : (serveSetCell f s).2.table = s.table := by
  unfold serveSetCell
  split
  · rfl
  next c _ =>
    split
    · split
      · rfl
      · split
        · rfl
        · dsimp only [ok, okWith]
          rw [cellTakes_eq]
          rfl
    · rfl

theorem serveSetChannel_table (f : ChannelFields) : (serveSetChannel f s).2.table = s.table := by
  unfold serveSetChannel
  split
  · rfl
  · split
    · split
      · rfl
      · split
        · rfl
        · exact rebind_table s _ _
    · rfl

theorem serveSetAnalyzer_table (f : AnalyzerFields) : (serveSetAnalyzer f s).2.table = s.table := by
  unfold serveSetAnalyzer
  split
  · rfl
  · split
    · split
      · rfl
      · exact setAnalyzer_table s _ _
    · rfl

theorem serveSetTank_table (f : TankFields) : (serveSetTank f s).2.table = s.table := by
  unfold serveSetTank
  split
  · rfl
  · split
    · split <;> rfl
    · rfl

theorem serveSetAlertMask_table (enables : Vector Nat 16) : (serveSetAlertMask enables s).2.table = s.table := by
  unfold serveSetAlertMask
  split <;> rfl

theorem serveSetNoticeMask_table (enables : Vector Nat 33) : (serveSetNoticeMask enables s).2.table = s.table := by
  unfold serveSetNoticeMask
  split <;> rfl

theorem serveStartCell_table (cell : Nat) : (serveStartCell cell s).2.table = s.table := by
  unfold serveStartCell
  split
  · rfl
  next c _ =>
    split
    · split
      · exact table_of_tankSide (enterPriming_tankSide s c)
      · rfl
    all_goals rfl

theorem serveStopCell_table (cell : Nat) : (serveStopCell cell s).2.table = s.table := by
  unfold serveStopCell
  split
  · rfl
  · split <;> rfl

theorem serveClearCellFault_table (cell : Nat) : (serveClearCellFault cell s).2.table = s.table := by
  unfold serveClearCellFault
  split
  · rfl
  · split <;> rfl

theorem serveReturnLot_table (n : Nat) : (serveReturnLot n s).2.table = s.table :=
  onLot_cases s (fun x => x.table = s.table) rfl fun t l => by
    split
    · rfl
    · simp [ok, okWith]

theorem serveRemoveCartridge_table (serial : Nat) : (serveRemoveCartridge serial s).2.table = s.table := by
  unfold serveRemoveCartridge
  split
  · split
    · rfl
    · split <;> rfl
  · rfl

theorem serveClearAlert_table (kind inst : Nat) : (serveClearAlert kind inst s).2.table = s.table := by
  have hcleared (x : State) (f : Flag) : (clearNamed f x).table = x.table := by
    unfold clearNamed; split <;> rfl
  unfold serveClearAlert
  split
  · rfl
  · exact foldl_keeps _ State.table hcleared _ s

end

/-! ### Requests that may change them -/

section
variable {s : State} (h : OneFilling s)
include h

theorem serveSetPlant_oneFilling (f : PlantSettings) : OneFilling (serveSetPlant f s).2 := by
  have hjudged : OneFilling (judgeTrain f.exhaustPercent (s.modKept fun k => { k with plant := f })) :=
    h.of_table (latchIf_table ((s.modKept _).modKept _) _ _)
  unfold serveSetPlant
  split
  · dsimp only [ok, okWith]
    split
    · exact hjudged
    · exact judgeSupply_oneFilling hjudged
  · exact h

theorem serveSetPermit_oneFilling (f : PermitFields) : OneFilling (serveSetPermit f s).2 := by
  have hpending : OneFilling (s.modKept fun k => { k with permit := { k.permit with next := some f.permit } }) :=
    h.of_table rfl
  unfold serveSetPermit
  split
  · dsimp only
    split
    · exact hpending
    · exact toldActivation_oneFilling hpending
  · exact h

theorem serveSetClock_oneFilling (dayCount second : Nat) : OneFilling (serveSetClock dayCount second s).2 := by
  have hset (x : State) (hx : OneFilling x) : OneFilling (clockWasSet x) :=
    occasion_oneFilling (toldWindow_oneFilling hx)
  have hstarted : OneFilling (startClock dayCount second s) := h.of_table rfl
  unfold serveSetClock
  split
  · dsimp only [okWith]
    split
    · exact hset _ (hstarted.of_table rfl)
    · split
      · exact h
      · split
        · exact hset _ hstarted
        · exact hset _ (rollover_oneFilling hstarted _)
  · exact h

theorem serveCloseLot_oneFilling : OneFilling (serveCloseLot s).2 := by
  unfold serveCloseLot
  split
  · split
    · exact h
    · split
      · exact h
      · split
        · exact h
        · dsimp only [okWith]
          exact closeLot_oneFilling h _ false
  · exact h

theorem serveHoldLot_oneFilling (n : Nat) : OneFilling (serveHoldLot n s).2 :=
  onLot_cases s OneFilling h fun t l => by
    split
    · exact h
    · exact stopLot_oneFilling h t _ _

theorem servePolishLot_oneFilling (n : Nat) : OneFilling (servePolishLot n s).2 :=
  onLot_cases s OneFilling h fun t l => by
    split
    · exact h
    · exact occasion_oneFilling (h.of_table (by simp))

theorem serveDeclareHauled_oneFilling (n : Nat) : OneFilling (serveDeclareHauled n s).2 :=
  onLot_cases s OneFilling h fun t l => by
    have hleft (f : Accounts → Accounts) (mg : Nat) (unknown : Bool) :
        OneFilling (leaveTable t .hauled mg unknown (s.modAccounts f)) := h.of_table (by simp)
    split
    · exact h
    · dsimp only [okWith, haul]
      split
      · exact hleft _ _ _
      · exact fillSelection_oneFilling ((hleft _ _ _).modTank t fun hc => by cases hc)

theorem serveReturnTank_oneFilling (tank : Nat) : OneFilling (serveReturnTank tank s).2 := by
  unfold serveReturnTank
  split
  · exact h
  next t _ =>
    split
    · split
      · exact fillSelection_oneFilling (h.modTank t fun hc => by cases hc)
      · exact h.modTank t fun hc => by cases hc
    · exact h

theorem serveInstallCartridge_oneFilling (serial capacity : Nat) :
    OneFilling (serveInstallCartridge serial capacity s).2 := by
  unfold serveInstallCartridge trainJudged
  split
  · split
    · exact h
    · exact occasion_oneFilling (h.of_table (latchIf_table ((s.modKept _).modKept _) _ _))
  · exact h

theorem serveSetDischargeEnable_oneFilling (enable : Nat) : OneFilling (serveSetDischargeEnable enable s).2 := by
  have henabled (b : Bool) : OneFilling { s with permit := { s.permit with enable := b } } := h.of_table rfl
  unfold serveSetDischargeEnable
  split
  · split
    · exact h
    · exact occasion_oneFilling (henabled true)
  · split
    · split
      · exact interruptDischarge_oneFilling (henabled false) _
      · exact h
    · exact h

theorem serveFactoryReset_oneFilling : OneFilling (serveFactoryReset s).2 := by
  have hdefault (x : State) (hx : x.table = s.table) : OneFilling (judgeAlert (x.modKept defaultKept)) :=
    h.of_table hx
  unfold serveFactoryReset resetToDefaults
  split
  · dsimp only [ok, okWith]
    exact orderWrite_oneFilling (judgeSupply_oneFilling (hdefault _ (defaultCells_table s))) _
  · exact h

/-- Serving a request keeps it. -/
theorem serveEntry_oneFilling (r : Request) : OneFilling (serveEntry r s).2 := by
  cases r with
  | setLine f => exact h.of_table (serveSetLine_table s f)
  | setFilmType entry load => exact h.of_table (serveSetFilmType_table s entry load)
  | setCell f => exact h.of_table (serveSetCell_table s f)
  | setChannel f => exact h.of_table (serveSetChannel_table s f)
  | setAnalyzer f => exact h.of_table (serveSetAnalyzer_table s f)
  | setTank f => exact h.of_table (serveSetTank_table s f)
  | setPlant f => exact serveSetPlant_oneFilling h f
  | setPermit f => exact serveSetPermit_oneFilling h f
  | setClock dayCount second => exact serveSetClock_oneFilling h dayCount second
  | setAlertMask enables => exact h.of_table (serveSetAlertMask_table s enables)
  | setNoticeMask enables => exact h.of_table (serveSetNoticeMask_table s enables)
  | startCell cell => exact h.of_table (serveStartCell_table s cell)
  | stopCell cell => exact h.of_table (serveStopCell_table s cell)
  | clearCellFault cell => exact h.of_table (serveClearCellFault_table s cell)
  | closeLot => exact serveCloseLot_oneFilling h
  | holdLot n => exact serveHoldLot_oneFilling h n
  | returnLot n => exact h.of_table (serveReturnLot_table s n)
  | polishLot n => exact servePolishLot_oneFilling h n
  | declareHauled n => exact serveDeclareHauled_oneFilling h n
  | returnTank tank => exact serveReturnTank_oneFilling h tank
  | installCartridge serial capacity => exact serveInstallCartridge_oneFilling h serial capacity
  | removeCartridge serial => exact h.of_table (serveRemoveCartridge_table s serial)
  | setDischargeEnable enable => exact serveSetDischargeEnable_oneFilling h enable
  | clearAlert kind inst => exact h.of_table (serveClearAlert_table s kind inst)
  | factoryReset => exact serveFactoryReset_oneFilling h
  | readLine line => simp only [serveEntry, serveReadLine]; split <;> exact h
  | readCell cell => simp only [serveEntry, serveReadCell]; split <;> exact h
  | _ => exact h

end

/-! ### Every command -/

theorem oneFilling_linkKeeps : LinkKeeps OneFilling where
  link _ _ _ h := h
  latched f s h := h.of_table (latch_table s f)
  served r _ h := serveEntry_oneFilling h r

section
variable {s t : State}

theorem whenAwake_oneFilling (h : OneFilling s) {f : State → State} (hf : OneFilling (f s)) :
    OneFilling (whenAwake s f) := by
  unfold whenAwake
  split
  · exact hf
  · exact h

theorem whenDue_oneFilling (h : OneFilling s) (timer : Option Timer) {f : State → State} (hf : OneFilling (f s)) :
    OneFilling (whenDue timer s f) := by
  unfold whenDue
  split
  · exact hf
  · exact h

/-- Every command keeps at most one tank FILLING. -/
theorem exec_oneFilling (h : OneFilling s) (i : Instr) (ht : exec i s = .next t) : OneFilling t := by
  have later (dt : Micros) : OneFilling (s.after dt) := h
  have awake (dt : Micros) {f : State → State} (hf : OneFilling (f (s.after dt))) :
      OneFilling (whenAwake (s.after dt) f) := whenAwake_oneFilling (later dt) hf
  have due (dt : Micros) (timer : Option Timer) {f : State → State} (hf : OneFilling (f (s.after dt))) :
      OneFilling (whenDue timer (s.after dt) f) := whenDue_oneFilling (later dt) timer hf
  have apart (dt : Micros) (timer : Option Timer) {f : State → State} (hf : ∀ x, (f x).table = x.table) :
      OneFilling (whenDue timer (s.after dt) f) := due dt timer ((later dt).of_table (hf _))
  have request (dt : Micros) (kind tag : Byte) (r : Request) : OneFilling (hostRequest dt kind tag r s) :=
    awake dt (offerFrame_keeps oneFilling_linkKeeps (later dt) kind tag r)
  have begun (x : State) (hx : x.table = s.table) (sel1 sel0 : Bool) : OneFilling (beginStartUp sel1 sel0 x) :=
    beginStartUp_oneFilling (h.of_table hx) sel1 sel0
  cases i with
  | pulseEdge dt c rising => cases ht; exact awake dt (edge_oneFilling (later dt) c rising)
  | blockTimeLimit dt c =>
    cases ht
    split
    · exact (later dt).of_table (limitBlock_table _ c)
    · exact later dt
  | channelStale dt c => cases ht; exact apart dt _ fun x => goStale_table x c
  | analyzerFallingEdge dt a => cases ht; exact awake dt ((later dt).of_tankSide (modAnalyzer_tankSide _ a _))
  | analyzerRisingEdge dt a => cases ht; exact awake dt ((later dt).of_table (risingEdge_table _ a))
  | analyzerSilence dt a => cases ht; exact apart dt _ fun x => silent_table x a
  | analyzerHoldExpired dt a => cases ht; exact apart dt _ fun x => holdRunsOut_table x a
  | switchPinChange dt w covered => cases ht; exact h
  | debounceExpired dt w => cases ht; exact due dt _ (debounced_oneFilling (later dt) w)
  | switchStartingLevels dt => cases ht; exact due dt _ (startingLevels_oneFilling (later dt))
  | cellPrimingTimeout dt c => cases ht; exact due dt _ ((later dt).of_tankSide (cellFaulted_tankSide _ c _))
  | cellControlTick dt c => cases ht; exact due dt _ ((later dt).of_tankSide (tickAndRestart_tankSide _ c))
  | cellPwmPeriodStart dt c => cases ht; exact due dt _ ((later dt).of_tankSide (modCell_tankSide _ c _))
  | washCycleStart dt l => cases ht; exact due dt _ ((later dt).of_tankSide (startCycle_tankSide _ l))
  | washStopTimeout dt l => cases ht; exact due dt _ ((later dt).of_tankSide (washIdle_tankSide _ l))
  | maxFillTimeout dt t => cases ht; exact due dt _ (maxFillExpired_oneFilling (later dt) t)
  | sumpBackupDelay dt => cases ht; exact apart dt _ backupArises_table
  | settleTimerExpired dt t => cases ht; exact apart dt _ fun x => settleExpired_table x t
  | sampleFlushEnd dt => cases ht; exact apart dt _ flushEnds_table
  | sampleWindowEnd dt => cases ht; exact due dt _ (windowEnds_oneFilling (later dt))
  | permitCheckTimer dt => cases ht; exact due dt _ (checkExpired_oneFilling (later dt))
  | clockSecond dt =>
    cases ht
    split
    · exact clockAdvance_oneFilling (later dt)
    · exact later dt
  | drainTimerExpired dt => cases ht; exact due dt _ (drainTimedOut_oneFilling (later dt))
  | closingTimerExpired dt => cases ht; exact due dt _ (closingExpired_oneFilling (later dt))
  | linkCharacter dt b framingError =>
    cases ht; exact awake dt (takeCharacter_keeps oneFilling_linkKeeps (later dt) b framingError)
  | linkGapTimeout dt => cases ht; exact due dt _ (damage_keeps oneFilling_linkKeeps (later dt) _ _)
  | outboundFrameSent dt => cases ht; exact awake dt (frameSent_keeps oneFilling_linkKeeps (later dt))
  | supplyFall dt level => cases ht; exact supplyAt_oneFilling (later dt) level
  | supplyRise dt level => cases ht; exact supplyAt_oneFilling (later dt) level
  | supplyRecovery dt => cases ht; exact due dt _ (recover_oneFilling (later dt))
  | supplyBelowReset dt level => cases ht; exact lost_oneFilling (h.of_table rfl)
  | resetPin dt sel1 sel0 => cases ht; exact begun { s.after dt with resetLow := false } rfl sel1 sel0
  | powerOn dt level sel1 sel0 =>
    cases ht; exact begun { s.after dt with supply := { s.supply with level := level } } rfl sel1 sel0
  | selfTestEnd dt memoryGood storeReadable imageMatches =>
    cases ht
    split
    · exact endSelfTest_oneFilling (later dt) _ _ _
    · exact later dt
  | imageWriteComplete dt => cases ht; exact awake dt (completeWrite_oneFilling (later dt))
  | resetPinLow dt => cases ht; exact lost_oneFilling (h.of_table rfl)
  | permitMemoryFault dt p digest =>
    cases ht
    have haltered (x : State) : (permitAltered p digest x).table = x.table := by
      unfold permitAltered; split <;> rfl
    exact awake dt ((later dt).of_table (haltered _))
  | restoreEnd dt =>
    cases ht
    split
    · exact settle_keeps oneFilling_linkKeeps (endRestore_oneFilling (later dt)) _ _
    · exact later dt
  | _ => cases ht; exact request _ _ _ _

/-- So does every step. -/
theorem step_oneFilling (h : OneFilling s) (ht : step s = .next t) : OneFilling t := by
  unfold step at ht
  split at ht
  · cases ht; exact h
  next c rest _ => exact exec_oneFilling (s := { s with pending := rest }) h c ht

end

end Sys2Proof.Machine

namespace Sys2Proof.Settled

open Sys2Proof Sys2Proof.Machine

/-- Settles O8: a tank enters FILLING in the fill selection alone, which opens one while none is FILLING, and an image
captures the working copy as it stands. -/
theorem oneFillingKept : Obligations.OneFillingKept :=
  fun _ _ h ht => step_oneFilling h ht

end Sys2Proof.Settled
end

section
/-! SUPPORT. Requests whose entries hand notices, against the state that their statement names. -/

namespace Sys2Proof.Machine

open Sys2Proof

theorem AlikeButFrames.latched {s t : State} (h : AlikeButFrames s t) (f : Flag) : t.latched f = s.latched f := by
  have hflags : t.flags = s.flags := (congrArg State.flags h).symm
  rw [State.latched, State.latched, hflags]

theorem AlikeButFrames.supply {s t : State} (h : AlikeButFrames s t) : t.supply = s.supply :=
  (congrArg State.supply h).symm

theorem AlikeButFrames.timers {s t : State} (h : AlikeButFrames s t) : t.timers = s.timers :=
  (congrArg State.timers h).symm

theorem AlikeButFrames.path {s t : State} (h : AlikeButFrames s t) : t.path = s.path :=
  (congrArg State.path h).symm

/-- A request of one place whose entry gives the state `u` but for the frames and notices that it queues behind those
that wait. -/
theorem answers_of_noticed {i : Instr} {dt : Micros} {tag : Byte} {r : Request} {s t u : State} {body : ReplyBody}
    (hexec : exec i s = .next (hostRequest dt r.kind tag r s)) (ready : LinkReady 1 s) (hp : placesOf r.kind = 1)
    (hh : (s.supply.hold && refusedInHold r) = false) (hs : serveEntry r (serving dt r.kind s) = okWith body t)
    (hrest : t.link.rest = (serving dt r.kind s).link.rest) (hout : s.link.outbound <+: t.link.outbound)
    (ht : t = { u with link := t.link }) (hu : u.link.rest = s.link.rest) : Answers i r tag body u s := by
  obtain ⟨halike, hprefix, hreply⟩ := hostRequest_answers (tag := tag) ready hp hh hs hrest hout
  exact ⟨_, hexec, halike.of_freed ht ((serving_rest ready hrest).trans hu.symm), hprefix, hreply⟩

end Sys2Proof.Machine
end

section
/-! PROOF of O27. SET PLANT: its nine settings, the train judged against the new percent, and the supply judged against a
changed threshold (R103, R155, R187). -/

namespace Sys2Proof.Machine

open Sys2Proof

/-- The cartridges that a judgement of the whole train finds EXHAUSTED. -/
theorem exhaustedMore_map (train : List Cartridge) (percent : Nat) :
    exhaustedMore train (train.map (·.judged percent)) =
      train.any fun c => !c.exhausted && Decidable.decide (c.capacity * percent / 100 ≤ c.loaded) := by
  induction train with
  | nil => rfl
  | cons c rest ih =>
    have hc : (!c.exhausted && (c.judged percent).exhausted) =
        (!c.exhausted && Decidable.decide (c.capacity * percent / 100 ≤ c.loaded)) := by
      simp only [Cartridge.judged, Cartridge.threshold]
      cases c.exhausted <;> rfl
    simp only [exhaustedMore, List.map_cons, List.zip_cons_cons, List.any_cons, hc]
    exact congrArg _ ih

/-- The lasting state that SET PLANT writes: the settings, and every cartridge judged. -/
def Kept.withPlant (k : Kept) (f : PlantSettings) : Kept :=
  { k with plant := f, train := k.train.map (·.judged f.exhaustPercent) }

/-- The state with the settings written and the train judged; a cartridge that becomes EXHAUSTED latches its flag. -/
def withPlant (f : PlantSettings) (s : State) : State :=
  latchIf (s.kept.train.any fun c =>
      !c.exhausted && Decidable.decide (c.capacity * f.exhaustPercent / 100 ≤ c.loaded))
    .cartridgeExhausted { s with kept := s.kept.withPlant f }

theorem serveSetPlant_eq {f : PlantSettings} (s : State) (hf : f.inRange = true) :
    serveSetPlant f s =
      ok (if f.threshold = s.kept.plant.threshold then withPlant f s else judgeSupply (withPlant f s)) := by
  have hjudged : judgeTrain f.exhaustPercent (s.modKept fun k => { k with plant := f }) = withPlant f s := by
    rw [judgeTrain, trainJudged]
    exact congrArg (fun b => latchIf b _ _) (exhaustedMore_map s.kept.train f.exhaustPercent)
  rw [serveSetPlant, if_pos hf, hjudged]

section
variable (f : PlantSettings) (s : State)

theorem withPlant_tankSide : (withPlant f s).tankSide = { s.tankSide with kept := s.kept.withPlant f } :=
  latchIf_tankSide _ _ _

theorem withPlant_supply : (withPlant f s).supply = s.supply :=
  (congrArg State.supply (withPlant_tankSide f s) :)

theorem withPlant_kept : (withPlant f s).kept = s.kept.withPlant f :=
  (congrArg State.kept (withPlant_tankSide f s) :)

theorem withPlant_now : (withPlant f s).now = s.now :=
  (congrArg State.now (withPlant_tankSide f s) :)

theorem withPlant_rest : (withPlant f s).link.rest = s.link.rest := by
  have hledger : (withPlant f s).ledger = State.ledger { s with kept := s.kept.withPlant f } := latchIf_ledger _ _ _
  exact (congrArg Ledger.link hledger :)

theorem withPlant_threshold : (withPlant f s).threshold = thresholdOf f.threshold := by
  rw [State.threshold, withPlant_kept]
  rfl

theorem withPlant_prefix : s.link.outbound <+: (withPlant f s).link.outbound := by
  unfold withPlant latchIf
  split
  · exact latch_prefix { s with kept := s.kept.withPlant f } _
  · exact List.prefix_rfl

theorem withPlant_withLink (k : Link) :
    ∃ k', withPlant f { s with link := k } = { withPlant f s with link := k' } :=
  latchIf_withLink _ _ { s with kept := s.kept.withPlant f } k

/-! ### The plant settings in a supply hold -/

/-- The entry to HOLD leaves the plant settings. -/
theorem enterHold_plant : (enterHold s).kept.plant = s.kept.plant := by
  have hreturned (x : State) (t : Fin 3) : (handBackReturned t x).kept.plant = x.kept.plant :=
    plant_of_fixed (handBackReturned_fixed x t)
  have habandoned (x : State) (t : Fin 3) : (handBackAbandoned t x).kept.plant = x.kept.plant :=
    plant_of_fixed ((enterPolishWait_fixed _ t).trans (modTank_fixed x t _))
  have hback (x : State) (how : Fin 3 → State → State) (hhow : ∀ t x, (how t x).kept.plant = x.kept.plant) :
      (stopForHold how x).kept.plant = x.kept.plant := by
    unfold stopForHold handBack
    split
    · rfl
    · exact hhow _ _
  have hordered (x : State) (kind : WriteKind) : (orderWrite kind x).kept.plant = x.kept.plant :=
    plant_of_fixed (orderWrite_fixed x kind)
  have hends (x : State) : (pathEnds x).kept.plant = x.kept.plant := by
    obtain ⟨link, h⟩ := pathEnds_eq x
    rw [h]
  have hpath (x : State) : (latch .supplyLow (holdPath x)).kept.plant = x.kept.plant := by
    rw [latch_kept]
    unfold holdPath
    dsimp only
    split
    · rw [hends, hordered, hback _ _ fun t x => hreturned x t]; rfl
    · rw [hends, hback _ _ fun t x => habandoned x t]; rfl
    · rw [hends]; rfl
    · rfl
  have hsampler (x : State) : (holdSampler x).kept.plant = x.kept.plant := by
    unfold holdSampler
    dsimp only
    split
    · rfl
    · exact plant_of_fixed (enterSampleWait_fixed _ _)
  have hblocks : (holdBlocks s).kept.plant = s.kept.plant :=
    (hsampler _).trans (congrArg Kept.plant (pumpJudge_kept _))
  unfold enterHold
  dsimp only
  split
  · rw [hpath, hordered]; exact hblocks
  · split
    · rw [hordered, hpath]; exact hblocks
    · rw [hordered, hpath]; exact hblocks

theorem enterHold_supply : (enterHold s).supply = { s.supply with hold := true, recovery := none } := by
  obtain ⟨hdrives, -⟩ := enterHold_leaves s
  obtain ⟨_, -, -, hblocks⟩ := holdBlocks_drives s
  exact congrArg Drives.supply (hdrives.trans hblocks)

end

end Sys2Proof.Machine

namespace Sys2Proof.Settled

open Sys2Proof Sys2Proof.Machine

/-- Settles O27: the settings and the judged train, with the supply's judgement after a changed threshold. -/
theorem plantSet : Obligations.PlantSet := by
  intro dt tag s f ready hf spent written becomes
  let r : Request := .setPlant f
  let y := serving dt r.kind s
  have hserve : serveEntry r y =
      ok (if f.threshold = s.kept.plant.threshold then withPlant f y else judgeSupply (withPlant f y)) :=
    serveSetPlant_eq y hf
  have hsupply : (withPlant f y).supply = s.supply := withPlant_supply f y
  have hthreshold := withPlant_threshold f y
  have htimer : (withPlant f y).timer recoverySpan = { start := s.now + dt, len := 100 * ms } := by
    rw [State.timer, withPlant_now]
    rfl
  have answers (supply : Supply) (hs : serveEntry r y = ok { withPlant f y with supply := supply }) :
      becomes supply := by
    obtain ⟨link, hlink⟩ := withPlant_withLink f (s.after dt) y.link
    have hwritten : withPlant f y = { written with link := link } := hlink
    refine answers_of_noticed rfl ready rfl (passesHold s rfl) hs (withPlant_rest f y) (withPlant_prefix f y) ?_
      (withPlant_rest f (s.after dt))
    rw [hwritten]
  refine ⟨fun same => answers _ ?_, fun changed => ?_⟩
  · rw [hserve, if_pos same, ← hsupply]
  rw [if_neg changed] at hserve
  refine ⟨fun hhold hlevel => answers _ ?_, fun hhold hlevel => ?_, fun hhold hlevel => answers _ ?_,
    fun hhold hlevel => answers _ ?_⟩
  · rw [hserve, judgeSupply_normal (by rw [hsupply]; exact hhold) (by rw [hthreshold, hsupply]; exact hlevel), ← hsupply]
  · rw [judgeSupply_below (by rw [hsupply]; exact hhold) (by rw [hthreshold, hsupply]; exact hlevel)] at hserve
    obtain ⟨halike, hreply⟩ := hostRequest_replied (tag := tag) ready rfl (passesHold s rfl) hserve
      ((enterHold_carries _).link.trans (withPlant_rest f y))
    have hheld := enterHold_supply (withPlant f y)
    rw [hsupply] at hheld
    obtain ⟨-, -, -, hlatched, -⟩ := enterHold_leaves (withPlant f y)
    refine ⟨_, rfl, ?_, ?_, ?_, hreply⟩
    · rw [halike.supply, State.modLink_supply, hheld]
    · rw [halike.kept, State.modLink_kept, enterHold_plant, withPlant_kept]
      rfl
    · rw [halike.latched, State.latched, State.modLink_flags]
      exact hlatched
  · rw [hserve, judgeSupply_unrecovered (by rw [hsupply]; exact hhold) (by rw [hthreshold, hsupply]; exact hlevel), hsupply]
  · rw [hserve, judgeSupply_recovering (by rw [hsupply]; exact hhold) (by rw [hthreshold, hsupply]; exact hlevel), hsupply,
      htimer]

end Sys2Proof.Settled
end

section
/-! PROOF of O46. RETURN LOT to the Sampler and POLISH LOT to Polish Wait (R96, R97). -/

namespace Sys2Proof.Machine

open Sys2Proof

/-! ### The live lot of a number -/

theorem number_of_tankOfLot {n : Nat} {s : State} {t : Fin 3} {l : Lot} (ht : s.tankOfLot n = some t)
    (hl : s.lotIn t = some l) : l.number = n := by
  rw [State.tankOfLot] at ht
  simpa [hl] using List.find?_some ht

/-- A change of a lot that leaves its number leaves the tank that the number names. -/
theorem modLot_tankOfLot (s : State) (t : Fin 3) {f : Lot → Lot} (hf : ∀ l, (f l).number = l.number) (n : Nat) :
    (s.modLot t f).tankOfLot n = s.tankOfLot n := by
  have hlot (v : Fin 3) : ((s.modLot t f).lotIn v).any (·.number = n) = (s.lotIn v).any (·.number = n) := by
    by_cases hv : t = v
    · rw [← hv, modLot_lotIn, Option.any_map]
      exact congrArg (Option.any · _) (funext fun l => by simp only [hf])
    · rw [modLot_lotIn_other s f hv]
  simp only [State.tankOfLot, hlot]

/-! ### RETURN LOT -/

/-- The HELD lot of a number, sent back to the tail of Sample Wait. -/
def returned (t : Fin 3) (n : Nat) (s : State) : State :=
  (s.modLot t fun l => { l with state := .sampleWait, holdReason := none, attempts := 0 }).modKept fun k =>
    { k with sampleWait := k.sampleWait ++ [n] }

/-- The HELD lot of a number, taken at once by the Sampler. -/
def returnedAndTaken (t : Fin 3) (n : Nat) (s : State) : State :=
  { (s.modLot t fun l => { l with state := .sampling, holdReason := none, attempts := 0 }) with
    sampler :=
      { state := .flushing, lot := some n, flush := some (s.timer (s.kept.plant.flush * sec)), window := none
        count := 0, sum := 0, hold := false } }

theorem enterSampleWait_returned {n : Nat} {s : State} {t : Fin 3} {l : Lot} (hl : s.lotIn t = some l)
    (hn : l.number = n) : enterSampleWait t (s.modLot t fun l => { l with attempts := 0 }) = returned t n s := by
  have hzero : (s.modLot t fun l => { l with attempts := 0 }).lotIn t = some { l with attempts := 0 } := by
    rw [modLot_lotIn, hl]; rfl
  rw [enterSampleWait_eq hzero, modLot_twice, returned, ← hn]

theorem samplerTest_returned {n : Nat} {s : State} {t : Fin 3} (ht : s.tankOfLot n = some t)
    (hidle : s.sampler.state = .idle) (hhold : s.sampler.hold = false) (hempty : s.kept.sampleWait = []) :
    samplerTest (returned t n s) = returnedAndTaken t n s := by
  have htank : (returned t n s).tankOfLot n = some t :=
    (modLot_tankOfLot s t (f := fun l => { l with state := .sampleWait, holdReason := none, attempts := 0 })
      (fun _ => rfl) n).trans ht
  have hwaits : (returned t n s).kept.sampleWait = [n] := by
    rw [returned, State.modKept, State.modLot, State.modTank, State.modKept, hempty]; rfl
  have htaken : ((returned t n s).modKept fun k => { k with sampleWait := [] }).modLot t
      (fun l => { l with state := .sampling }) =
        s.modLot t fun l => { l with state := .sampling, holdReason := none, attempts := 0 } := by
    rw [← modLot_twice s t (fun l => { l with state := .sampleWait, holdReason := none, attempts := 0 })
      fun l => { l with state := .sampling }, ← hempty]
    rfl
  have hsampler : (returned t n s).sampler = s.sampler := rfl
  simp only [samplerTest, hsampler, hidle, hhold, hwaits, htank, htaken]
  rfl

theorem serveReturnLot_held {n : Nat} {s : State} {t : Fin 3} {l : Lot} (hlow : 1 ≤ n) (hhigh : n ≤ 65535)
    (hlevels : s.sump.levelsTaken = true) (ht : s.tankOfLot n = some t) (hl : s.lotIn t = some l)
    (hheld : l.state = .held) (hin : s.kept.tanks[t].state ≠ .outOfService) :
    serveReturnLot n s = ok (samplerTest (returned t n s)) := by
  have hgood : ¬(l.state ≠ .held ∨ s.tankOut t = true) :=
    not_or.mpr ⟨not_not.mpr hheld, fun h => hin (of_decide_eq_true h)⟩
  rw [serveReturnLot, onLot_of hlow hhigh hlevels ht hl, if_neg hgood,
    enterSampleWait_returned hl (number_of_tankOfLot ht hl)]

/-! ### POLISH LOT -/

/-- The lot of a number, sent to the tail of Polish Wait with its host pass. -/
def sentToPolish (t : Fin 3) (n : Nat) (s : State) : State :=
  (s.modLot t fun l => { l with state := .polishWait, holdReason := none, hostPass := true }).modKept fun k =>
    { k with
      dischargeQueue := k.dischargeQueue.filter (· ≠ n)
      polishWait := k.polishWait.filter (· ≠ n) ++ [n]
      sampleWait := k.sampleWait.filter (· ≠ n) }

theorem enterPolishWait_sent {n : Nat} {s : State} {t : Fin 3} {l : Lot} (hl : s.lotIn t = some l) (hn : l.number = n) :
    enterPolishWait t ((dropFromLists n s).modLot t fun l => { l with hostPass := true }) = sentToPolish t n s := by
  have hpass : ((dropFromLists n s).modLot t fun l => { l with hostPass := true }).lotIn t =
      some { l with hostPass := true } := by
    rw [modLot_lotIn]
    exact congrArg (Option.map _) (show (dropFromLists n s).lotIn t = some l from hl)
  simp only [enterPolishWait, hpass, modLot_twice, hn]
  rfl

theorem servePolishLot_sent {n : Nat} {s : State} {t : Fin 3} {l : Lot} (hlow : 1 ≤ n) (hhigh : n ≤ 65535)
    (hlevels : s.sump.levelsTaken = true) (ht : s.tankOfLot n = some t) (hl : s.lotIn t = some l)
    (hstate : l.state = .held ∨ l.state = .queued) (hsampled : l.concentration.isSome = true)
    (hin : s.kept.tanks[t].state ≠ .outOfService) (hbusy : s.path.state ≠ .idle) :
    servePolishLot n s = ok (sentToPolish t n s) := by
  have hgood : ¬((l.state ≠ .held ∧ l.state ≠ .queued) ∨ l.concentration.isNone = true ∨ s.tankOut t = true) := by
    rintro (⟨hheld, hqueued⟩ | hnone | hout)
    · exact hstate.elim hheld hqueued
    · rw [Option.isNone_iff_eq_none] at hnone
      rw [hnone] at hsampled
      cases hsampled
    · exact hin (of_decide_eq_true hout)
  rw [servePolishLot, onLot_of hlow hhigh hlevels ht hl, if_neg hgood,
    enterPolishWait_sent hl (number_of_tankOfLot ht hl), occasion_busy (s := sentToPolish t n s) hbusy]

end Sys2Proof.Machine

namespace Sys2Proof.Settled

open Sys2Proof Sys2Proof.Machine

/-- Settles O46: the refusals, RETURN LOT with a busy and with an idle Sampler, and POLISH LOT beside a busy path. -/
theorem lotReturned : Obligations.LotReturned := by
  intro dt tag s n t l ready hhold hlow hhigh hlevels ht hl x out
  have hout (y : State) (hy : y.kept.tanks = s.kept.tanks) (h : out) : y.tankOut t = true := by
    rw [State.tankOut, hy]; exact decide_eq_true h
  let y (r : Request) : State := serving dt r.kind s
  refine ⟨fun bad => ?_, fun hheld hin hbusy => ?_, fun hheld hin hidle hfree hempty => ?_, fun bad => ?_,
    fun hstate hsampled hin hbusy => ?_⟩
  · have hbad : l.state ≠ .held ∨ (y (.returnLot n)).tankOut t = true := bad.imp_right (hout _ rfl)
    exact congrArg _ (hostRequest_refused dt tag (.returnLot n) s .wrongState ready rfl (passesNormal _ hhold)
      ((onLot_of (s := y (.returnLot n)) hlow hhigh hlevels ht hl _).trans (if_pos hbad)))
  · have hserve : serveReturnLot n (y (.returnLot n)) = ok (returned t n (y (.returnLot n))) :=
      (serveReturnLot_held (s := y (.returnLot n)) hlow hhigh hlevels ht hl hheld hin).trans
        (congrArg ok (samplerTest_stays (s := returned t n (y (.returnLot n))) hbusy))
    exact congrArg _ (hostRequest_acts dt tag (.returnLot n) s .empty (returned t n) ready rfl (passesNormal _ hhold)
      hserve fun _ => rfl)
  · have hserve : serveReturnLot n (y (.returnLot n)) = ok (returnedAndTaken t n (y (.returnLot n))) :=
      (serveReturnLot_held (s := y (.returnLot n)) hlow hhigh hlevels ht hl hheld hin).trans
        (congrArg ok (samplerTest_returned (s := y (.returnLot n)) ht hidle hfree hempty))
    exact congrArg _ (hostRequest_acts dt tag (.returnLot n) s .empty (returnedAndTaken t n) ready rfl
      (passesNormal _ hhold) hserve fun _ => rfl)
  · have hbad : (l.state ≠ .held ∧ l.state ≠ .queued) ∨ l.concentration.isNone = true ∨
        (y (.polishLot n)).tankOut t = true :=
      bad.imp_right (Or.imp Option.isNone_iff_eq_none.mpr (hout _ rfl))
    exact congrArg _ (hostRequest_refused dt tag (.polishLot n) s .wrongState ready rfl (passesNormal _ hhold)
      ((onLot_of (s := y (.polishLot n)) hlow hhigh hlevels ht hl _).trans (if_pos hbad)))
  · have hserve : servePolishLot n (y (.polishLot n)) = ok (sentToPolish t n (y (.polishLot n))) :=
      servePolishLot_sent (s := y (.polishLot n)) hlow hhigh hlevels ht hl hstate hsampled hin hbusy
    exact congrArg _ (hostRequest_acts dt tag (.polishLot n) s .empty (sentToPolish t n) ready rfl
      (passesNormal _ hhold) hserve fun _ => rfl)

end Sys2Proof.Settled
end

section
/-! SUPPORT. A lot that does not wait for its sample, beside the opening and closing of the other tanks' lots: the Sampler
does not take it (R80, R81, R89). -/

namespace Sys2Proof.Machine

open Sys2Proof

/-! ### A fresh number -/

theorem tankOfLot_none_ne {s : State} {n : Nat} {t : Fin 3} {l : Lot} (h : s.tankOfLot n = none)
    (hl : s.lotIn t = some l) : l.number ≠ n := by
  rw [State.tankOfLot, List.find?_eq_none] at h
  simpa [hl] using h t (List.mem_finRange t)

theorem lotIn_of_tankOfLot {s : State} {n : Nat} (h : (s.tankOfLot n).isSome = true) :
    ∃ t l, s.lotIn t = some l ∧ l.number = n := by
  obtain ⟨t, ht⟩ := Option.isSome_iff_exists.mp h
  rw [State.tankOfLot] at ht
  have hany := List.find?_some ht
  rw [Option.any_eq_true] at hany
  obtain ⟨l, hl, hn⟩ := hany
  exact ⟨t, l, hl, of_decide_eq_true hn⟩

/-- The number of the `i`-th new lot from `n` on. -/
def laterNumber (n : Nat) (i : Fin 4) : Nat :=
  nextNumber^[i] n

theorem laterNumber_injective (n : Nat) : Function.Injective (laterNumber n) := by
  intro i j h
  fin_cases i <;> fin_cases j <;> simp [laterNumber, nextNumber] at h ⊢ <;> split_ifs at h <;> omega

/-- Four lots of four numbers do not stand in three tanks. -/
theorem not_four_numbers {s : State} {n : Fin 4 → Nat} (hdiffer : Function.Injective n)
    (h : ∀ i, ∃ t l, s.lotIn t = some l ∧ l.number = n i) : False := by
  choose tank lot hlot hnumber using h
  have hinjective : Function.Injective tank := by
    intro i j hij
    have hsame : lot i = lot j := Option.some.inj ((hlot i).symm.trans ((congrArg s.lotIn hij).trans (hlot j)))
    exact hdiffer ((hnumber i).symm.trans ((congrArg Lot.number hsame).trans (hnumber j)))
  have := Fintype.card_le_of_injective tank hinjective
  simp at this

/-- A new lot takes a number that no live lot has (R80). -/
theorem freshNumber_ne {s : State} {t : Fin 3} {l : Lot} (hl : s.lotIn t = some l) : l.number ≠ s.freshNumber := by
  rw [State.freshNumber]
  simp only [passOver]
  split
  · split
    · split
      · intro hlast
        refine not_four_numbers (s := s) (laterNumber_injective s.kept.nextLot) fun i => ?_
        fin_cases i
        · exact lotIn_of_tankOfLot ‹_›
        · exact lotIn_of_tankOfLot ‹_›
        · exact lotIn_of_tankOfLot ‹_›
        · exact ⟨t, l, hl, hlast⟩
      · next h => exact tankOfLot_none_ne (Option.not_isSome_iff_eq_none.mp h) hl
    · next h => exact tankOfLot_none_ne (Option.not_isSome_iff_eq_none.mp h) hl
  · next h => exact tankOfLot_none_ne (Option.not_isSome_iff_eq_none.mp h) hl

/-! ### The timers of a tank -/

theorem TankSteps.timers {P : Fin 3 → Prop} {s x : State} {t : Fin 3} (h : TankSteps P s x) (ht : ¬P t) :
    x.timers[t] = s.timers[t] := by
  induction h with
  | refl => rfl
  | tail _ step ih =>
    refine Eq.trans ?_ ih
    cases step with
    | flag f => rw [latch_timers]
    | event kind u => rw [lotEvent_link]
    | timers u f _ hu => exact modAt_other _ _ _ _ fun h => ht (h ▸ hu)
    | sampler => rw [samplerTest_timers]
    | pump => rw [pumpJudge_timers]
    | _ => rfl

/-! ### A lot beside the fill selection -/

/-- Tank `t` is not EMPTY, and its lot does not wait for its sample. -/
structure Unawaited (t : Fin 3) (l : Lot) (s : State) : Prop where
  state : s.kept.tanks[t].state ≠ .empty
  lot : s.lotIn t = some l
  list : l.number ∉ s.kept.sampleWait

section
variable {t : Fin 3} {l : Lot} {s x : State}

theorem Unawaited.of_kept (h : Unawaited t l s) (hkept : x.kept = s.kept) : Unawaited t l x where
  state := by rw [hkept]; exact h.state
  lot := by rw [State.lotIn, hkept]; exact h.lot
  list := by rw [hkept]; exact h.list

theorem Unawaited.modTank (h : Unawaited t l s) {u : Fin 3} (hu : u ≠ t) (f : Tank → Tank) :
    Unawaited t l (s.modTank u f) where
  state := by rw [modTank_other s f hu]; exact h.state
  lot := by rw [State.lotIn, modTank_other s f hu]; exact h.lot
  list := h.list

theorem Unawaited.lotEvent (h : Unawaited t l s) (kind : LotEventKind) (u : Fin 3) :
    Unawaited t l (lotEvent kind u s) :=
  h.of_kept (lotEvent_kept _ _ _)

theorem Unawaited.pumpJudge (h : Unawaited t l s) : Unawaited t l (pumpJudge s) :=
  h.of_kept (pumpJudge_kept _)

/-- The Sampler takes another lot, or none. -/
theorem Unawaited.samplerTest (h : Unawaited t l s) : Unawaited t l (samplerTest s) := by
  rcases samplerTest_cases s with hs | ⟨n, rest, u, hwaits, htank, hs⟩
  · rw [hs]; exact h
  · have hlist : l.number ∉ n :: rest := hwaits ▸ h.list
    have hu : u ≠ t := by
      rintro rfl
      exact hlist (number_of_tankOfLot htank h.lot ▸ List.mem_cons_self)
    have hrest : Unawaited t l (s.modKept fun k => { k with sampleWait := rest }) :=
      ⟨h.state, h.lot, fun hmem => hlist (List.mem_cons_of_mem _ hmem)⟩
    rw [hs]
    exact (hrest.modTank hu _).of_kept rfl

theorem Unawaited.enterSampleWait (h : Unawaited t l s) {u : Fin 3} {m : Lot} (hu : u ≠ t) (hm : s.lotIn u = some m)
    (hnumber : l.number ≠ m.number) : Unawaited t l (enterSampleWait u s) := by
  have hmoved := h.modTank hu fun k =>
    { k with lot := k.lot.map fun l => { l with state := .sampleWait, holdReason := none } }
  rw [enterSampleWait_eq hm]
  refine ⟨hmoved.state, hmoved.lot, fun hmem => ?_⟩
  rcases List.mem_append.mp hmem with hlisted | hlast
  · exact h.list hlisted
  · exact hnumber (List.mem_singleton.mp hlast)

theorem Unawaited.enterSettling (h : Unawaited t l s) {u : Fin 3} {m : Lot} (hu : u ≠ t) (hm : s.lotIn u = some m)
    (hnumber : l.number ≠ m.number) : Unawaited t l (enterSettling u s) := by
  have hsettling := h.modTank hu fun k =>
    { k with lot := k.lot.map fun l => { l with state := .settling, holdReason := none } }
  have hlot : (s.modLot u fun l => { l with state := .settling, holdReason := none }).lotIn u = _ :=
    (modLot_lotIn s u _).trans (congrArg _ hm)
  simp only [Machine.enterSettling, hm]
  split
  · exact (Unawaited.enterSampleWait hsettling hu hlot hnumber).samplerTest
  · exact hsettling.of_kept rfl

theorem Unawaited.closeSteps (h : Unawaited t l s) {u : Fin 3} {m : Lot} (hu : u ≠ t) (hm : s.lotIn u = some m)
    (hnumber : l.number ≠ m.number) (byHigh : Bool) : Unawaited t l (closeSteps u byHigh s) := by
  have hfill : Unawaited t l (closeFill u s) :=
    Unawaited.modTank (s := s.modTimers u _) (h.of_kept rfl) hu _
  have hclosed : Unawaited t l (closed u byHigh s) := (hfill.modTank hu _).modTank hu _
  have hlot : (closed u byHigh s).lotIn u = some (m.closedAt s.stamp byHigh) :=
    (closed_lotIn u byHigh s).trans (congrArg _ hm)
  rw [closeSteps_eq]
  exact ((hclosed.enterSettling hu hlot hnumber).lotEvent _ _).pumpJudge

/-- The fill selection opens and closes lots of other numbers in other tanks. -/
theorem Unawaited.fillTurns (h : Unawaited t l s) (k : Nat) : Unawaited t l (fillTurns k s) := by
  induction k generalizing s with
  | zero => exact h
  | succ k ih =>
    unfold Machine.fillTurns
    split
    · exact h
    split
    · exact h
    next u hempty =>
      have hu : u ≠ t := by
        rintro rfl
        exact h.state (emptyTank_empty hempty)
      have hopened : Unawaited t l (openLot u s) :=
        (Unawaited.modTank (s := s.modKept fun k => { k with nextLot := nextNumber s.freshNumber })
          ⟨h.state, h.lot, h.list⟩ hu _).of_kept (pumpJudge_kept _)
      have hlot : (openLot u s).lotIn u = some (Lot.opening s.freshNumber s.stamp s.kept.tankSettings[u]) := by
        rw [State.lotIn, openLot_tank]
      dsimp only
      split
      · exact (ih (hopened.closeSteps hu hlot (freshNumber_ne h.lot) true)).pumpJudge
      · exact hopened

theorem Unawaited.fillSelection (h : Unawaited t l s) : Unawaited t l (fillSelection s) :=
  h.fillTurns 3

end

end Sys2Proof.Machine
end

section
/-! PROOF of O44. The three closings of the FILLING lot: CLOSE LOT, the max fill timer and HIGH covered (R81, R85, R88). -/

namespace Sys2Proof.Machine

open Sys2Proof

/-- What a closing of the lot `l` in tank `t` leaves, from the state `s` at that moment. -/
structure LotCloses (byHigh : Bool) (t : Fin 3) (l l' : Lot) (s u : State) : Prop where
  lot : u.lotIn t = some l'
  tank : u.kept.tanks[t].state = .closed
  maxFill : u.timers[t].maxFill = none
  closed : ∃ state, l' = { l.closedAt s.stamp byHigh with state := state, holdReason := none }
  settles : l.settings.settle ≠ 0 → (l.number ∉ s.kept.sampleWait → l'.state = .settling) ∧
    u.timers[t].settle = some { start := s.now, len := l.settings.settle * sec }
  waits : l.settings.settle = 0 → l'.state = .sampleWait ∨ l'.state = .sampling

section
variable {t : Fin 3} {l l' : Lot} {byHigh : Bool} {s u v : State}

theorem LotCloses.of_kept (h : LotCloses byHigh t l l' s u) (hkept : v.kept = u.kept) (htimers : v.timers = u.timers) :
    LotCloses byHigh t l l' s v where
  lot := by rw [State.lotIn, hkept]; exact h.lot
  tank := by rw [hkept]; exact h.tank
  maxFill := by rw [htimers]; exact h.maxFill
  closed := h.closed
  settles := by rw [htimers]; exact h.settles
  waits := h.waits

/-! ### The settle time -/

theorem modTimers_lotIn (s : State) (u v : Fin 3) (f : TankTimers → TankTimers) :
    (s.modTimers u f).lotIn v = s.lotIn v := rfl

theorem modTimers_same (s : State) (u : Fin 3) (f : TankTimers → TankTimers) :
    (s.modTimers u f).timers[u] = f s.timers[u] :=
  modAt_same s.timers u f

theorem enterSettling_settles (hl : s.lotIn t = some l) (hsettle : l.settings.settle ≠ 0) :
    enterSettling t s =
      (s.modLot t fun l => { l with state := .settling, holdReason := none }).modTimers t fun k =>
        { k with settle := some (s.timer (l.settings.settle * sec)) } := by
  simp only [enterSettling, hl, if_neg hsettle]

/-- Without a settle time the lot waits for its sample, or is taken at once. -/
theorem enterSettling_waits (hl : s.lotIn t = some l) (hsettle : l.settings.settle = 0) :
    (∃ state : LotState, (state = .sampleWait ∨ state = .sampling) ∧
      (enterSettling t s).lotIn t = some { l with state := state, holdReason := none }) ∧
      (enterSettling t s).timers = s.timers := by
  have hlot : (s.modLot t fun l => { l with state := .settling, holdReason := none }).lotIn t = _ :=
    (modLot_lotIn s t _).trans (congrArg _ hl)
  simp only [enterSettling, hl, if_pos hsettle, samplerTest_timers]
  rw [enterSampleWait_eq hlot, modLot_twice]
  have hwaits : ((s.modLot t fun l => { l with state := .sampleWait, holdReason := none }).modKept fun k =>
      { k with sampleWait := k.sampleWait ++ [l.number] }).lotIn t =
        some { l with state := .sampleWait, holdReason := none } :=
    (modLot_lotIn s t _).trans (congrArg _ hl)
  refine ⟨?_, rfl⟩
  rcases samplerTest_lotIn hwaits with h | h
  · exact ⟨.sampleWait, .inl rfl, h⟩
  · exact ⟨.sampling, .inr rfl, h⟩

/-! ### A closing -/

/-- After its settle time is set, a closing leaves its own tank alone. -/
theorem closeLot_after (t : Fin 3) (byHigh : Bool) (s : State) :
    TankSteps (· ≠ t) (enterSettling t (closed t byHigh s)) (closeLot t byHigh s) := by
  have hclosed : TankSteps (· ≠ t) (enterSettling t (closed t byHigh s)) (closeSteps t byHigh s) :=
    (TankSteps.refl.step (.event .closed t _)).step (.pump _)
  have hopen : (closeSteps t byHigh s).kept.tanks[t].state ≠ .empty := by
    rw [closeSteps_state]; nofun
  exact hclosed.trans ((fillSelection_steps (unopened_other hopen)).step (.pump _))

theorem modLot_sampleWait (s : State) (u : Fin 3) (f : Lot → Lot) :
    (s.modLot u f).kept.sampleWait = s.kept.sampleWait := rfl

theorem closed_sampleWait (t : Fin 3) (byHigh : Bool) (s : State) :
    (closed t byHigh s).kept.sampleWait = s.kept.sampleWait := rfl

theorem closed_now (t : Fin 3) (byHigh : Bool) (s : State) : (closed t byHigh s).now = s.now := rfl

theorem closed_maxFill (t : Fin 3) (byHigh : Bool) (s : State) : (closed t byHigh s).timers[t].maxFill = none :=
  congrArg TankTimers.maxFill (modAt_same s.timers t _)

theorem closeLot_of_settles (hl : s.lotIn t = some l) (hsettle : l.settings.settle ≠ 0) :
    ∃ l', LotCloses byHigh t l l' s (closeLot t byHigh s) := by
  have hsteps := closeLot_after t byHigh s
  have htimers := hsteps.timers fun h : t ≠ t => h rfl
  have hclosed : (closed t byHigh s).lotIn t = some (l.closedAt s.stamp byHigh) :=
    (closed_lotIn t byHigh s).trans (congrArg _ hl)
  let settling : Lot := { l.closedAt s.stamp byHigh with state := .settling, holdReason := none }
  have henters := enterSettling_settles hclosed hsettle
  have hlot : (enterSettling t (closed t byHigh s)).lotIn t = some settling := by
    rw [henters, modTimers_lotIn, modLot_lotIn, hclosed]
    rfl
  have htank : (enterSettling t (closed t byHigh s)).timers[t] =
      { (closed t byHigh s).timers[t] with settle := some { start := s.now, len := l.settings.settle * sec } } := by
    rw [henters, modTimers_same, State.timer, closed_now]
    rfl
  obtain ⟨l', hl', heq⟩ := (hsteps.spares fun h => h rfl).lotIn hlot
  refine ⟨l', hl', (closeLot_closes hl byHigh).1, ?_, ?_, fun _ => ⟨fun hunlisted => ?_, ?_⟩, fun h => absurd h hsettle⟩
  · rw [htimers, htank]; exact closed_maxFill t byHigh s
  · rcases heq with rfl | rfl
    · exact ⟨.settling, rfl⟩
    · exact ⟨.sampling, rfl⟩
  · have hunawaited : Unawaited t settling (enterSettling t (closed t byHigh s)) := by
      refine ⟨?_, hlot, ?_⟩
      · rw [henters, State.modTimers_kept, State.modLot, modTank_same]
        exact fun h => TankState.noConfusion (h.symm.trans (closed_state t byHigh s))
      · rw [henters, State.modTimers_kept, modLot_sampleWait, closed_sampleWait]
        exact hunlisted
    have hlot' := ((hunawaited.lotEvent .closed t).pumpJudge.fillSelection.pumpJudge).lot
    exact congrArg Lot.state (Option.some.inj (hl'.symm.trans hlot'))
  · rw [htimers, htank]

theorem closeLot_of_waits (hl : s.lotIn t = some l) (hsettle : l.settings.settle = 0) :
    ∃ l', LotCloses byHigh t l l' s (closeLot t byHigh s) := by
  have hsteps := closeLot_after t byHigh s
  have htimers := hsteps.timers fun h : t ≠ t => h rfl
  have hclosed : (closed t byHigh s).lotIn t = some (l.closedAt s.stamp byHigh) :=
    (closed_lotIn t byHigh s).trans (congrArg _ hl)
  obtain ⟨⟨state, hstate, hlot⟩, hsame⟩ := enterSettling_waits hclosed hsettle
  obtain ⟨l', hl', heq⟩ := (hsteps.spares fun h => h rfl).lotIn hlot
  refine ⟨l', hl', (closeLot_closes hl byHigh).1, ?_, ?_, fun h => absurd hsettle h, fun _ => ?_⟩
  · rw [htimers, hsame]; exact closed_maxFill t byHigh s
  · rcases heq with rfl | rfl
    · exact ⟨state, rfl⟩
    · exact ⟨.sampling, rfl⟩
  · rcases heq with rfl | rfl
    · exact hstate
    · exact .inr rfl

theorem closeLot_lotCloses (byHigh : Bool) (hl : s.lotIn t = some l) :
    ∃ l', LotCloses byHigh t l l' s (closeLot t byHigh s) := by
  by_cases hsettle : l.settings.settle = 0
  · exact closeLot_of_waits hl hsettle
  · exact closeLot_of_settles hl hsettle

end

/-! ### CLOSE LOT -/

theorem serveCloseLot_refused {s : State}
    (h : s.sump.levelsTaken = false ∨ s.fillingTank = none ∨
      ∃ t l, s.fillingTank = some t ∧ s.lotIn t = some l ∧ l.filled = 0) : serveCloseLot s = wrongState s := by
  unfold serveCloseLot
  split
  · next htaken =>
    rcases h with hnot | hnone | ⟨t, l, ht, hl, hzero⟩
    · exact absurd (htaken.symm.trans hnot) nofun
    · rw [hnone]
    · simp only [ht, hl, if_pos hzero]
  · rfl

theorem serveCloseLot_closes {s : State} {t : Fin 3} {l : Lot} (htaken : s.sump.levelsTaken = true)
    (ht : s.fillingTank = some t) (hl : s.lotIn t = some l) (hfilled : l.filled ≠ 0) :
    serveCloseLot s = okWith (.lotClosed l.number t) (closeLot t false s) := by
  simp only [serveCloseLot, htaken, if_true, ht, hl, if_neg hfilled]

/-- HIGH of a tank in order, covered, closes its FILLING lot. -/
theorem tankHighChange_closes {s : State} {t : Fin 3} (hagree : s.switchesDisagree t = false)
    (hfilling : s.kept.tanks[t].state = .filling) : tankHighChange t true s = closeLot t true s := by
  have htest : switchFaultTest t s = s := if_neg (by rw [hagree]; nofun)
  have hgo : (true && (s.kept.tanks[t].state = .filling : Bool)) = true := by rw [hfilling]; rfl
  unfold tankHighChange
  dsimp only
  rw [htest]
  exact if_pos hgo

end Sys2Proof.Machine

namespace Sys2Proof.Settled

open Sys2Proof Sys2Proof.Machine

/-- Settles O44: each of the three occasions closes the lot, and a closing leaves what `LotCloses` says. -/
theorem lotClosed : Obligations.LotClosed := by
  intro dt s x closes
  have closes_of {byHigh : Bool} {t : Fin 3} {l l' : Lot} {y u : State} (hy : y.kept = s.kept)
      (hstamp : y.stamp = s.stamp) (hnow : y.now = x.now) (h : LotCloses byHigh t l l' y u) : closes byHigh t l u := by
    obtain ⟨hlot, htank, hmax, ⟨state, heq⟩, hsettles, hwaits⟩ := h
    rw [hy, hnow] at hsettles
    rw [hstamp] at heq
    subst heq
    exact ⟨_, hlot, htank, hmax, rfl, rfl, rfl, rfl, rfl, hsettles, hwaits⟩
  refine ⟨fun tag ready hhold => ⟨fun bad => ?_, fun t l htaken ht hl hfilled => ?_⟩,
    fun t l awake due hfilling hl => ?_, fun t l awake due hpin hlow hfilling hl => ?_⟩
  · exact congrArg _ (hostRequest_refused dt tag .closeLot s .wrongState ready rfl (passesNormal _ hhold)
      (serveCloseLot_refused (s := serving dt Request.closeLot.kind s) bad))
  · let y := serving dt Request.closeLot.kind s
    obtain ⟨l', hcloses⟩ := closeLot_lotCloses (s := y) false hl
    obtain ⟨halike, hreply⟩ := hostRequest_replied (r := .closeLot) (tag := tag) ready rfl (passesNormal _ hhold)
      (serveCloseLot_closes (s := y) htaken ht hl hfilled) (rest_of_ledger (closeLot_ledger y t false))
    have hafter := hcloses.of_kept (v := hostRequest dt Request.closeLot.kind tag .closeLot s)
      (by rw [halike.kept, State.modLink_kept]) (by rw [halike.timers, State.modLink_timers])
    exact ⟨_, rfl, closes_of (y := y) rfl rfl rfl hafter, hreply⟩
  · obtain ⟨l', hcloses⟩ := closeLot_lotCloses (s := x) false hl
    have hexpired : maxFillExpired t x = closeLot t false x := if_pos hfilling
    refine ⟨_, (congrArg Host.Outcome.next (whenDue_of (s := x) awake due (maxFillExpired t)) :), ?_⟩
    rw [hexpired]
    exact closes_of (y := x) rfl rfl rfl hcloses
  · let y := accept (.tankHigh t) x
    obtain ⟨l', hcloses⟩ := closeLot_lotCloses (s := y) true hl
    have hagree : y.switchesDisagree t = false := by
      have hlow' : y.covered (.tankLow t) = true := (accept_covered_other x (by fin_cases t <;> decide)).trans hlow
      rw [State.switchesDisagree, hlow']
      exact Bool.and_false _
    have hclosed : debounced (.tankHigh t) x = closeLot t true y := by
      have hlevel : x.switches[switchIndex (.tankHigh t)].pin = true := hpin
      rw [debounced_eq, hlevel]
      exact tankHighChange_closes (s := y) hagree hfilling
    refine ⟨_, (congrArg Host.Outcome.next (whenDue_of (s := x) awake due (debounced (.tankHigh t))) :), ?_⟩
    rw [hclosed]
    exact closes_of (y := y) rfl rfl rfl hcloses

end Sys2Proof.Settled
end

section
/-! SUPPORT. A lot that enters HELD, in its tank and at the end of a drain: what the entry leaves (R82, R93, R95, R100). -/

namespace Sys2Proof.Machine

open Sys2Proof

/-- What a lot is when it has entered HELD. -/
def Lot.heldFor (reason : HoldReason) (l : Lot) : Lot :=
  { l with state := .held, holdReason := some reason }

/-- The state in which the lot of tank `t` has entered HELD, but for the notice of its lot event. -/
def heldFor (t : Fin 3) (reason : HoldReason) (s : State) : State :=
  latch .lotHeld (s.modLot t (·.heldFor reason))

section
variable (t : Fin 3) (reason : HoldReason) (s : State)

/-! ### The entry to HELD -/

@[simp] theorem enterHeld_kept : (enterHeld t reason s).kept = (s.modLot t (·.heldFor reason)).kept := by
  rw [enterHeld, latch_kept, lotEvent_kept]
  rfl

@[simp] theorem enterHeld_timers : (enterHeld t reason s).timers = s.timers := by
  rw [enterHeld, latch_timers, lotEvent_link]
  rfl

@[simp] theorem enterHeld_sampler : (enterHeld t reason s).sampler = s.sampler := by
  rw [enterHeld, latch_sampler, lotEvent_link]
  rfl

@[simp] theorem enterHeld_path : (enterHeld t reason s).path = s.path := by
  rw [enterHeld, latch_path, lotEvent_link]
  rfl

theorem enterHeld_latched : (enterHeld t reason s).latched .lotHeld = true :=
  latch_latched _ _

theorem enterHeld_tankState : (enterHeld t reason s).kept.tanks[t].state = s.kept.tanks[t].state := by
  rw [enterHeld_kept, State.modLot, modTank_same]

theorem enterHeld_lotIn : (enterHeld t reason s).lotIn t = (s.lotIn t).map (·.heldFor reason) := by
  rw [State.lotIn, enterHeld_kept]
  exact modLot_lotIn s t _

theorem enterHeld_keeps_latched {f : Flag} (h : s.latched f = true) : (enterHeld t reason s).latched f = true :=
  (enterHeld_steps (P := fun _ => True) s trivial reason).flags h

/-- The entry to HELD, from a state whose link is another one. -/
theorem enterHeld_heldFor (k : Link) :
    ∃ link, enterHeld t reason { s with link := k } = { heldFor t reason s with link := link } := by
  let told := lotEvent .held t ({ s with link := k }.modLot t (·.heldFor reason))
  have htold : told = { s.modLot t (·.heldFor reason) with link := told.link } := lotEvent_link .held t _
  obtain ⟨link, hlatch⟩ := latch_withLink .lotHeld (s.modLot t (·.heldFor reason)) told.link
  have henters : enterHeld t reason { s with link := k } = latch .lotHeld told := rfl
  exact ⟨link, henters.trans ((congrArg (latch .lotHeld) htold).trans hlatch)⟩

theorem lotEvent_prefix (kind : LotEventKind) : s.link.outbound <+: (lotEvent kind t s).link.outbound := by
  unfold lotEvent
  split
  · exact List.prefix_rfl
  · exact handNotice_prefix _ _ s

theorem enterHeld_prefix : s.link.outbound <+: (enterHeld t reason s).link.outbound :=
  (lotEvent_prefix t (s.modLot t (·.heldFor reason)) .held).trans (latch_prefix _ _)

end

/-! ### The end of a drain whose lot is held (R138, R146) -/

section
variable {s : State} {t : Fin 3} {l : Lot} (ht : s.path.tank = some t) (cause : StopCause) (reason : HoldReason)
include ht

theorem stopDrain_held_path : (stopDrain cause (handBackHeld reason) s).path =
    { s.path.stopped cause with closing := some (s.timer (s.kept.plant.closing * sec)) } := by
  have htank : (s.modPath (·.stopped cause)).path.tank = some t := ht
  rw [stopDrain_path, handBack_of htank, handBackHeld, enterHeld_path]
  rfl

/-- The tank of a drain that stops with its lot held is CLOSED, but for one that is out of service. -/
theorem stopDrain_held_tank : (stopDrain cause (handBackHeld reason) s).kept.tanks[t].state =
    if s.kept.tanks[t].state = .outOfService then .outOfService else .closed := by
  have htank : (s.modPath (·.stopped cause)).path.tank = some t := ht
  rw [stopDrain_kept, handBack_of htank, handBackHeld, enterHeld_tankState]
  exact congrArg Tank.state (modTank_same (s.modPath (·.stopped cause)) t _)

theorem stopDrain_held_lotIn : (stopDrain cause (handBackHeld reason) s).lotIn t =
    (s.lotIn t).map (·.heldFor reason) := by
  have htank : (s.modPath (·.stopped cause)).path.tank = some t := ht
  have hlot (f : Tank → Tank) (hf : ∀ k, (f k).lot = k.lot) :
      ((s.modPath (·.stopped cause)).modTank t f).lotIn t = s.lotIn t := by
    rw [State.lotIn, modTank_same, hf]
    rfl
  rw [State.lotIn, stopDrain_kept, handBack_of htank, handBackHeld]
  exact (enterHeld_lotIn t reason _).trans (congrArg _ (hlot _ fun _ => rfl))

theorem stopDrain_held_latched {f : Flag} (h : f = .lotHeld ∨ s.latched f = true) :
    (stopDrain cause (handBackHeld reason) s).latched f = true := by
  have htank : (s.modPath (·.stopped cause)).path.tank = some t := ht
  obtain ⟨_, heq⟩ := stopDrain_eq cause (handBackHeld reason) s
  have hflags : (stopDrain cause (handBackHeld reason) s).flags =
      (handBackHeld reason t (s.modPath (·.stopped cause))).flags := by
    rw [heq, handBack_of htank]
  rw [State.latched, hflags]
  rcases h with rfl | h
  · exact enterHeld_latched t reason _
  · exact enterHeld_keeps_latched t reason _ h

end

theorem total_of_books {k m : Kept} (h : k.books = m.books) : k.day.total = m.day.total := congrArg Books.total h

/-- A stop with the lot held books nothing. -/
theorem stopDrain_held_carries (cause : StopCause) (reason : HoldReason) (s : State) :
    Carries s (stopDrain cause (handBackHeld reason) s) :=
  stopDrain_carries s cause _ fun t s => handBackHeld_ledger s reason t

end Sys2Proof.Machine
end

section
/-! PROOF of O45. HOLD LOT, by the state of the lot it names (R95, R138). -/

namespace Sys2Proof.Machine

open Sys2Proof

/-! ### What HOLD LOT stops -/

section
variable {t : Fin 3} {l : Lot} {s : State} (hl : s.lotIn t = some l) (cause : StopCause) (reason : HoldReason)
include hl

theorem stopLot_settling (hstate : l.state = .settling) :
    stopLot t cause reason s = enterHeld t reason (s.modTimers t fun k => { k with settle := none }) := by
  simp only [stopLot, hl, hstate]

theorem stopLot_listed (hstate : l.state = .sampleWait ∨ l.state = .queued ∨ l.state = .polishWait) :
    stopLot t cause reason s = enterHeld t reason (dropFromLists l.number s) := by
  rcases hstate with h | h | h
  all_goals simp only [stopLot, hl, h]

/-- The Sampler whose lot is held takes no other when none waits. -/
theorem stopLot_sampling (hstate : l.state = .sampling) (hnone : s.kept.sampleWait = []) :
    stopLot t cause reason s = enterHeld t reason (samplerEnd s) := by
  simp only [stopLot, hl, hstate]
  refine samplerTest_noneWaits ?_
  rw [enterHeld_kept]
  exact hnone

theorem stopLot_draining (hstate : l.state = .discharging ∨ l.state = .polishing) (hdraining : s.path.draining = true) :
    stopLot t cause reason s = stopDrain cause (handBackHeld reason) s := by
  have hstop : stopHeld cause reason s = stopDrain cause (handBackHeld reason) s := if_pos hdraining
  rcases hstate with h | h
  all_goals simp only [stopLot, hl, h, hstop]

theorem stopLot_held (hstate : l.state = .held) : stopLot t cause reason s = enterHeld t reason s := by
  simp only [stopLot, hl, hstate]

end

/-! ### HOLD LOT of a lot that is not on the path -/

theorem serveHoldLot_stops {n : Nat} {s : State} {t : Fin 3} {l : Lot} (hlow : 1 ≤ n) (hhigh : n ≤ 65535)
    (hlevels : s.sump.levelsTaken = true) (ht : s.tankOfLot n = some t) (hl : s.lotIn t = some l)
    (hstate : ¬(l.state = .filling ∨ l.state = .held)) :
    serveHoldLot n s = okWith (.lotHeld l.state) (stopLot t .byRequest .byRequest s) := by
  rw [serveHoldLot, onLot_of hlow hhigh hlevels ht hl, if_neg hstate]

theorem serveHoldLot_refused {n : Nat} {s : State} (hlow : 1 ≤ n) (hhigh : n ≤ 65535)
    (h : s.sump.levelsTaken = false ∨ s.tankOfLot n = none) : serveHoldLot n s = wrongState s := by
  have hwithin : within 1 65535 n = true := by simp [within, hlow, hhigh]
  rw [serveHoldLot, onLot, if_pos hwithin]
  split
  · next htaken =>
    rcases h with hnot | hnone
    · exact absurd (htaken.symm.trans hnot) nofun
    · rw [hnone]
  · rfl

/-- A request whose entry puts a lot into HELD, from a state that differs from `z` by its link. -/
theorem answers_held {i : Instr} {dt : Micros} {tag : Byte} {r : Request} {s z : State} {body : ReplyBody} {t : Fin 3}
    {reason : HoldReason} (hexec : exec i s = .next (hostRequest dt r.kind tag r s)) (ready : LinkReady 1 s)
    (hp : placesOf r.kind = 1) (hh : (s.supply.hold && refusedInHold r) = false) (hz : z.link = s.link)
    (hs : serveEntry r (serving dt r.kind s) =
      okWith body (enterHeld t reason { z with link := (serving dt r.kind s).link })) :
    Answers i r tag body (heldFor t reason z) s := by
  let w : State := { z with link := (serving dt r.kind s).link }
  have hlink : (enterHeld t reason w).link.rest = w.link.rest := rest_of_ledger (enterHeld_ledger w t reason)
  have hheld : (heldFor t reason z).link.rest = s.link.rest :=
    (rest_of_ledger (latch_ledger (z.modLot t (·.heldFor reason)) .lotHeld)).trans (congrArg Link.rest hz)
  obtain ⟨link, heq⟩ := enterHeld_heldFor t reason z (serving dt r.kind s).link
  refine answers_of_noticed hexec ready hp hh hs hlink (enterHeld_prefix t reason w) ?_ hheld
  rw [heq]

end Sys2Proof.Machine

namespace Sys2Proof.Settled

open Sys2Proof Sys2Proof.Machine

/-- Settles O45: the refusals, the lots that enter HELD at once, and the lot whose drain stops. -/
theorem lotHeld : Obligations.LotHeld := by
  intro dt tag s n ready hlow hhigh x held
  let r : Request := .holdLot n
  let y := serving dt r.kind s
  refine ⟨fun bad => ?_, fun t l hlevels ht hl => ⟨fun bad => ?_, fun hstate => ?_, fun hstate => ?_,
    fun hstate hnone => ?_, fun hstate hdraining hpath => ?_⟩⟩
  · exact congrArg _ (hostRequest_refused dt tag r s .wrongState ready rfl (passesHold s rfl)
      (serveHoldLot_refused (s := y) hlow hhigh bad))
  · exact congrArg _ (hostRequest_refused dt tag r s .wrongState ready rfl (passesHold s rfl)
      ((onLot_of (s := y) hlow hhigh hlevels ht hl _).trans (if_pos bad)))
  all_goals
    have hserve (hstops : ¬(l.state = .filling ∨ l.state = .held)) :
        serveEntry r y = okWith (.lotHeld l.state) (stopLot t .byRequest .byRequest y) :=
      serveHoldLot_stops (s := y) hlow hhigh hlevels ht hl hstops
  · have hs := hserve (by rw [hstate]; nofun)
    rw [stopLot_settling (s := y) hl _ _ hstate] at hs
    exact answers_held (z := x.modTimers t fun k => { k with settle := none }) rfl ready rfl (passesHold s rfl) rfl hs
  · have hs := hserve (by rcases hstate with h | h | h <;> rw [h] <;> nofun)
    rw [stopLot_listed (s := y) hl _ _ hstate, number_of_tankOfLot (s := y) ht hl] at hs
    exact answers_held (z := dropFromLists n x) rfl ready rfl (passesHold s rfl) rfl hs
  · have hs := hserve (by rw [hstate]; nofun)
    rw [stopLot_sampling (s := y) hl _ _ hstate hnone] at hs
    exact answers_held (z := samplerEnd x) rfl ready rfl (passesHold s rfl) rfl hs
  · have hs := hserve (by rcases hstate with h | h <;> rw [h] <;> nofun)
    rw [stopLot_draining (s := y) hl _ _ hstate hdraining] at hs
    have hcarries := stopDrain_held_carries .byRequest .byRequest y
    obtain ⟨halike, hreply⟩ := hostRequest_replied (r := r) (tag := tag) ready rfl (passesHold s rfl) hs hcarries.link
    have hlot := stopDrain_held_lotIn (s := y) hpath .byRequest .byRequest
    have hheld := stopDrain_held_path (s := y) hpath .byRequest .byRequest
    generalize stopDrain .byRequest (handBackHeld .byRequest) y = u at hs hcarries halike hlot hheld
    refine ⟨_, l.heldFor .byRequest, rfl, hreply, ?_⟩
    rw [halike.path, State.modLink_path, State.lotIn, halike.kept, State.modLink_kept, hheld]
    exact ⟨rfl, rfl, rfl, hlot.trans (congrArg _ hl), rfl, rfl, rfl, accounts_of_books hcarries.books,
      total_of_books hcarries.books⟩

end Sys2Proof.Settled
end

section
/-! SUPPORT. The stop of a lot that is not on the path, whatever it does, and a discharge that runs dry (R82, R83, R136). -/

namespace Sys2Proof.Machine

open Sys2Proof

/-! ### A stop that puts the lot into HELD -/

/-- What a stop into HELD leaves of tank `t` and its lot `l`, from the state `s`. -/
structure StopsHeld (t : Fin 3) (l : Lot) (reason : HoldReason) (s u : State) : Prop where
  tank : u.kept.tanks[t].state = s.kept.tanks[t].state
  path : u.path = s.path
  lot : ∃ l', u.lotIn t = some l' ∧ l'.state = .held ∧ l'.holdReason = some reason ∧ l'.number = l.number ∧
    l'.current = l.current
  flag : u.latched .lotHeld = true
  flags : ∀ f, s.latched f = true → u.latched f = true

/-- The states of a lot that stands in a list. -/
def LotState.listed (state : LotState) : Prop :=
  state = .sampleWait ∨ state = .queued ∨ state = .polishWait

/-- What a stop ends of what the lot was doing. -/
structure StopEnds (t : Fin 3) (l : Lot) (u : State) : Prop where
  sampling : l.state = .sampling → u.sampler.state = .idle
  settling : l.state = .settling → u.timers[t].settle = none
  filling : l.state = .filling → u.timers[t].maxFill = none
  listed : l.state.listed → l.number ∉ u.kept.dischargeQueue ++ u.kept.polishWait ++ u.kept.sampleWait

theorem not_mem_dropFromLists (n : Nat) (s : State) :
    n ∉ (dropFromLists n s).kept.dischargeQueue ++ (dropFromLists n s).kept.polishWait ++
      (dropFromLists n s).kept.sampleWait := by
  simp [dropFromLists, State.modKept]

section
variable {t : Fin 3} {l : Lot} {s z : State} {reason : HoldReason}

/-- The entry to HELD, after what keeps the tank, the path and the flags. -/
theorem stopsHeld_enterHeld (hl : s.lotIn t = some l) (htank : z.kept.tanks[t] = s.kept.tanks[t])
    (hpath : z.path = s.path) (hflags : z.flags = s.flags) : StopsHeld t l reason s (enterHeld t reason z) where
  tank := (enterHeld_tankState t reason z).trans (congrArg Tank.state htank)
  path := (enterHeld_path t reason z).trans hpath
  lot := by
    have hlot : z.lotIn t = some l := (congrArg Tank.lot htank).trans hl
    exact ⟨l.heldFor reason, (enterHeld_lotIn t reason z).trans (congrArg _ hlot), rfl, rfl, rfl, rfl⟩
  flag := enterHeld_latched t reason z
  flags f hf := enterHeld_keeps_latched t reason z (by rw [State.latched, hflags]; exact hf)

/-- The FILLING lot that does not wait for its sample is held, whatever the fill selection opens next. -/
theorem stopFilling_stopsHeld (hl : s.lotIn t = some l) (hopen : s.kept.tanks[t].state ≠ .empty)
    (hunlisted : l.number ∉ s.kept.sampleWait) :
    StopsHeld t l reason s (stopFilling t reason s) ∧ (stopFilling t reason s).timers[t].maxFill = none := by
  let held := enterHeld t reason (closeFill t s)
  let ended : Lot := { l with closed := some s.stamp }
  have hfill : (closeFill t s).kept.tanks[t].state = s.kept.tanks[t].state := by
    rw [closeFill, State.modLot, modTank_same]
    rfl
  have hclosed : (closeFill t s).lotIn t = some ended :=
    (modLot_lotIn (s.modTimers t fun k => { k with maxFill := none }) t _).trans (congrArg _ hl)
  have htank : held.kept.tanks[t].state = s.kept.tanks[t].state := (enterHeld_tankState t reason _).trans hfill
  have hlot : held.lotIn t = some (ended.heldFor reason) :=
    (enterHeld_lotIn t reason _).trans (congrArg _ hclosed)
  have hunawaited : Unawaited t (ended.heldFor reason) held := by
    refine ⟨by rw [htank]; exact hopen, hlot, ?_⟩
    rw [enterHeld_kept]
    exact hunlisted
  have hjudged : TankSteps (· ≠ t) held (pumpJudge held) := TankSteps.refl.step (.pump _)
  have hsteps : TankSteps (· ≠ t) held (stopFilling t reason s) :=
    hjudged.trans (fillSelection_steps ((unopened_other (by rw [htank]; exact hopen)).after hjudged))
  have hspares := hsteps.spares fun h : t ≠ t => h rfl
  refine ⟨⟨hspares.state.trans htank, hspares.path.trans (enterHeld_path t reason _), ?_, ?_, fun f hf => ?_⟩, ?_⟩
  · exact ⟨ended.heldFor reason, hunawaited.pumpJudge.fillSelection.lot, rfl, rfl, rfl, rfl⟩
  · exact hspares.flags _ (enterHeld_latched t reason _)
  · exact hspares.flags f (enterHeld_keeps_latched t reason (closeFill t s) hf)
  · rw [hspares.maxFill, enterHeld_timers]
    exact congrArg TankTimers.maxFill (modAt_same s.timers t _)

/-- A lot off the path is stopped in whatever it is doing: it leaves that, and it is HELD. -/
theorem stopLot_stopsHeld (hl : s.lotIn t = some l) (hopen : s.kept.tanks[t].state ≠ .empty) (cause : StopCause)
    (reason : HoldReason)
    (h : l.state.listed ∨ (l.state = .filling ∧ l.number ∉ s.kept.sampleWait) ∨ l.state = .settling ∨
      l.state = .held ∨ (l.state = .sampling ∧ s.kept.sampleWait = [])) :
    StopsHeld t l reason s (stopLot t cause reason s) ∧ StopEnds t l (stopLot t cause reason s) := by
  rcases h with hlisted | ⟨hstate, hunlisted⟩ | hstate | hstate | ⟨hstate, hnone⟩
  · rw [stopLot_listed hl cause reason hlisted]
    refine ⟨stopsHeld_enterHeld hl rfl rfl rfl, ?_, ?_, ?_, fun _ => ?_⟩
    iterate 3
      · intro hstate
        exact absurd (hstate ▸ hlisted) (by simp [LotState.listed])
    · rw [enterHeld_kept]
      exact not_mem_dropFromLists l.number s
  · have hstop : stopLot t cause reason s = stopFilling t reason s := by simp only [stopLot, hl, hstate]
    obtain ⟨hheld, htimer⟩ := stopFilling_stopsHeld (reason := reason) hl hopen hunlisted
    rw [hstop]
    refine ⟨hheld, ?_, ?_, fun _ => htimer, ?_⟩ <;> rw [hstate] <;> simp [LotState.listed]
  · rw [stopLot_settling hl cause reason hstate]
    refine ⟨stopsHeld_enterHeld hl rfl rfl rfl, ?_, fun _ => ?_, ?_, ?_⟩
    · rw [hstate]; nofun
    · rw [enterHeld_timers]
      exact congrArg TankTimers.settle (modAt_same s.timers t _)
    · rw [hstate]; nofun
    · rw [hstate]; simp [LotState.listed]
  · rw [stopLot_held hl cause reason hstate]
    refine ⟨stopsHeld_enterHeld hl rfl rfl rfl, ?_, ?_, ?_, ?_⟩ <;> rw [hstate] <;> simp [LotState.listed]
  · rw [stopLot_sampling hl cause reason hstate hnone]
    refine ⟨stopsHeld_enterHeld hl rfl rfl rfl, fun _ => ?_, ?_, ?_, ?_⟩
    · rw [enterHeld_sampler]; rfl
    all_goals rw [hstate]; simp [LotState.listed]

end

/-! ### A discharge that has run dry (R136) -/

/-- A stop of a discharge orders a checkpoint. -/
theorem stopDrain_orders {s : State} (h : s.path.state = .discharge) (cause : StopCause) (how : Fin 3 → State → State) :
    (stopDrain cause how s).store.inFlight.isSome = true := by
  unfold stopDrain
  dsimp only
  rw [if_pos h]
  exact orderWrite_inFlight .checkpoint _

/-- The state in which lot `l` of tank `t` has left the table as DISCHARGED, its tank EMPTY. -/
def withDischarged (t : Fin 3) (l : Lot) (s : State) : State :=
  { s with
    kept := { s.kept with
      history := appendBounded 16 s.kept.history (l.record t .discharged s.stamp 0 false)
      day := { s.kept.day with lots := addTo 65535 s.kept.day.lots 1 }
      tanks := modAt s.kept.tanks t fun _ => { state := .empty, lot := none } }
    path := s.path.keep (s.kept.history.take (s.kept.history.length + 1 - 16)) }

/-- A lot handed back as drained is in Lot History, and the fill selection has run. -/
theorem handBackDrained_eq {s : State} {t : Fin 3} {l : Lot} (hl : s.lotIn t = some l) :
    ∃ link : Link, handBackDrained t s = fillSelection { withDischarged t l s with link := link } := by
  let content : NoticeContent := .lot .left l.number l.state l.current l.concentration none (some .discharged)
  let removed : State := { withDischarged t l s with
    kept := { (withDischarged t l s).kept with tanks := modAt s.kept.tanks t fun k => { k with lot := none } } }
  have hleft : leaveTable t .discharged 0 false s = handNotice (tankKey t) content removed := by
    simp only [leaveTable, hl, handLotEvent]
    rfl
  have hemptied (link : Link) : State.modTank { removed with link := link } t (fun k => { k with state := .empty }) =
      { withDischarged t l s with link := link } := by
    simp [State.modTank, State.modKept, removed, withDischarged, modAt]
  refine ⟨(handNotice (tankKey t) content removed).link, ?_⟩
  rw [handBackDrained, hleft, handNotice_eq, hemptied]

theorem fillSelection_path (s : State) : (fillSelection s).path = s.path :=
  (fillSelection_steps (unopened_any s)).path

/-- The lot of a discharge that has run dry: what was left is its shortfall. -/
def Lot.ranDry (l : Lot) : Lot :=
  { l with shortfall := l.shortfall + l.current, current := 0 }

theorem runDry_stops {s : State} {t : Fin 3} (hpath : s.path.tank = some t) :
    runDry s = stopDrain .drained handBackDrained (s.modLot t Lot.ranDry) := by
  simp only [runDry, hpath]
  rfl

/-- A discharge that has run dry orders a checkpoint. -/
theorem runDry_orders {s : State} {t : Fin 3} (hpath : s.path.tank = some t) (h : s.path.state = .discharge) :
    (runDry s).store.inFlight.isSome = true := by
  rw [runDry_stops hpath]
  exact stopDrain_orders (s := s.modLot t Lot.ranDry) h _ _

section
variable {s : State} {t : Fin 3} {l : Lot} (hpath : s.path.tank = some t) (hl : s.lotIn t = some l)
include hpath hl

theorem runDry_eq : ∃ store link,
    let left : State := { withDischarged t l.ranDry ((s.modLot t Lot.ranDry).modPath (·.stopped .drained)) with
      link := link }
    runDry s = { fillSelection left with
      store := store
      path := { left.path with closing := some (s.timer (s.kept.plant.closing * sec)) } } := by
  let dry := s.modLot t Lot.ranDry
  have htank : (dry.modPath (·.stopped .drained)).path.tank = some t := hpath
  have hlot : (dry.modPath (·.stopped .drained)).lotIn t = some l.ranDry :=
    (modLot_lotIn s t _).trans (congrArg _ hl)
  obtain ⟨store, hstop⟩ := stopDrain_eq .drained handBackDrained dry
  obtain ⟨link, hback⟩ := handBackDrained_eq hlot
  rw [handBack_of htank, hback, fillSelection_path] at hstop
  exact ⟨store, link, (runDry_stops hpath).trans hstop⟩

theorem runDry_path :
    (runDry s).path.state = .stopping ∧ (runDry s).path.stopCause = some .drained ∧ (runDry s).path.drain = none ∧
      (runDry s).path.closing = some (s.timer (s.kept.plant.closing * sec)) := by
  obtain ⟨_, _, heq⟩ := runDry_eq hpath hl
  rw [heq]
  exact ⟨rfl, rfl, rfl, rfl⟩

theorem runDry_history :
    (runDry s).kept.history = appendBounded 16 s.kept.history (l.ranDry.record t .discharged s.stamp 0 false) ∧
      (runDry s).kept.day.lots = addTo 65535 s.kept.day.lots 1 := by
  obtain ⟨_, link, heq⟩ := runDry_eq hpath hl
  let left : State := { withDischarged t l.ranDry ((s.modLot t Lot.ranDry).modPath (·.stopped .drained)) with
    link := link }
  have hkept : (runDry s).kept = (fillSelection left).kept := by rw [heq]
  have hchronicle : (fillSelection left).chronicle = left.chronicle := fillSelection_chronicle left
  rw [hkept]
  exact ⟨congrArg Prod.fst hchronicle, congrArg (·.2.lots) hchronicle⟩

/-- With another tank FILLING, the tank that has run dry stays EMPTY. -/
theorem runDry_tank {v : Fin 3} (hv : v ≠ t) (hfilling : s.kept.tanks[v].state = .filling) :
    (runDry s).kept.tanks[t] = { state := .empty, lot := none } := by
  obtain ⟨_, link, heq⟩ := runDry_eq hpath hl
  let left : State := { withDischarged t l.ranDry ((s.modLot t Lot.ranDry).modPath (·.stopped .drained)) with
    link := link }
  let dry : State := (s.modLot t Lot.ranDry).modPath (·.stopped .drained)
  have hother : left.kept.tanks[v] = s.kept.tanks[v] :=
    (modAt_other dry.kept.tanks t v _ hv.symm).trans (modAt_other s.kept.tanks t v _ hv.symm)
  have hfills : fillSelection left = left :=
    fillSelection_filling (fillingTank_isSome (t := v) (by rw [hother]; exact hfilling))
  have hkept : (runDry s).kept = (fillSelection left).kept := by rw [heq]
  rw [hkept, hfills]
  exact modAt_same _ t _

end

end Sys2Proof.Machine
end

section
/-! PROOF of O43. HIGH covered over an uncovered LOW, and LOW uncovered (R82, R83, R92, R136, R138, R146). -/

namespace Sys2Proof.Machine

open Sys2Proof

/-! ### A switch fault that is found (R82) -/

/-- The state in which the fault of tank `t` is found, before its lot is stopped. -/
def faultFound (t : Fin 3) (s : State) : State :=
  latch (.tankSwitchFault t) (s.modTank t fun k => { k with state := .outOfService })

section
variable (t : Fin 3) (s : State)

theorem faultFound_kept :
    (faultFound t s).kept = (s.modTank t fun k => { k with state := .outOfService }).kept :=
  latch_kept _ _

theorem faultFound_tank : (faultFound t s).kept.tanks[t] = { s.kept.tanks[t] with state := .outOfService } := by
  rw [faultFound_kept]
  exact modTank_same s t fun k => { k with state := .outOfService }

theorem faultFound_lotIn : (faultFound t s).lotIn t = s.lotIn t := by
  rw [State.lotIn, faultFound_tank]
  rfl

theorem faultFound_path : (faultFound t s).path = s.path :=
  latch_path _ _

theorem faultFound_timer (len : Micros) : (faultFound t s).timer len = { start := s.now, len := len } := by
  rw [State.timer, faultFound, latch_now]
  rfl

end

section
variable {t : Fin 3} {s : State}

/-- Whichever switch shows the fault, its change stops the lot, and nothing follows in a tank that is out of service. -/
theorem switchChange_found (hd : s.switchesDisagree t = true) (hin : s.kept.tanks[t].state ≠ .outOfService)
    (hout : (stopLot t .switchFault .switchFault (faultFound t s)).kept.tanks[t].state = .outOfService) :
    tankHighChange t true s = stopLot t .switchFault .switchFault (faultFound t s) ∧
      tankLowChange t false s = stopLot t .switchFault .switchFault (faultFound t s) := by
  have htest : switchFaultTest t s = stopLot t .switchFault .switchFault (faultFound t s) := by
    rw [switchFaultTest, if_pos hd, if_neg hin]
    rfl
  generalize stopLot t .switchFault .switchFault (faultFound t s) = u at hout htest
  constructor
  · have hopen : ¬(true && Decidable.decide (u.kept.tanks[t].state = .filling)) = true := by rw [hout]; nofun
    unfold tankHighChange
    dsimp only
    rw [htest]
    exact if_neg hopen
  · have hlost : lowLost t u = u := by simp only [lowLost, hout]
    unfold tankLowChange
    dsimp only
    rw [htest]
    exact hlost

end

/-- The path of a drain that a switch fault has stopped. -/
theorem stopDrain_found_path {s : State} {t : Fin 3} (hat : s.path.tank = some t) :
    (stopDrain .switchFault (handBackHeld .switchFault) (faultFound t s)).path =
      { s.path.stopped .switchFault with
        closing := some { start := s.now, len := s.kept.plant.closing * sec } } := by
  have hplant : (faultFound t s).kept.plant = s.kept.plant := (congrArg Kept.plant (faultFound_kept t s) :)
  rw [stopDrain_held_path ((congrArg Path.tank (faultFound_path t s)).trans hat), faultFound_timer, hplant,
    faultFound_path]

theorem tankHigh_ne_tankLow (t : Fin 3) : switchIndex (.tankHigh t) ≠ switchIndex (.tankLow t) := by
  fin_cases t <;> decide

/-- The change that shows the fault stops the lot, once the stop is known to leave the tank out of service. -/
theorem exec_found {dt : Micros} {s : State} {t : Fin 3} {i : Instr} (awake : s.awake = true)
    (hin : s.kept.tanks[t].state ≠ .outOfService)
    (h : (i = .debounceExpired dt (.tankHigh t) ∧
        timerDue s.switches[switchIndex (.tankHigh t)].debounce (s.now + dt) = true ∧
        s.switches[switchIndex (.tankHigh t)].pin = true ∧ s.covered (.tankLow t) = false) ∨
      (i = .debounceExpired dt (.tankLow t) ∧
        timerDue s.switches[switchIndex (.tankLow t)].debounce (s.now + dt) = true ∧
        s.switches[switchIndex (.tankLow t)].pin = false ∧ s.covered (.tankHigh t) = true)) :
    ∃ switches, let y : State := { s.after dt with switches := switches }
      let u := stopLot t .switchFault .switchFault (faultFound t y)
      u.kept.tanks[t].state = .outOfService → exec i s = .next u := by
  let x := s.after dt
  rcases h with ⟨rfl, due, hpin, hlow⟩ | ⟨rfl, due, hpin, hhigh⟩
  · let y := accept (.tankHigh t) x
    have hlow' : y.covered (.tankLow t) = false := (accept_covered_other x (tankHigh_ne_tankLow t)).trans hlow
    have hhigh' : y.covered (.tankHigh t) = true := (accept_covered_same (.tankHigh t) x).trans hpin
    have hd : y.switchesDisagree t = true := by rw [State.switchesDisagree, hlow', hhigh']; rfl
    refine ⟨y.switches, fun hout => ?_⟩
    have hlevel : x.switches[switchIndex (.tankHigh t)].pin = true := hpin
    have hdebounced : debounced (.tankHigh t) x = tankHighChange t true y := by rw [debounced_eq, hlevel]; rfl
    have hfound := (switchChange_found (s := y) hd hin hout).1
    exact (congrArg Host.Outcome.next (whenDue_of (s := x) awake due (debounced (.tankHigh t))) :).trans
      (congrArg Host.Outcome.next (hdebounced.trans hfound))
  · let y := accept (.tankLow t) x
    have hlow' : y.covered (.tankLow t) = false := (accept_covered_same (.tankLow t) x).trans hpin
    have hhigh' : y.covered (.tankHigh t) = true :=
      (accept_covered_other x (tankHigh_ne_tankLow t).symm).trans hhigh
    have hd : y.switchesDisagree t = true := by rw [State.switchesDisagree, hlow', hhigh']; rfl
    refine ⟨y.switches, fun hout => ?_⟩
    have hlevel : x.switches[switchIndex (.tankLow t)].pin = false := hpin
    have hdebounced : debounced (.tankLow t) x = tankLowChange t false y := by rw [debounced_eq, hlevel]; rfl
    have hfound := (switchChange_found (s := y) hd hin hout).2
    exact (congrArg Host.Outcome.next (whenDue_of (s := x) awake due (debounced (.tankLow t))) :).trans
      (congrArg Host.Outcome.next (hdebounced.trans hfound))

/-! ### LOW uncovered under an uncovered HIGH (R83) -/

theorem exec_lowLost {dt : Micros} {s : State} {t : Fin 3} (awake : s.awake = true)
    (due : timerDue s.switches[switchIndex (.tankLow t)].debounce (s.now + dt) = true)
    (hpin : s.switches[switchIndex (.tankLow t)].pin = false) (hhigh : s.covered (.tankHigh t) = false) :
    exec (.debounceExpired dt (.tankLow t)) s = .next (lowLost t (accept (.tankLow t) (s.after dt))) := by
  let x := s.after dt
  let y := accept (.tankLow t) x
  have hhigh' : y.covered (.tankHigh t) = false := (accept_covered_other x (tankHigh_ne_tankLow t).symm).trans hhigh
  have htest : switchFaultTest t y = y := by
    refine if_neg ?_
    rw [State.switchesDisagree, hhigh']
    nofun
  have hlevel : x.switches[switchIndex (.tankLow t)].pin = false := hpin
  have hdebounced : debounced (.tankLow t) x = lowLost t y := by
    rw [debounced_eq, hlevel]
    exact congrArg (lowLost t) htest
  exact (congrArg Host.Outcome.next (whenDue_of (s := x) awake due (debounced (.tankLow t))) :).trans
    (congrArg Host.Outcome.next hdebounced)

section
variable {t : Fin 3} {l : Lot} {s : State}

theorem lowLost_stays (hl : s.lotIn t = some l)
    (h : s.kept.tanks[t].state = .empty ∨ s.kept.tanks[t].state = .filling ∨ s.kept.tanks[t].state = .outOfService ∨
      (s.kept.tanks[t].state = .closed ∧ l.state = .held)) : lowLost t s = s := by
  rcases h with h | h | h | ⟨h, hheld⟩
  · simp only [lowLost, h]
  · simp only [lowLost, h]
  · simp only [lowLost, h]
  · simp only [lowLost, h, hl, if_pos hheld]

theorem lowLost_closed (hl : s.lotIn t = some l) (hclosed : s.kept.tanks[t].state = .closed) (hheld : l.state ≠ .held) :
    lowLost t s = stopLot t .levelLost .levelLost s := by
  simp only [lowLost, hclosed, hl, if_neg hheld]

theorem lowLost_discharge (hdraining : s.kept.tanks[t].state = .draining) (hpath : s.path.state = .discharge) :
    lowLost t s = runDry s := by
  simp only [lowLost, hdraining, drainLowLost, hpath]

theorem lowLost_polish (hdraining : s.kept.tanks[t].state = .draining) (hpath : s.path.state = .polish) :
    lowLost t s = stopDrain .levelLost (handBackHeld .levelLost) s := by
  simp only [lowLost, hdraining, drainLowLost, hpath]

end

end Sys2Proof.Machine

namespace Sys2Proof.Settled

open Sys2Proof Sys2Proof.Machine

/-- Settles O43: a switch fault, by what the lot is doing, and LOW uncovered, by the tank's state. -/
theorem switchFault : Obligations.SwitchFault := by
  constructor
  · intro dt s t l i due hcase awake hin hl faulted waits
    obtain ⟨switches, hexec⟩ := exec_found awake hin hcase
    let y : State := { s.after dt with switches := switches }
    let f := faultFound t y
    have htank : f.kept.tanks[t].state = .outOfService := congrArg Tank.state (faultFound_tank t y)
    have hlot : f.lotIn t = some l := (faultFound_lotIn t y).trans hl
    have hpath : f.path = s.path := faultFound_path t y
    have hflag : f.latched (.tankSwitchFault t) = true := latch_latched _ _
    have hwaits : f.kept.sampleWait = s.kept.sampleWait := (congrArg Kept.sampleWait (faultFound_kept t y) :)
    have hbooks : f.kept.books = s.kept.books := (congrArg Kept.books (faultFound_kept t y) :)
    have hcarries := stopLot_carries f t .switchFault .switchFault
    have haccounts := accounts_of_books (hcarries.books.trans hbooks)
    refine ⟨fun hstate => ?_, fun hstate hdraining hat => ?_⟩
    · rw [← hwaits] at hstate
      obtain ⟨hheld, hends⟩ :=
        stopLot_stopsHeld hlot (by rw [htank]; nofun) .switchFault .switchFault hstate
      have hout := hheld.tank.trans htank
      exact ⟨_, hexec hout, ⟨hout, hheld.flags _ hflag, hheld.flag, haccounts, hheld.lot⟩, hheld.path.trans hpath,
        hends.sampling, hends.settling, hends.filling, hends.listed⟩
    · rw [← hpath] at hdraining hat
      have hstop := stopLot_draining hlot .switchFault .switchFault hstate hdraining
      have hout : (stopLot t .switchFault .switchFault f).kept.tanks[t].state = .outOfService := by
        rw [hstop, stopDrain_held_tank hat, if_pos htank]
      refine ⟨_, hexec hout, ⟨hout, ?_, ?_, haccounts, ?_⟩, ?_, total_of_books (hcarries.books.trans hbooks),
        fun hdischarge => ?_⟩
      · exact hstop ▸ stopDrain_held_latched hat .switchFault .switchFault (.inr hflag)
      · exact hstop ▸ stopDrain_held_latched hat .switchFault .switchFault (.inl rfl)
      · have hheld := (stopDrain_held_lotIn hat .switchFault .switchFault).trans (congrArg _ hlot)
        exact ⟨l.heldFor .switchFault, hstop ▸ hheld, rfl, rfl, rfl, rfl⟩
      · exact (congrArg State.path hstop).trans (stopDrain_found_path (s := y) (hpath ▸ hat))
      · rw [← hpath] at hdischarge
        exact hstop ▸ stopDrain_orders hdischarge _ _
  · intro dt s t l low awake due hpin hhigh hl i tank accepted held stopped
    have hexec : exec i s = .next (lowLost t accepted) := exec_lowLost awake due hpin hhigh
    have haccounts : (lowLost t accepted).kept.accounts = s.kept.accounts :=
      accounts_of_books (lowLost_carries accepted t).books
    have hlot : accepted.lotIn t = some l := hl
    refine ⟨fun hstays => ?_, fun hclosed hstate => ?_, fun hdraining hat => ⟨fun hpath => ?_, fun hpath => ?_⟩⟩
    · rw [hexec, lowLost_stays hlot hstays]
    · have hheld : l.state ≠ .held := by
        intro h
        rw [h] at hstate
        simp at hstate
      have hopen : accepted.kept.tanks[t].state ≠ .empty := fun h => nomatch h.symm.trans hclosed
      have hstop := lowLost_closed hlot hclosed hheld
      rw [hstop] at hexec haccounts
      obtain ⟨hholds, hends⟩ := stopLot_stopsHeld hlot hopen .levelLost .levelLost (by
        rcases hstate with h | h | h | h | h
        · exact .inr (.inr (.inl h))
        · exact .inl (.inl h)
        · exact .inl (.inr (.inl h))
        · exact .inl (.inr (.inr h))
        · exact .inr (.inr (.inr (.inr h))))
      exact ⟨_, hexec, ⟨hholds.tank.trans hclosed, haccounts, hholds.flag, hholds.lot⟩, hholds.path, hends.settling,
        hends.sampling, hends.listed⟩
    · have hdry := lowLost_discharge (s := accepted) hdraining hpath
      rw [hdry] at hexec haccounts
      obtain ⟨hhistory, hlots⟩ := runDry_history (s := accepted) hat hlot
      obtain ⟨hstopping, hcause, hdrain, hclosing⟩ := runDry_path (s := accepted) hat hlot
      refine ⟨_, hexec, ⟨hstopping, hcause, hdrain, hclosing⟩, ?_, haccounts, hlots, hhistory,
        fun ⟨v, hv, hfilling⟩ => runDry_tank (s := accepted) hat hlot hv hfilling⟩
      exact runDry_orders (s := accepted) hat hpath
    · have hstop := lowLost_polish (s := accepted) hdraining hpath
      rw [hstop] at hexec haccounts
      have hheld := stopDrain_held_path (s := accepted) hat .levelLost .levelLost
      have hnotOut : accepted.kept.tanks[t].state ≠ .outOfService := fun h => nomatch h.symm.trans hdraining
      refine ⟨_, hexec, ?_, ?_, haccounts, stopDrain_held_latched (s := accepted) hat _ _ (.inl rfl),
        l.heldFor .levelLost, ?_, rfl, rfl, rfl, rfl⟩
      · exact ⟨congrArg Path.state hheld, congrArg Path.stopCause hheld, congrArg Path.drain hheld,
          congrArg Path.closing hheld⟩
      · rw [stopDrain_held_tank (s := accepted) hat, if_neg hnotOut]
      · rw [stopDrain_held_lotIn (s := accepted) hat, hlot]; rfl

end Sys2Proof.Settled
end

section
/-! SUPPORT. What lies beyond the lots: the permit, the clock, the day, the settings and the results of the start-up, which
the actions on tanks, lots and drains leave as they are. One lemma for each action, in the order of the model's files. -/

namespace Sys2Proof.Machine

open Sys2Proof

/-- The state without its tanks, lots and their lists, the Sampler, the sump, the loops, the store, the Plant Link, the
count of lots and the cap's flag of the day, and every flag but PERMIT_CORRUPT; of the path its state stands. -/
def State.beyondLots (s : State) : State :=
  { s with
    kept := { s.kept with
      tanks := Kept.fresh.tanks, nextLot := 0, dischargeQueue := [], polishWait := [], sampleWait := [], history := []
      day := { s.kept.day with lots := 0, flags := { s.kept.day.flags with capReached := false } } }
    store := State.reset.store, loops := State.reset.loops, sump := State.reset.sump, timers := State.reset.timers
    sampler := State.reset.sampler, path := { Path.atStart with state := s.path.state }
    flags := Vector.replicate 28 s.flags[Flag.permitCorrupt.index], alertActive := false
    link := State.reset.link }

section
variable (s : State)

/-! ### Flags, notices and writes -/

@[simp] theorem handNotice_beyondLots (key : Fin 33) (content : NoticeContent) :
    (handNotice key content s).beyondLots = s.beyondLots := by
  rw [handNotice_eq]; rfl

/-- A latching of any other flag leaves that of PERMIT_CORRUPT. -/
theorem latch_beyondLots {f : Flag} (hf : f.index ≠ Flag.permitCorrupt.index) :
    (latch f s).beyondLots = s.beyondLots := by
  have hflag : (latch f s).flags[Flag.permitCorrupt.index] = s.flags[Flag.permitCorrupt.index] := by
    rw [latch_flags]
    split
    · rfl
    · exact modAt_other _ _ _ _ hf
  unfold State.beyondLots
  rw [hflag, latch_eq]

@[simp] theorem orderWrite_beyondLots (kind : WriteKind) : (orderWrite kind s).beyondLots = s.beyondLots := by
  rw [orderWrite_eq_store]; rfl

/-! ### Lots, the Sampler and the pump -/

@[simp] theorem modTank_beyondLots (t : Fin 3) (f : Tank → Tank) : (s.modTank t f).beyondLots = s.beyondLots := rfl
@[simp] theorem modLot_beyondLots (t : Fin 3) (f : Lot → Lot) : (s.modLot t f).beyondLots = s.beyondLots := rfl
@[simp] theorem modTimers_beyondLots (t : Fin 3) (f : TankTimers → TankTimers) :
    (s.modTimers t f).beyondLots = s.beyondLots := rfl
@[simp] theorem dropFromLists_beyondLots (n : Nat) : (dropFromLists n s).beyondLots = s.beyondLots := rfl
@[simp] theorem samplerEnd_beyondLots : (samplerEnd s).beyondLots = s.beyondLots := rfl
@[simp] theorem closeFill_beyondLots (t : Fin 3) : (closeFill t s).beyondLots = s.beyondLots := rfl

@[simp] theorem lotEvent_beyondLots (kind : LotEventKind) (t : Fin 3) :
    (lotEvent kind t s).beyondLots = s.beyondLots := by
  rw [lotEvent_link]; rfl

@[simp] theorem enterHeld_beyondLots (t : Fin 3) (reason : HoldReason) :
    (enterHeld t reason s).beyondLots = s.beyondLots := by
  rw [enterHeld, latch_beyondLots _ (by decide), lotEvent_beyondLots, modLot_beyondLots]

@[simp] theorem enterSampleWait_beyondLots (t : Fin 3) : (enterSampleWait t s).beyondLots = s.beyondLots := by
  unfold enterSampleWait; split <;> rfl

@[simp] theorem enterQueued_beyondLots (t : Fin 3) : (enterQueued t s).beyondLots = s.beyondLots := by
  unfold enterQueued; split <;> rfl

@[simp] theorem enterQueueHead_beyondLots (t : Fin 3) : (enterQueueHead t s).beyondLots = s.beyondLots := by
  unfold enterQueueHead; split <;> rfl

@[simp] theorem enterPolishWait_beyondLots (t : Fin 3) : (enterPolishWait t s).beyondLots = s.beyondLots := by
  unfold enterPolishWait; split <;> rfl

@[simp] theorem samplerTest_beyondLots : (samplerTest s).beyondLots = s.beyondLots := by
  rcases samplerTest_cases s with h | ⟨_, _, _, _, _, h⟩ <;> rw [h]
  rfl

@[simp] theorem attemptFails_beyondLots : (attemptFails s).beyondLots = s.beyondLots := by
  unfold attemptFails
  split
  · simp
  · dsimp only; split <;> simp

@[simp] theorem pumpJudge_beyondLots : (pumpJudge s).beyondLots = s.beyondLots :=
  pumpJudge_keeps State.beyondLots (startPump_keeps _ (fun _ _ _ => rfl) fun _ _ => rfl) (fun _ => rfl) s

@[simp] theorem openLot_beyondLots (t : Fin 3) : (openLot t s).beyondLots = s.beyondLots :=
  pumpJudge_beyondLots _

@[simp] theorem enterSettling_beyondLots (t : Fin 3) : (enterSettling t s).beyondLots = s.beyondLots := by
  unfold enterSettling
  split
  · rfl
  · dsimp only; split <;> simp

@[simp] theorem closeSteps_beyondLots (t : Fin 3) (byHigh : Bool) :
    (closeSteps t byHigh s).beyondLots = s.beyondLots := by
  simp [closeSteps]

@[simp] theorem fillTurns_beyondLots (k : Nat) : (fillTurns k s).beyondLots = s.beyondLots := by
  induction k generalizing s with
  | zero => rfl
  | succ k ih =>
    unfold fillTurns
    split
    · rfl
    · split
      · rfl
      · dsimp only; split <;> simp [ih]

@[simp] theorem fillSelection_beyondLots : (fillSelection s).beyondLots = s.beyondLots := fillTurns_beyondLots _ _

@[simp] theorem closeLot_beyondLots (t : Fin 3) (byHigh : Bool) : (closeLot t byHigh s).beyondLots = s.beyondLots := by
  simp [closeLot]

@[simp] theorem leaveTable_beyondLots (t : Fin 3) (d : Disposition) (hauled : Nat) (unknown : Bool) :
    (leaveTable t d hauled unknown s).beyondLots = s.beyondLots := by
  unfold leaveTable
  split
  · rfl
  · exact (handNotice_beyondLots _ _ _).trans rfl

/-! ### Handing a lot back (R93) -/

@[simp] theorem handBackReturned_beyondLots (t : Fin 3) : (handBackReturned t s).beyondLots = s.beyondLots := by
  simp [handBackReturned]

@[simp] theorem handBackDrained_beyondLots (t : Fin 3) : (handBackDrained t s).beyondLots = s.beyondLots := by
  simp [handBackDrained]

@[simp] theorem handBackHeld_beyondLots (reason : HoldReason) (t : Fin 3) :
    (handBackHeld reason t s).beyondLots = s.beyondLots := by
  simp [handBackHeld]

@[simp] theorem handBackPassed_beyondLots (t : Fin 3) : (handBackPassed t s).beyondLots = s.beyondLots := by
  simp [handBackPassed]

theorem handBack_beyondLots (how : Fin 3 → State → State) (h : ∀ t s, (how t s).beyondLots = s.beyondLots) :
    (handBack how s).beyondLots = s.beyondLots := by
  unfold handBack
  split
  · rfl
  · exact h _ _

/-! ### Stops and takes -/

/-- The path of `beyondLots` in a state of the path. -/
def State.atPath (s : State) (p : PathState) : State :=
  { s with path := { s.path with state := p } }

/-- A stop leaves the path STOPPING, and nothing else beyond the lots when its handing back does. -/
theorem stopDrain_beyondLots (cause : StopCause) (how : Fin 3 → State → State)
    (h : ∀ t s, (how t s).beyondLots = s.beyondLots) :
    (stopDrain cause how s).beyondLots = s.beyondLots.atPath .stopping := by
  obtain ⟨_, heq⟩ := stopDrain_eq cause how s
  rw [heq]
  exact (handBack_beyondLots (s.modPath (·.stopped cause)) how h).trans rfl

theorem interruptDischarge_beyondLots (cause : StopCause) : (interruptDischarge cause s).beyondLots =
    s.beyondLots.atPath (if s.path.state = .discharge then .stopping else s.path.state) := by
  unfold interruptDischarge
  split
  · exact stopDrain_beyondLots s _ _ fun t s => handBackReturned_beyondLots s t
  · rfl

theorem runDry_beyondLots {t : Fin 3} (ht : s.path.tank = some t) :
    (runDry s).beyondLots = s.beyondLots.atPath .stopping := by
  rw [runDry_stops ht, stopDrain_beyondLots _ _ _ fun t s => handBackDrained_beyondLots s t]
  rfl

@[simp] theorem routeAbove_beyondLots (t : Fin 3) : (routeAbove t s).beyondLots = s.beyondLots := by
  unfold routeAbove
  split
  · rfl
  · dsimp only; split <;> simp

@[simp] theorem judgeHeads_beyondLots (k : Nat) : (judgeHeads k s).beyondLots = s.beyondLots := by
  induction k generalizing s with
  | zero => rfl
  | succ k ih =>
    unfold judgeHeads
    split
    · split
      · rfl
      · split <;> simp [ih]
    · rfl

@[simp] theorem refuseRelease_beyondLots (p : Permit) : (refuseRelease s p).beyondLots = s.beyondLots := by
  have hday (x : State) : (setDayFlags (fun f => { f with capReached := true }) x).beyondLots = x.beyondLots := rfl
  unfold refuseRelease
  split
  · rw [hday, latch_beyondLots _ (by decide)]
  · rfl

end

end Sys2Proof.Machine
end

section
/-! SUPPORT. What the guard of a discharge reads, the path's state and release conditions 1 to 6: the actions that leave
it, and what the actions of the drains, the permit, the arbiter and the day make of it (R130, R137). -/

namespace Sys2Proof.Machine

open Sys2Proof

/-- The path's state, and whether release conditions 1 to 6 hold. -/
def State.watch (s : State) : PathState × Bool :=
  (s.path.state, s.releaseOpen)

theorem dischargeGuarded_iff {s : State} :
    DischargeGuarded s ↔ (s.path.state = .discharge → s.releaseOpen = true) := by
  simp [DischargeGuarded, State.releaseOpen, and_assoc]

theorem watch_of_beyondLots {s t : State} (h : t.beyondLots = s.beyondLots) : t.watch = s.watch :=
  show t.beyondLots.watch = s.beyondLots.watch from congrArg State.watch h

theorem watch_of_tankSide {s t : State} (h : t.tankSide = s.tankSide) : t.watch = s.watch :=
  show t.tankSide.watch = s.tankSide.watch from congrArg State.watch h

section
variable {s t : State}

/-- Without a discharge in progress there is nothing to guard. -/
theorem DischargeGuarded.of_ne (h : s.path.state ≠ .discharge) : DischargeGuarded s := fun hd => absurd hd h

theorem DischargeGuarded.of_open (h : s.releaseOpen = true) : DischargeGuarded s := dischargeGuarded_iff.mpr fun _ => h

variable (h : DischargeGuarded s)
include h

theorem DischargeGuarded.of_watch (ht : t.watch = s.watch) : DischargeGuarded t := by
  obtain ⟨hstate, hopen⟩ := Prod.mk.inj ht
  rw [dischargeGuarded_iff, hstate, hopen]
  exact dischargeGuarded_iff.mp h

theorem DischargeGuarded.of_beyondLots (ht : t.beyondLots = s.beyondLots) : DischargeGuarded t :=
  h.of_watch (watch_of_beyondLots ht)

theorem DischargeGuarded.of_tankSide (ht : t.tankSide = s.tankSide) : DischargeGuarded t :=
  h.of_watch (watch_of_tankSide ht)

theorem DischargeGuarded.foldl {α : Type} (act : State → α → State)
    (hact : ∀ x a, DischargeGuarded x → DischargeGuarded (act x a)) (l : List α) :
    DischargeGuarded (l.foldl act s) := by
  induction l generalizing s with
  | nil => exact h
  | cons a l ih => exact ih (hact _ a h)

end

/-! ### The path's state after a stop -/

theorem state_of_beyondLots {s t : State} {p : PathState} (h : t.beyondLots = s.beyondLots.atPath p) :
    t.path.state = p :=
  (congrArg (fun x : State => x.path.state) h :)

theorem interruptDischarge_state (cause : StopCause) (s : State) :
    (interruptDischarge cause s).path.state ≠ .discharge := by
  rw [state_of_beyondLots (interruptDischarge_beyondLots s cause)]
  split
  · nofun
  · assumption

section
variable (s : State)

/-! ### Flags and notices -/

@[simp] theorem latch_watch (f : Flag) : (latch f s).watch = s.watch := watch_of_tankSide (latch_tankSide s f)

@[simp] theorem latchIf_watch (b : Bool) (f : Flag) : (latchIf b f s).watch = s.watch :=
  watch_of_tankSide (latchIf_tankSide s b f)

/-! ### Outlet pulses -/

theorem chargeSilver_watch (ng : Nat) : (chargeSilver ng s).watch = s.watch := rfl
theorem addDayVolume_watch (q : Nat) : (addDayVolume q s).watch = s.watch := rfl

@[simp] theorem meterLot_watch (t : Fin 3) (q : Nat) : (meterLot t q s).watch = s.watch := by
  have hlot (x : State) (f : Lot → Lot) : (x.modLot t f).watch = x.watch := rfl
  unfold meterLot
  split
  · rfl
  · dsimp only
    rw [addDayVolume_watch, hlot, chargeSilver_watch, hlot]
    rfl

@[simp] theorem meterRecord_watch (n q : Nat) : (meterRecord n q s).watch = s.watch := by
  unfold meterRecord
  dsimp only
  rw [addDayVolume_watch, chargeSilver_watch]
  split <;> rfl

@[simp] theorem overrunPulse_watch (q : Nat) : (overrunPulse q s).watch = s.watch := by
  unfold overrunPulse
  dsimp only
  split
  · split
    · rfl
    · split
      · rw [meterLot_watch]; rfl
      · rw [meterRecord_watch]; rfl
  · rfl
  · rfl

@[simp] theorem strayPulse_watch (q : Nat) : (strayPulse q s).watch = s.watch := by
  unfold strayPulse
  dsimp only
  rw [latch_watch]
  split <;> rfl

/-! ### The inputs -/

theorem toConsumer_watch (a : Fin 5) (toCell : Fin 4 → State → State) (toSampler : State → State)
    (hcell : ∀ c, (toCell c s).watch = s.watch) (hsampler : (toSampler s).watch = s.watch) :
    (toConsumer a toCell toSampler s).watch = s.watch := by
  unfold toConsumer
  split
  · exact hsampler
  · split
    · rfl
    · exact hcell _

theorem handLeaving_watch (a : Fin 5) : (handLeaving a s).watch = s.watch := by
  have hsampler : (samplerLeftValid s).watch = s.watch := by
    unfold samplerLeftValid
    split
    · exact watch_of_beyondLots (attemptFails_beyondLots s)
    · rfl
  have hleft : (handLeftValid a s).watch = s.watch :=
    toConsumer_watch s a _ _ (fun c => watch_of_tankSide (cellLeftValid_tankSide s c _ _)) hsampler
  have hexpired (x : State) : (handHoldExpired a x).watch = x.watch := by rw [handHoldExpired_cells]; rfl
  unfold handLeaving
  split
  · rw [hexpired, hleft]
  · exact hleft

theorem enterFaulty_watch (a : Fin 5) (state : AnalyzerState) : (enterFaulty a state s).watch = s.watch := by
  unfold enterFaulty
  dsimp only
  split
  · rw [latch_watch, handLeaving_watch]; rfl
  · rw [latchIf_watch]; rfl

theorem publish_watch (a : Fin 5) : (publish a s).watch = s.watch := by
  have hhanded (x : State) (value : Nat) : (handPublished a value x).watch = x.watch := by
    refine toConsumer_watch x a _ _ (fun _ => rfl) ?_
    unfold samplerPublished; split <;> rfl
  have hentered (x : State) : (handEnteredValid a x).watch = x.watch :=
    toConsumer_watch x a _ _ (fun c => watch_of_tankSide (testPrimed_tankSide _ c)) rfl
  unfold publish
  dsimp only
  rw [hhanded]
  split
  · rfl
  · rw [hentered]; rfl

theorem risingEdge_watch (a : Fin 5) : (risingEdge a s).watch = s.watch := by
  have hmod (f : Analyzer → Analyzer) (x : State) : (x.modAnalyzer a f).watch = x.watch := rfl
  have htaken (r : PeriodResult) (x : State) : (takeResult a r x).watch = x.watch := by
    unfold takeResult
    dsimp only
    split
    · rw [publish_watch, hmod]
    · split
      · rw [enterFaulty_watch, hmod]
      · exact hmod _ _
    · split
      · rw [enterFaulty_watch, hmod]
      · exact hmod _ _
  unfold risingEdge
  dsimp only
  split
  · rfl
  · split
    · rfl
    · exact htaken _ _

theorem holdRunsOut_watch (a : Fin 5) : (holdRunsOut a s).watch = s.watch := by
  rw [holdRunsOut, handHoldExpired_cells]; rfl

theorem setAnalyzer_watch (a : Fin 5) (k : AnalyzerSettings) : (setAnalyzer a k s).watch = s.watch := by
  obtain ⟨_, _, _, h⟩ := setAnalyzer_eq s a k
  rw [h]; rfl

theorem rebind_watch (c : Fin 16) (k : ChannelSettings) : (rebind c k s).watch = s.watch := by
  obtain ⟨_, _, h⟩ := rebind_lines s c k
  rw [h]; rfl

/-- The settings of lines, cells and inputs return to their defaults. -/
theorem defaultCells_watch : (defaultCells (defaultLines (defaultInputs s))).watch = s.watch := by
  have hcells (x : State) : (defaultCells x).watch = x.watch :=
    foldl_keeps _ State.watch (fun s c => by rw [cellTakes_eq]; rfl) _ x
  have hlines (x : State) : (defaultLines x).watch = x.watch :=
    (foldl_keeps _ State.watch (fun s l => by rw [loopOff_loops]; rfl) _ _).trans rfl
  have hanalyzers (x : State) : (defaultAnalyzers x).watch = x.watch :=
    foldl_keeps _ State.watch (fun s a => setAnalyzer_watch s a _) _ x
  have hchannels (x : State) : (defaultChannels x).watch = x.watch :=
    foldl_keeps _ State.watch (fun s c => rebind_watch s c _) _ x
  rw [hcells, hlines, defaultInputs_eq, hanalyzers, hchannels]

end

section
variable {s : State}

/-! ### Drains of the Outlet Path -/

/-- A stop ends the discharge that it finds. -/
theorem stopDrain_guarded (cause : StopCause) {how : Fin 3 → State → State}
    (hhow : ∀ t s, (how t s).beyondLots = s.beyondLots) : DischargeGuarded (stopDrain cause how s) := by
  refine .of_ne ?_
  rw [state_of_beyondLots (stopDrain_beyondLots s cause how hhow)]
  nofun

theorem interruptDischarge_guarded (cause : StopCause) (s : State) : DischargeGuarded (interruptDischarge cause s) :=
  .of_ne (interruptDischarge_state cause s)

theorem pathEnds_guarded (s : State) : DischargeGuarded (pathEnds s) :=
  .of_ne (by rw [pathEnds_idle]; nofun)

theorem holdPath_guarded (s : State) : DischargeGuarded (holdPath s) :=
  .of_ne (by rw [holdPath_idles]; nofun)

section
variable (h : DischargeGuarded s)
include h

theorem stopHeld_guarded (cause : StopCause) (reason : HoldReason) : DischargeGuarded (stopHeld cause reason s) := by
  unfold stopHeld
  split
  · exact stopDrain_guarded _ fun t s => handBackHeld_beyondLots s reason t
  · exact h

theorem runDry_guarded : DischargeGuarded (runDry s) := by
  unfold runDry
  split
  · exact h
  · exact stopDrain_guarded _ fun t s => handBackDrained_beyondLots s t

theorem drainLowLost_guarded : DischargeGuarded (drainLowLost s) := by
  unfold drainLowLost
  split
  · exact runDry_guarded h
  · exact stopDrain_guarded _ fun t s => handBackHeld_beyondLots s _ t
  · exact h
  · exact h

theorem outletPulse_guarded (q : Nat) : DischargeGuarded (outletPulse q s) := by
  unfold outletPulse
  split
  · unfold dischargePulse
    split
    · exact h
    · dsimp only
      split
      · exact stopDrain_guarded _ fun t s => handBackReturned_beyondLots s t
      · exact h.of_watch (meterLot_watch s _ q)
  · unfold polishPulse
    dsimp only
    split
    · exact stopDrain_guarded _ fun t s => handBackPassed_beyondLots s t
    · exact h.of_watch rfl
  · exact h.of_watch (overrunPulse_watch s q)
  · exact h.of_watch (strayPulse_watch s q)

/-! ### The permit and the arbiter -/

theorem putInForce_guarded (p : Permit) : DischargeGuarded (putInForce p s) := by
  let active := s.modKept fun k =>
    { k with permit := { active := some p, digest := some (digestOf p), corrupt := false, next := none } }
  have hactive : DischargeGuarded active := fun hd => by
    obtain ⟨-, hconditions⟩ := h hd
    exact ⟨rfl, hconditions⟩
  have hforce : (putInForce p s).watch = (clearByPart .permitCorrupt active).watch := rfl
  exact hactive.of_watch (hforce.trans (watch_of_tankSide (clearByPart_tankSide active .permitCorrupt)))

section
variable {tell : State → State} (htell : ∀ x, DischargeGuarded x → DischargeGuarded (tell x))
include htell

/-- A window that closes ends the discharge, and under a closed window none runs. -/
theorem judgeWindow_guarded : DischargeGuarded (judgeWindow tell s) := by
  have hshut (hw : s.permit.windowOpen = false) (b : Bool) :
      DischargeGuarded { s with permit := { s.permit with windowOpen := b } } := by
    refine .of_ne fun hd => ?_
    obtain ⟨-, -, hopen, -⟩ := h hd
    exact Bool.false_ne_true (hw.symm.trans hopen)
  unfold judgeWindow
  dsimp only
  split
  next hw _ => exact htell _ (hshut hw _)
  · exact interruptDischarge_guarded _ _
  next hw hnow => rw [hnow, ← hw]; exact h
  next hw _ => exact hshut hw _

theorem activate_guarded : DischargeGuarded (activate tell s) := by
  unfold activate
  split
  · exact h
  · exact htell _ (judgeWindow_guarded (putInForce_guarded h _) htell)

/-- A permit found corrupt ends the discharge. -/
theorem digestCheck_guarded : DischargeGuarded (digestCheck tell s) := by
  have hfound : DischargeGuarded (foundCorrupt s) := by
    let marked : State := { s with
      kept := { s.kept with permit := { s.kept.permit with corrupt := true } }
      permit := { s.permit with check := none } }
    refine .of_ne ?_
    have hstate : (foundCorrupt s).path.state =
        (latch .permitCorrupt (interruptDischarge .permitCorrupt marked)).path.state := rfl
    rw [hstate, latch_path]
    exact interruptDischarge_state _ marked
  unfold digestCheck
  split
  · exact h
  · split
    · exact h
    · exact activate_guarded hfound htell

end

/-- A take for discharge under conditions 1 to 6. -/
theorem takeDischarge_guarded (hopen : s.releaseOpen = true) (t : Fin 3) (grant : Grant) (remaining : Int) :
    DischargeGuarded (takeDischarge t grant remaining s) := by
  have hhanded (key : Fin 33) (content : NoticeContent) (x : State) (hx : x.releaseOpen = true) :
      DischargeGuarded (handNotice key content x) :=
    (DischargeGuarded.of_open hx).of_tankSide (handNotice_tankSide x key content)
  unfold takeDischarge
  split
  · exact h
  · dsimp only
    split
    · exact hhanded _ _ _ hopen
    · exact runDry_guarded (hhanded _ _ _ hopen)

theorem takePolish_guarded (t : Fin 3) : DischargeGuarded (takePolish t s) := by
  have hhanded (key : Fin 33) (content : NoticeContent) (x : State) (hx : x.path.state = .polish) :
      DischargeGuarded (handNotice key content x) :=
    (DischargeGuarded.of_ne (s := x) (by rw [hx]; nofun)).of_tankSide (handNotice_tankSide x key content)
  unfold takePolish
  split
  · exact h
  · dsimp only
    split
    · exact hhanded _ _ _ rfl
    · exact drainLowLost_guarded (hhanded _ _ _ rfl)

theorem polishStep_guarded : DischargeGuarded (polishStep s) := by
  unfold polishStep
  split
  · exact h
  · split
    · split
      · exact h
      · exact takePolish_guarded h _
    · exact h

theorem judgeRelease_guarded (t : Fin 3) (l : Lot) (p : Permit) : DischargeGuarded (judgeRelease t l p s) := by
  unfold judgeRelease
  dsimp only
  split
  next hrelease =>
    simp only [Bool.and_eq_true] at hrelease
    obtain ⟨⟨⟨hopen, -⟩, -⟩, -⟩ := hrelease
    exact takeDischarge_guarded h hopen _ _ _
  · exact polishStep_guarded (h.of_beyondLots (refuseRelease_beyondLots s p))

theorem decide_guarded : DischargeGuarded (decide s) := by
  have hchecked : DischargeGuarded (digestCheck id s) := digestCheck_guarded h fun _ hx => hx
  have hjudged (k : Nat) : DischargeGuarded (judgeHeads k (digestCheck id s)) :=
    hchecked.of_beyondLots (judgeHeads_beyondLots _ k)
  unfold decide
  split
  · exact polishStep_guarded h
  · dsimp only
    split
    · split
      · exact polishStep_guarded (hjudged _)
      · split
        · exact polishStep_guarded (hjudged _)
        · exact judgeRelease_guarded (hjudged _) _ _ _
    · exact polishStep_guarded (hjudged _)

theorem occasion_guarded : DischargeGuarded (occasion s) := by
  unfold occasion
  split
  · exact decide_guarded h
  · exact h

theorem toldWindow_guarded : DischargeGuarded (judgeWindow occasion s) :=
  judgeWindow_guarded h fun _ hx => occasion_guarded hx

theorem toldActivation_guarded : DischargeGuarded (activate occasion s) :=
  activate_guarded h fun _ hx => occasion_guarded hx

theorem toldCheck_guarded : DischargeGuarded (digestCheck occasion s) :=
  digestCheck_guarded h fun _ hx => occasion_guarded hx

theorem firstDecision_guarded : DischargeGuarded (firstDecision s) :=
  occasion_guarded (s := s.modPath fun p => { p with started := true }) h

/-! ### The day -/

omit h in
/-- A rollover ends the discharge, and opens the new day on a path at rest. -/
theorem rollover_guarded (number : Nat) (s : State) : DischargeGuarded (rollover number s) := by
  have hcleared (x : State) : (clearCapReached x).watch = x.watch := by
    unfold clearCapReached
    split
    · exact watch_of_tankSide (clearByPart_tankSide x _)
    · rfl
  have hclosed (record : DayRecord) : DischargeGuarded (closeDay record (interruptDischarge .rollover s)) :=
    .of_ne (interruptDischarge_state .rollover s)
  have hwritten (record : DayRecord) (f : Day → Day) (hf : ∀ d, (f d).unknown = d.unknown) : DischargeGuarded
      (orderWrite .checkpoint ((activate occasion (closeDay record (interruptDischarge .rollover s))).modDay f)) := by
    have hday (x : State) : (x.modDay f).watch = x.watch := by
      simp only [State.watch, State.releaseOpen, State.modDay_kept, hf]
      rfl
    exact ((toldActivation_guarded (hclosed record)).of_watch (hday _)).of_beyondLots (orderWrite_beyondLots _ _)
  have hflagged (x : State) : (setStandingFlags (clearCapReached x)).watch = x.watch :=
    Eq.trans rfl (hcleared x)
  unfold rollover
  dsimp only
  exact occasion_guarded (((hwritten _ (fun d => { d with number := number }) fun _ => rfl).of_watch
    (hflagged _)).of_tankSide (handNotice_tankSide _ _ _))

theorem rolloverTest_guarded : DischargeGuarded (rolloverTest s) := by
  unfold rolloverTest
  split
  · exact rollover_guarded _ s
  · exact h

theorem clockAdvance_guarded : DischargeGuarded (clockAdvance s) := by
  let advanced : State := { s with clock := s.clock.advance }
  have hrunning : s.clock.advance.running = s.clock.running := by
    unfold Clock.advance; split <;> rfl
  have hadvanced : DischargeGuarded advanced := by
    refine h.of_watch ?_
    simp only [State.watch, State.releaseOpen, advanced, hrunning]
    rfl
  have hchosen : DischargeGuarded advanced.choose.2 := hadvanced
  unfold clockAdvance
  dsimp only
  split
  · exact rolloverTest_guarded hadvanced
  · split
    · exact rolloverTest_guarded (toldWindow_guarded hchosen)
    · exact toldWindow_guarded (rolloverTest_guarded hchosen)

end

end

end Sys2Proof.Machine
end

section
/-! SUPPORT. The Sampler, Tank Control, the inputs' pulses, the supply and start-up keep a discharge guarded. -/

namespace Sys2Proof.Machine

open Sys2Proof

section
variable {s : State} (h : DischargeGuarded s)
include h

/-! ### The Sampler and Tank Control -/

theorem routeLot_guarded (t : Fin 3) : DischargeGuarded (routeLot t s) := by
  have hqueued : DischargeGuarded (routeQueued t s) := occasion_guarded (h.of_beyondLots (by simp))
  have habove : DischargeGuarded (routeAbove t s) := h.of_beyondLots (routeAbove_beyondLots s t)
  unfold routeLot
  split
  · exact h
  · split
    · exact hqueued
    · split
      · exact hqueued
      · split
        · exact occasion_guarded habove
        · exact habove

theorem windowEnds_guarded : DischargeGuarded (windowEnds s) := by
  have hends (x : State) (hx : DischargeGuarded x) : DischargeGuarded (attemptEnds x) :=
    hx.of_beyondLots (by simp [attemptEnds])
  have hbooked (mass : Nat) : (bookRemoval mass s).watch = s.watch := by
    unfold bookRemoval trainJudged
    split
    · rfl
    · split
      · rfl
      · rw [latchIf_watch]; rfl
  have hsampled (mass : Nat) (t : Fin 3) (f : Lot → Lot) : DischargeGuarded ((bookRemoval mass s).modLot t f) :=
    (h.of_watch (hbooked mass)).of_beyondLots (modLot_beyondLots _ t f)
  unfold windowEnds attemptSucceeds
  split
  · split
    · exact hends _ h
    · split
      · exact hends _ h
      · exact hends _ (routeLot_guarded (hsampled _ _ _) _)
  · exact h.of_beyondLots (attemptFails_beyondLots s)

theorem flushEnds_guarded : DischargeGuarded (flushEnds s) := by
  unfold flushEnds
  dsimp only
  split
  · exact h.of_watch rfl
  · exact h.of_beyondLots ((attemptFails_beyondLots _).trans rfl)

theorem stopLot_guarded (t : Fin 3) (cause : StopCause) (reason : HoldReason) :
    DischargeGuarded (stopLot t cause reason s) := by
  unfold stopLot
  split
  · exact h
  · split
    case h_1 => exact h.of_beyondLots (by simp [stopFilling])
    case h_7 => exact stopHeld_guarded h _ _
    case h_8 => exact stopHeld_guarded h _ _
    all_goals exact h.of_beyondLots (by simp)

theorem switchFaultTest_guarded (t : Fin 3) : DischargeGuarded (switchFaultTest t s) := by
  unfold switchFaultTest
  split
  · split
    · exact h.of_watch (latch_watch s _)
    · exact stopLot_guarded (h.of_watch (latch_watch (s.modTank t _) _)) t _ _
  · exact h

theorem lowLost_guarded (t : Fin 3) : DischargeGuarded (lowLost t s) := by
  unfold lowLost
  split
  · split
    · exact h
    · split
      · exact h
      · exact stopLot_guarded h t _ _
  · exact drainLowLost_guarded h
  all_goals exact h

theorem debounced_guarded (w : Switch) : DischargeGuarded (debounced w s) := by
  have haccepted : DischargeGuarded (accept w s) := h
  have htested (t : Fin 3) : DischargeGuarded (switchFaultTest t (accept w s)) := switchFaultTest_guarded haccepted t
  rw [debounced_eq]
  cases w with
  | tankLow t =>
    simp only [switchChange, tankLowChange]
    split
    · exact htested t
    · exact lowLost_guarded (htested t) t
  | tankHigh t =>
    simp only [switchChange, tankHighChange]
    split
    · exact (htested t).of_beyondLots (closeLot_beyondLots _ t true)
    · exact htested t
  | sumpLow => exact haccepted.of_beyondLots (pumpJudge_beyondLots _)
  | sumpHigh =>
    simp only [switchChange, sumpHighChange]
    split <;> exact haccepted.of_beyondLots ((pumpJudge_beyondLots _).trans rfl)
  | cellFlow c => exact haccepted.of_tankSide (cellFlowChange_tankSide _ c _)

theorem takeLevels_guarded : DischargeGuarded (takeLevels s) := by
  have hmade (x : State) (t : Fin 3) : (makeUnknown t x).beyondLots = x.beyondLots := by
    unfold makeUnknown
    split
    · rw [latch_beyondLots _ (by decide), lotEvent_beyondLots]; rfl
    · rfl
  have hfilling (x : State) : (startFilling x).beyondLots = x.beyondLots := by
    unfold startFilling
    split
    · rfl
    · split <;> simp
  have hsump (x : State) : (startSump x).beyondLots = x.beyondLots := by
    unfold startSump; split <;> rfl
  have htested : DischargeGuarded (eachTank switchFaultTest s.taken) :=
    DischargeGuarded.foldl (s := s.taken) h _ (fun _ t hx => switchFaultTest_guarded hx t) _
  have hjudged := htested.of_beyondLots ((hfilling _).trans (hsump _))
  have hends (x : State) (hx : DischargeGuarded x) : DischargeGuarded (samplerTest (pumpJudge (fillSelection x))) :=
    hx.of_beyondLots (by simp)
  unfold takeLevels
  dsimp only
  split
  · exact hends _ hjudged
  · exact hends _ (hjudged.of_beyondLots (foldl_keeps _ State.beyondLots hmade _ _))

theorem startingLevels_guarded : DischargeGuarded (startingLevels s) := by
  have hflows (x : State) : ((List.finRange 4).foldl (fun s c => startingFlow c s) x).tankSide = x.tankSide :=
    foldl_keeps _ State.tankSide (fun s c => startingFlow_tankSide s c) _ x
  let sampled : State := { s with
    switches := s.switches.map fun k => { k with accepted := some k.pin, debounce := none }
    startUp := { s.startUp with levels := none } }
  have hsampled : DischargeGuarded sampled := h
  exact firstDecision_guarded ((takeLevels_guarded hsampled).of_tankSide (hflows _))

theorem transferPulse_guarded (q : Nat) : DischargeGuarded (transferPulse q s) := by
  unfold transferPulse
  split
  · unfold fillPulse
    dsimp only
    split
    · exact h.of_beyondLots (by simp)
    · exact h.of_beyondLots (modLot_beyondLots _ _ _)
  · exact h.of_watch rfl

theorem maxFillExpired_guarded (t : Fin 3) : DischargeGuarded (maxFillExpired t s) := by
  unfold maxFillExpired
  split
  · exact h.of_beyondLots (closeLot_beyondLots s t _)
  · exact h

theorem backupArises_guarded : DischargeGuarded (backupArises s) := by
  refine h.of_watch ?_
  rw [backupArises, watch_of_tankSide (backupEvent_tankSide _ _), latch_watch]
  rfl

/-! ### Pulses -/

theorem edge_guarded (c : Fin 16) (rising : Bool) : DischargeGuarded (edge c rising s) := by
  have hpulsed (x : State) (hx : DischargeGuarded x) (r : Role) (q : Nat) : DischargeGuarded (ownerPulse r q x) := by
    cases r with
    | footage l =>
      simp only [ownerPulse, footagePulse]
      split
      · exact hx.of_watch rfl
      · exact hx
    | transfer => exact transferPulse_guarded hx q
    | outlet => exact outletPulse_guarded hx q
    | _ => exact hx
  have hchannel (f : Channel → Channel) : DischargeGuarded (s.modChannel c f) := h
  unfold edge selectedEdge
  split
  · exact h
  · split
    · exact hchannel _
    · unfold acceptPulse
      dsimp only
      split
      · exact (hpulsed _ (hchannel _) _ _).of_tankSide (ownerRate_tankSide _ _ _ _)
      · exact hpulsed _ (hchannel _) _ _

/-! ### The supply, reset and start-up -/

omit h in
/-- Every way into HOLD leaves the path IDLE. -/
theorem enterHold_guarded (s : State) : DischargeGuarded (enterHold s) := by
  obtain ⟨-, hidle, -⟩ := enterHold_leaves s
  exact .of_ne (by rw [hidle]; nofun)

theorem judgeSupply_guarded : DischargeGuarded (judgeSupply s) := by
  unfold judgeSupply
  split
  · split <;> exact h
  · split
    · exact enterHold_guarded s
    · exact h

theorem firstJudgement_guarded : DischargeGuarded (firstJudgement s) := by
  unfold firstJudgement
  split
  · exact (holdPath_guarded _).of_watch (latch_watch _ _)
  · exact h

theorem recoverPath_guarded : DischargeGuarded (recoverPath s) :=
  occasion_guarded (s := s.modPath fun p => { p with hold := false }) h

theorem recover_guarded : DischargeGuarded (recover s) := by
  have htanks (x : State) : (recoverTanks x).beyondLots = x.beyondLots :=
    (samplerTest_beyondLots _).trans (Eq.trans rfl (pumpJudge_beyondLots _))
  have hblocks (x : State) : (recoverTanks (recoverLoops (recoverCells x))).watch = x.watch := by
    rw [watch_of_beyondLots (htanks _), watch_of_tankSide (recoverLoops_tankSide _),
      watch_of_tankSide (recoverCells_tankSide _)]
  let normal : State := { s with supply := { s.supply with hold := false, recovery := none } }
  have hnormal : DischargeGuarded normal := h
  exact recoverPath_guarded (hnormal.of_watch (hblocks normal))

omit h in
/-- A reset leaves the path IDLE. -/
theorem lost_guarded (s : State) : DischargeGuarded (lost s) := .of_ne (by nofun)

omit h in
theorem beginStartUp_guarded (sel1 sel0 : Bool) (s : State) : DischargeGuarded (beginStartUp sel1 sel0 s) := by
  unfold beginStartUp
  dsimp only
  split <;> exact lost_guarded s

theorem supplyAt_guarded (level : Nat) : DischargeGuarded (supplyAt level s) := by
  let taken : State := { s with supply := { s.supply with level := level } }
  have htaken : DischargeGuarded taken := h
  unfold supplyAt
  dsimp only
  split
  · exact lost_guarded taken
  · split
    · exact judgeSupply_guarded htaken
    · exact htaken

omit h in
/-- The blocks begin on an IDLE path. -/
theorem endSelfTest_guarded (memoryGood storeReadable imageMatches : Bool) (s : State) :
    DischargeGuarded (endSelfTest memoryGood storeReadable imageMatches s) := by
  have hjudged (k : Kept) (x : State) : DischargeGuarded (firstJudgement (latchResults (blocksAtStart k x))) := by
    have hbegun : DischargeGuarded (blocksAtStart k x) := .of_ne (by nofun)
    exact firstJudgement_guarded (hbegun.of_watch (t := latchResults (blocksAtStart k x)) (by simp [latchResults]))
  have hstanding (x : State) (hx : DischargeGuarded x) : DischargeGuarded (latchStanding x) :=
    hx.of_watch (by simp [latchStanding])
  have hchecked (x : State) (hx : DischargeGuarded x) : DischargeGuarded (checkRestored x) := by
    unfold checkRestored
    dsimp only
    split
    · exact toldCheck_guarded hx
    · exact toldActivation_guarded (toldCheck_guarded hx)
  have hcapped (x : State) (hx : DischargeGuarded x) : DischargeGuarded (latchCap x) := by
    unfold latchCap
    split
    · exact hx.of_watch (Eq.trans rfl (latch_watch x _))
    · exact hx
  unfold endSelfTest startFrom
  dsimp only
  refine DischargeGuarded.foldl ?_ _ (fun _ c hx => hx.of_tankSide (autostart_tankSide _ c)) _
  exact hcapped _ (hchecked _ (hstanding _ (hjudged _ _)))

theorem endRestore_guarded : DischargeGuarded (endRestore s) := by
  have hrestored : DischargeGuarded s.restored := h
  rw [endRestore_eq]
  split
  · exact hrestored
  · exact firstJudgement_guarded hrestored

end

end Sys2Proof.Machine
end

section
/-! PROOF of O51. Every request and every command keeps a discharge in progress under release conditions 1 to 6
(R130, R137). -/

namespace Sys2Proof.Machine

open Sys2Proof

section
variable {s : State} (h : DischargeGuarded s)
include h

/-! ### Requests on settings and cells -/

theorem serveSetLine_guarded (f : LineFields) : DischargeGuarded (serveSetLine f s).2 := by
  unfold serveSetLine
  split
  · exact h
  next l _ =>
    split
    · exact h.of_watch ((watch_of_tankSide (loopTakesLine_tankSide _ l _)).trans rfl)
    · exact h

theorem serveSetFilmType_guarded (entry load : Nat) : DischargeGuarded (serveSetFilmType entry load s).2 := by
  unfold serveSetFilmType
  split
  · exact h
  · split <;> exact h

theorem serveSetCell_guarded (f : CellFields) : DischargeGuarded (serveSetCell f s).2 := by
  unfold serveSetCell
  split
  · exact h
  · split
    · split
      · exact h
      · split
        · exact h
        · refine h.of_watch ?_
          dsimp only [ok, okWith]
          rw [cellTakes_eq]
          rfl
    · exact h

theorem serveSetChannel_guarded (f : ChannelFields) : DischargeGuarded (serveSetChannel f s).2 := by
  unfold serveSetChannel
  split
  · exact h
  · split
    · split
      · exact h
      · split
        · exact h
        · exact h.of_watch (rebind_watch s _ _)
    · exact h

theorem serveSetAnalyzer_guarded (f : AnalyzerFields) : DischargeGuarded (serveSetAnalyzer f s).2 := by
  unfold serveSetAnalyzer
  split
  · exact h
  · split
    · split
      · exact h
      · exact h.of_watch (setAnalyzer_watch s _ _)
    · exact h

theorem serveSetTank_guarded (f : TankFields) : DischargeGuarded (serveSetTank f s).2 := by
  unfold serveSetTank
  split
  · exact h
  · split
    · split <;> exact h
    · exact h

theorem serveSetPlant_guarded (f : PlantSettings) : DischargeGuarded (serveSetPlant f s).2 := by
  have hjudged : DischargeGuarded (judgeTrain f.exhaustPercent (s.modKept fun k => { k with plant := f })) :=
    h.of_watch (latchIf_watch ((s.modKept _).modKept _) _ _)
  unfold serveSetPlant
  split
  · dsimp only [ok, okWith]
    split
    · exact hjudged
    · exact judgeSupply_guarded hjudged
  · exact h

theorem serveStartCell_guarded (cell : Nat) : DischargeGuarded (serveStartCell cell s).2 := by
  unfold serveStartCell
  split
  · exact h
  next c _ =>
    split
    · split
      · exact h.of_tankSide (enterPriming_tankSide s c)
      · exact h
    all_goals exact h

theorem serveStopCell_guarded (cell : Nat) : DischargeGuarded (serveStopCell cell s).2 := by
  unfold serveStopCell
  split
  · exact h
  · split <;> exact h

theorem serveClearCellFault_guarded (cell : Nat) : DischargeGuarded (serveClearCellFault cell s).2 := by
  unfold serveClearCellFault
  split
  · exact h
  · split <;> exact h

/-! ### Requests on the permit and the day -/

theorem serveSetPermit_guarded (f : PermitFields) : DischargeGuarded (serveSetPermit f s).2 := by
  have hpending : DischargeGuarded (s.modKept fun k => { k with permit := { k.permit with next := some f.permit } }) := h
  unfold serveSetPermit
  split
  · dsimp only
    split
    · exact hpending
    · exact toldActivation_guarded hpending
  · exact h

theorem serveSetClock_guarded (dayCount second : Nat) : DischargeGuarded (serveSetClock dayCount second s).2 := by
  have hset (x : State) (hx : DischargeGuarded x) : DischargeGuarded (clockWasSet x) :=
    occasion_guarded (toldWindow_guarded hx)
  have hstarted : DischargeGuarded (startClock dayCount second s) := fun hd => by
    obtain ⟨husable, -, hconditions⟩ := h hd
    exact ⟨husable, rfl, hconditions⟩
  unfold serveSetClock
  split
  · dsimp only [okWith]
    split
    · exact hset _ hstarted
    · split
      · exact h
      · split
        · exact hset _ hstarted
        · exact hset _ (rollover_guarded _ _)
  · exact h

theorem serveSetDischargeEnable_guarded (enable : Nat) : DischargeGuarded (serveSetDischargeEnable enable s).2 := by
  have henabled : DischargeGuarded { s with permit := { s.permit with enable := true } } := fun hd => by
    obtain ⟨husable, hclock, hwindow, -, hconditions⟩ := h hd
    exact ⟨husable, hclock, hwindow, rfl, hconditions⟩
  unfold serveSetDischargeEnable
  split
  · split
    · exact h
    · exact occasion_guarded henabled
  · split
    · split
      · exact interruptDischarge_guarded _ _
      · exact h
    · exact h

/-- The altered permit is as usable as the one that the memory held. -/
theorem permitAltered_guarded (p : Permit) (digest : BitVec 32) : DischargeGuarded (permitAltered p digest s) := by
  unfold permitAltered
  split
  · refine fun hd => ?_
    obtain ⟨husable, hconditions⟩ := h hd
    refine ⟨?_, hconditions⟩
    have hcorrupt : s.kept.permit.corrupt = false := by
      rw [State.usablePermit] at husable
      split at husable
      · cases husable
      · exact Bool.eq_false_of_not_eq_true ‹_›
    simp [State.usablePermit, hcorrupt]
  · exact h

/-! ### Requests on lots, tanks and the train -/

theorem serveCloseLot_guarded : DischargeGuarded (serveCloseLot s).2 := by
  unfold serveCloseLot
  split
  · split
    · exact h
    · split
      · exact h
      · split
        · exact h
        · dsimp only [okWith]
          exact h.of_beyondLots (closeLot_beyondLots s _ false)
  · exact h

theorem serveHoldLot_guarded (n : Nat) : DischargeGuarded (serveHoldLot n s).2 :=
  onLot_cases s DischargeGuarded h fun t l => by
    split
    · exact h
    · exact stopLot_guarded h t _ _

theorem serveReturnLot_guarded (n : Nat) : DischargeGuarded (serveReturnLot n s).2 :=
  onLot_cases s DischargeGuarded h fun t l => by
    split
    · exact h
    · exact h.of_beyondLots ((samplerTest_beyondLots _).trans (enterSampleWait_beyondLots _ t))

theorem servePolishLot_guarded (n : Nat) : DischargeGuarded (servePolishLot n s).2 :=
  onLot_cases s DischargeGuarded h fun t l => by
    split
    · exact h
    · exact occasion_guarded (h.of_beyondLots (enterPolishWait_beyondLots _ t))

theorem serveDeclareHauled_guarded (n : Nat) : DischargeGuarded (serveDeclareHauled n s).2 :=
  onLot_cases s DischargeGuarded h fun t l => by
    have hbooked (f : Accounts → Accounts) (mg : Nat) (unknown : Bool) :
        DischargeGuarded (leaveTable t .hauled mg unknown (s.modAccounts f)) :=
      DischargeGuarded.of_beyondLots (s := s.modAccounts f) h (leaveTable_beyondLots _ t _ _ _)
    split
    · exact h
    · dsimp only [okWith, haul]
      split
      · exact hbooked _ _ _
      · exact (hbooked _ _ _).of_beyondLots ((fillSelection_beyondLots _).trans (modTank_beyondLots _ t _))

theorem serveReturnTank_guarded (tank : Nat) : DischargeGuarded (serveReturnTank tank s).2 := by
  unfold serveReturnTank
  split
  · exact h
  next t _ =>
    split
    · split
      · exact h.of_beyondLots (fillSelection_beyondLots (s.modTank t _))
      · exact h
    · exact h

theorem serveInstallCartridge_guarded (serial capacity : Nat) :
    DischargeGuarded (serveInstallCartridge serial capacity s).2 := by
  unfold serveInstallCartridge trainJudged
  split
  · split
    · exact h
    · exact occasion_guarded (h.of_watch (latchIf_watch ((s.modKept _).modKept _) _ _))
  · exact h

theorem serveRemoveCartridge_guarded (serial : Nat) : DischargeGuarded (serveRemoveCartridge serial s).2 := by
  unfold serveRemoveCartridge
  split
  · split
    · exact h
    · split <;> exact h
  · exact h

/-! ### Requests on alerts, and FACTORY RESET -/

theorem serveSetAlertMask_guarded (enables : Vector Nat 16) : DischargeGuarded (serveSetAlertMask enables s).2 := by
  unfold serveSetAlertMask
  split <;> exact h

theorem serveSetNoticeMask_guarded (enables : Vector Nat 33) : DischargeGuarded (serveSetNoticeMask enables s).2 := by
  unfold serveSetNoticeMask
  split <;> exact h

theorem serveClearAlert_guarded (kind inst : Nat) : DischargeGuarded (serveClearAlert kind inst s).2 := by
  have hcleared (x : State) (f : Flag) : (clearNamed f x).watch = x.watch := by
    unfold clearNamed; split <;> rfl
  unfold serveClearAlert
  split
  · exact h
  · exact h.of_watch (foldl_keeps _ State.watch hcleared _ s)

theorem serveFactoryReset_guarded : DischargeGuarded (serveFactoryReset s).2 := by
  have hdefault (x : State) (hx : x.watch = s.watch) : DischargeGuarded (judgeAlert (x.modKept defaultKept)) :=
    h.of_watch hx
  unfold serveFactoryReset resetToDefaults
  split
  · dsimp only [ok, okWith]
    exact (judgeSupply_guarded (hdefault _ (defaultCells_watch s))).of_beyondLots (orderWrite_beyondLots _ _)
  · exact h

/-- Serving a request keeps it. -/
theorem serveEntry_guarded (r : Request) : DischargeGuarded (serveEntry r s).2 := by
  cases r with
  | setLine f => exact serveSetLine_guarded h f
  | setFilmType entry load => exact serveSetFilmType_guarded h entry load
  | setCell f => exact serveSetCell_guarded h f
  | setChannel f => exact serveSetChannel_guarded h f
  | setAnalyzer f => exact serveSetAnalyzer_guarded h f
  | setTank f => exact serveSetTank_guarded h f
  | setPlant f => exact serveSetPlant_guarded h f
  | setPermit f => exact serveSetPermit_guarded h f
  | setClock dayCount second => exact serveSetClock_guarded h dayCount second
  | setAlertMask enables => exact serveSetAlertMask_guarded h enables
  | setNoticeMask enables => exact serveSetNoticeMask_guarded h enables
  | startCell cell => exact serveStartCell_guarded h cell
  | stopCell cell => exact serveStopCell_guarded h cell
  | clearCellFault cell => exact serveClearCellFault_guarded h cell
  | closeLot => exact serveCloseLot_guarded h
  | holdLot n => exact serveHoldLot_guarded h n
  | returnLot n => exact serveReturnLot_guarded h n
  | polishLot n => exact servePolishLot_guarded h n
  | declareHauled n => exact serveDeclareHauled_guarded h n
  | returnTank tank => exact serveReturnTank_guarded h tank
  | installCartridge serial capacity => exact serveInstallCartridge_guarded h serial capacity
  | removeCartridge serial => exact serveRemoveCartridge_guarded h serial
  | setDischargeEnable enable => exact serveSetDischargeEnable_guarded h enable
  | clearAlert kind inst => exact serveClearAlert_guarded h kind inst
  | factoryReset => exact serveFactoryReset_guarded h
  | readLine line => simp only [serveEntry, serveReadLine]; split <;> exact h
  | readCell cell => simp only [serveEntry, serveReadCell]; split <;> exact h
  | _ => exact h

end

/-! ### Every command -/

theorem dischargeGuarded_linkKeeps : LinkKeeps DischargeGuarded where
  link _ _ _ h := h
  latched f s h := h.of_watch (latch_watch s f)
  served r _ h := serveEntry_guarded h r

section
variable {s t : State}

theorem whenAwake_guarded (h : DischargeGuarded s) {f : State → State} (hf : DischargeGuarded (f s)) :
    DischargeGuarded (whenAwake s f) := by
  unfold whenAwake
  split
  · exact hf
  · exact h

theorem whenDue_guarded (h : DischargeGuarded s) (timer : Option Timer) {f : State → State}
    (hf : DischargeGuarded (f s)) : DischargeGuarded (whenDue timer s f) := by
  unfold whenDue
  split
  · exact hf
  · exact h

/-- Every command keeps a discharge in progress guarded. -/
theorem exec_guarded (h : DischargeGuarded s) (i : Instr) (ht : exec i s = .next t) : DischargeGuarded t := by
  have later (dt : Micros) : DischargeGuarded (s.after dt) := h
  have awake (dt : Micros) {f : State → State} (hf : DischargeGuarded (f (s.after dt))) :
      DischargeGuarded (whenAwake (s.after dt) f) := whenAwake_guarded (later dt) hf
  have due (dt : Micros) (timer : Option Timer) {f : State → State} (hf : DischargeGuarded (f (s.after dt))) :
      DischargeGuarded (whenDue timer (s.after dt) f) := whenDue_guarded (later dt) timer hf
  have apart (dt : Micros) (timer : Option Timer) {f : State → State} (hf : ∀ x, (f x).watch = x.watch) :
      DischargeGuarded (whenDue timer (s.after dt) f) := due dt timer ((later dt).of_watch (hf _))
  have request (dt : Micros) (kind tag : Byte) (r : Request) : DischargeGuarded (hostRequest dt kind tag r s) :=
    awake dt (offerFrame_keeps dischargeGuarded_linkKeeps (later dt) kind tag r)
  cases i with
  | pulseEdge dt c rising => cases ht; exact awake dt (edge_guarded (later dt) c rising)
  | blockTimeLimit dt c =>
    cases ht
    have hlimit (x : State) : (limitBlock c x).watch = x.watch := by
      unfold limitBlock
      split
      · rfl
      · exact watch_of_tankSide (ownerRate_tankSide (x.modChannel c _) _ _ _)
    split
    · exact (later dt).of_watch (hlimit _)
    · exact later dt
  | channelStale dt c =>
    cases ht
    exact apart dt _ fun x => watch_of_tankSide (ownerRate_tankSide (x.modChannel c Channel.still) _ _ _)
  | analyzerFallingEdge dt a => cases ht; exact awake dt ((later dt).of_tankSide (modAnalyzer_tankSide _ a _))
  | analyzerRisingEdge dt a => cases ht; exact awake dt ((later dt).of_watch (risingEdge_watch _ a))
  | analyzerSilence dt a => cases ht; exact apart dt _ fun x => enterFaulty_watch (x.modAnalyzer a _) a .lost
  | analyzerHoldExpired dt a => cases ht; exact apart dt _ fun x => holdRunsOut_watch x a
  | switchPinChange dt w covered => cases ht; exact h
  | debounceExpired dt w => cases ht; exact due dt _ (debounced_guarded (later dt) w)
  | switchStartingLevels dt => cases ht; exact due dt _ (startingLevels_guarded (later dt))
  | cellPrimingTimeout dt c => cases ht; exact due dt _ ((later dt).of_tankSide (cellFaulted_tankSide _ c _))
  | cellControlTick dt c => cases ht; exact due dt _ ((later dt).of_tankSide (tickAndRestart_tankSide _ c))
  | cellPwmPeriodStart dt c => cases ht; exact due dt _ ((later dt).of_tankSide (modCell_tankSide _ c _))
  | washCycleStart dt l => cases ht; exact due dt _ ((later dt).of_tankSide (startCycle_tankSide _ l))
  | washStopTimeout dt l => cases ht; exact due dt _ ((later dt).of_tankSide (washIdle_tankSide _ l))
  | maxFillTimeout dt t => cases ht; exact due dt _ (maxFillExpired_guarded (later dt) t)
  | sumpBackupDelay dt => cases ht; exact due dt _ (backupArises_guarded (later dt))
  | settleTimerExpired dt t =>
    cases ht
    exact due dt _ ((later dt).of_beyondLots
      ((samplerTest_beyondLots _).trans (enterSampleWait_beyondLots (State.modTimers _ t _) t)))
  | sampleFlushEnd dt => cases ht; exact due dt _ (flushEnds_guarded (later dt))
  | sampleWindowEnd dt => cases ht; exact due dt _ (windowEnds_guarded (later dt))
  | permitCheckTimer dt =>
    cases ht
    have hchecked (x : State) (hx : DischargeGuarded x) : DischargeGuarded (checkExpired x) :=
      toldCheck_guarded
        (s := { x with permit := { x.permit with check := x.usablePermit.map fun _ => x.timer checkSpan } }) hx
    exact due dt _ (hchecked _ (later dt))
  | clockSecond dt =>
    cases ht
    split
    · exact clockAdvance_guarded (later dt)
    · exact later dt
  | drainTimerExpired dt =>
    cases ht
    exact due dt _ ((stopHeld_guarded (later dt) _ _).of_watch (latch_watch _ .drainTimeout))
  | closingTimerExpired dt => cases ht; exact due dt _ (occasion_guarded (pathEnds_guarded _))
  | linkCharacter dt b framingError =>
    cases ht; exact awake dt (takeCharacter_keeps dischargeGuarded_linkKeeps (later dt) b framingError)
  | linkGapTimeout dt => cases ht; exact due dt _ (damage_keeps dischargeGuarded_linkKeeps (later dt) _ _)
  | outboundFrameSent dt => cases ht; exact awake dt (frameSent_keeps dischargeGuarded_linkKeeps (later dt))
  | supplyFall dt level => cases ht; exact supplyAt_guarded (later dt) level
  | supplyRise dt level => cases ht; exact supplyAt_guarded (later dt) level
  | supplyRecovery dt => cases ht; exact due dt _ (recover_guarded (later dt))
  | supplyBelowReset dt level => cases ht; exact lost_guarded _
  | resetPin dt sel1 sel0 => cases ht; exact beginStartUp_guarded sel1 sel0 _
  | powerOn dt level sel1 sel0 => cases ht; exact beginStartUp_guarded sel1 sel0 _
  | selfTestEnd dt memoryGood storeReadable imageMatches =>
    cases ht
    split
    · exact endSelfTest_guarded _ _ _ _
    · exact later dt
  | imageWriteComplete dt =>
    cases ht
    have hcompleted (x : State) : (completeWrite x).watch = x.watch := by
      unfold completeWrite
      split
      · rfl
      · dsimp only; split <;> rfl
    exact awake dt ((later dt).of_watch (hcompleted _))
  | resetPinLow dt => cases ht; exact lost_guarded _
  | permitMemoryFault dt p digest =>
    cases ht
    exact awake dt (permitAltered_guarded (later dt) p digest)
  | restoreEnd dt =>
    cases ht
    split
    · exact settle_keeps dischargeGuarded_linkKeeps (endRestore_guarded (later dt)) _ _
    · exact later dt
  | _ => cases ht; exact request _ _ _ _

/-- So does every step. -/
theorem step_guarded (h : DischargeGuarded s) (ht : step s = .next t) : DischargeGuarded t := by
  unfold step at ht
  split at ht
  · cases ht; exact h
  next c rest _ => exact exec_guarded (s := { s with pending := rest }) h c ht

end

end Sys2Proof.Machine

namespace Sys2Proof.Settled

open Sys2Proof Sys2Proof.Machine

/-- Settles O51: the path enters DISCHARGE in the arbiter's take alone, which asks for the six conditions, and whatever
ends one of them ends the discharge first. -/
theorem dischargeGuardedKept : Obligations.DischargeGuardedKept :=
  fun _ _ h ht => step_guarded h ht

end Sys2Proof.Settled
end

section
/-! SUPPORT. What lies beyond the path, which an occasion of the arbiter leaves while the permit's digest is sound, and
what lies beyond the permit too, which every occasion leaves (R108, R110, R128). -/

namespace Sys2Proof.Machine

open Sys2Proof

/-! ### Beyond the path -/

/-- The state beyond the lots, without the path. -/
def State.beyondPath (s : State) : State :=
  { s.beyondLots with path := Path.atStart }

section
variable {s t : State}

theorem beyondPath_of_beyondLots (h : t.beyondLots = s.beyondLots) : t.beyondPath = s.beyondPath :=
  congrArg (fun x : State => { x with path := Path.atStart }) h

theorem beyondPath_of_atPath {p : PathState} (h : t.beyondLots = s.beyondLots.atPath p) :
    t.beyondPath = s.beyondPath :=
  congrArg (fun x : State => { x with path := Path.atStart }) h

section
variable (h : t.beyondPath = s.beyondPath)
include h

theorem clock_of_beyondPath : t.clock = s.clock := (congrArg State.clock h :)
theorem permit_of_beyondPath : t.permit = s.permit := (congrArg State.permit h :)
theorem keptPermit_of_beyondPath : t.kept.permit = s.kept.permit := (congrArg (fun x : State => x.kept.permit) h :)
theorem dayStart_of_beyondPath : t.kept.day.dayStart = s.kept.day.dayStart :=
  (congrArg (fun x : State => x.kept.day.dayStart) h :)
theorem dayNumber_of_beyondPath : t.kept.day.number = s.kept.day.number :=
  (congrArg (fun x : State => x.kept.day.number) h :)
theorem corruptFlag_of_beyondPath : t.kept.day.flags.permitCorrupt = s.kept.day.flags.permitCorrupt :=
  (congrArg (fun x : State => x.kept.day.flags.permitCorrupt) h :)
theorem accounts_of_beyondPath : t.kept.accounts = s.kept.accounts := (congrArg (fun x : State => x.kept.accounts) h :)

theorem usablePermit_of_beyondPath : t.usablePermit = s.usablePermit := by
  simp only [State.usablePermit, keptPermit_of_beyondPath h]

theorem permitLatched_of_beyondPath : t.latched .permitCorrupt = s.latched .permitCorrupt := by
  have hflag (x : State) : x.beyondPath.latched .permitCorrupt = x.latched .permitCorrupt := by
    simp [State.latched, State.beyondPath, State.beyondLots]
  rw [← hflag t, h, hflag]

end

/-- The digest of every usable permit is that of its fields. -/
def State.digestSound (s : State) : Prop :=
  ∀ p, s.usablePermit = some p → s.kept.permit.digest = some (digestOf p)

/-- A check of a sound digest finds nothing (R110). -/
theorem digestCheck_sound (h : s.digestSound) (tell : State → State) : digestCheck tell s = s := by
  unfold digestCheck
  split
  · rfl
  next p hp => exact if_pos (h p hp)

end

section
variable (s : State)

@[simp] theorem modPath_beyondPath (f : Path → Path) : (s.modPath f).beyondPath = s.beyondPath := rfl
@[simp] theorem modTank_beyondPath (t : Fin 3) (f : Tank → Tank) : (s.modTank t f).beyondPath = s.beyondPath := rfl
@[simp] theorem dropFromLists_beyondPath (n : Nat) : (dropFromLists n s).beyondPath = s.beyondPath := rfl

@[simp] theorem handNotice_beyondPath (key : Fin 33) (content : NoticeContent) :
    (handNotice key content s).beyondPath = s.beyondPath :=
  beyondPath_of_beyondLots (handNotice_beyondLots s key content)

theorem interruptDischarge_beyondPath (cause : StopCause) :
    (interruptDischarge cause s).beyondPath = s.beyondPath :=
  beyondPath_of_atPath (interruptDischarge_beyondLots s cause)

@[simp] theorem runDry_beyondPath : (runDry s).beyondPath = s.beyondPath := by
  cases ht : s.path.tank with
  | none => simp only [runDry, ht]
  | some t => exact beyondPath_of_atPath (runDry_beyondLots s ht)

@[simp] theorem drainLowLost_beyondPath : (drainLowLost s).beyondPath = s.beyondPath := by
  unfold drainLowLost
  split
  · exact runDry_beyondPath s
  · exact beyondPath_of_atPath (stopDrain_beyondLots s _ _ fun t s => handBackHeld_beyondLots s _ t)
  · rfl
  · rfl

@[simp] theorem takeDischarge_beyondPath (t : Fin 3) (grant : Grant) (remaining : Int) :
    (takeDischarge t grant remaining s).beyondPath = s.beyondPath := by
  unfold takeDischarge
  split
  · rfl
  · dsimp only; split <;> simp

@[simp] theorem takePolish_beyondPath (t : Fin 3) : (takePolish t s).beyondPath = s.beyondPath := by
  unfold takePolish
  split
  · rfl
  · dsimp only; split <;> simp

@[simp] theorem polishStep_beyondPath : (polishStep s).beyondPath = s.beyondPath := by
  unfold polishStep
  split
  · rfl
  · split
    · split
      · rfl
      · exact takePolish_beyondPath s _
    · rfl

@[simp] theorem judgeRelease_beyondPath (t : Fin 3) (l : Lot) (p : Permit) :
    (judgeRelease t l p s).beyondPath = s.beyondPath := by
  unfold judgeRelease
  dsimp only
  split
  · exact takeDischarge_beyondPath s _ _ _
  · exact (polishStep_beyondPath _).trans (beyondPath_of_beyondLots (refuseRelease_beyondLots s p))

/-- A decision, beyond the path, is its digest check. -/
theorem decide_beyondPath : (decide s).beyondPath =
    (if s.kept.dischargeQueue.isEmpty then s else digestCheck id s).beyondPath := by
  have hjudged (k : Nat) : (judgeHeads k (digestCheck id s)).beyondPath = (digestCheck id s).beyondPath :=
    beyondPath_of_beyondLots (judgeHeads_beyondLots _ k)
  unfold decide
  split
  · exact polishStep_beyondPath s
  · dsimp only
    split
    · split
      · exact (polishStep_beyondPath _).trans (hjudged _)
      · split
        · exact (polishStep_beyondPath _).trans (hjudged _)
        · exact (judgeRelease_beyondPath _ _ _ _).trans (hjudged _)
    · exact (polishStep_beyondPath _).trans (hjudged _)

/-- Under a sound digest an occasion leaves all that lies beyond the path. -/
theorem occasion_beyondPath {s : State} (h : s.digestSound) : (occasion s).beyondPath = s.beyondPath := by
  unfold occasion
  split
  · rw [decide_beyondPath, digestCheck_sound h, ite_self]
  · rfl

end

/-! ### Beyond the permit -/

/-- The state without the permit of the image, its day start, the day flags, the flags, the check timer and the window. -/
def State.sansPermit (s : State) : State :=
  { s with
    kept := { s.kept with
      permit := Kept.fresh.permit
      day := { s.kept.day with dayStart := 0, flags := DayFlags.clear } }
    permit := { s.permit with check := none, windowOpen := false }
    flags := State.reset.flags, alertActive := false }

def State.beyondPermit (s : State) : State :=
  s.beyondPath.sansPermit

/-- All that lies beyond the permit stands, and a write in flight is not lost. -/
structure Undisturbed (s t : State) : Prop where
  beyond : t.beyondPermit = s.beyondPermit
  writing : s.store.inFlight.isSome = true → t.store.inFlight.isSome = true

section
variable {s t u : State}

theorem Undisturbed.of_store (h : t.beyondPermit = s.beyondPermit) (hs : t.store = s.store) : Undisturbed s t :=
  ⟨h, fun hw => by rw [hs]; exact hw⟩

theorem Undisturbed.of_beyondPath (h : t.beyondPath = s.beyondPath) (hs : t.store = s.store) : Undisturbed s t :=
  .of_store (congrArg State.sansPermit h) hs

theorem Undisturbed.of_beyondLots (h : t.beyondLots = s.beyondLots) (hs : t.ledger = s.ledger) : Undisturbed s t :=
  .of_beyondPath (beyondPath_of_beyondLots h) (store_of_ledger hs)

theorem Undisturbed.refl (s : State) : Undisturbed s s := .of_store rfl rfl

theorem Undisturbed.trans (h : Undisturbed s t) (h' : Undisturbed t u) : Undisturbed s u :=
  ⟨h'.beyond.trans h.beyond, fun hw => h'.writing (h.writing hw)⟩

section
variable (h : Undisturbed s t)
include h

theorem Undisturbed.clock : t.clock = s.clock := (congrArg State.clock h.beyond :)
theorem Undisturbed.enable : t.permit.enable = s.permit.enable :=
  (congrArg (fun x : State => x.permit.enable) h.beyond :)
theorem Undisturbed.accounts : t.kept.accounts = s.kept.accounts :=
  (congrArg (fun x : State => x.kept.accounts) h.beyond :)
theorem Undisturbed.dayHistory : t.kept.dayHistory = s.kept.dayHistory :=
  (congrArg (fun x : State => x.kept.dayHistory) h.beyond :)

/-- The day stands but for its day start, its lots and its flags. -/
theorem Undisturbed.day : t.kept.day =
    { s.kept.day with dayStart := t.kept.day.dayStart, lots := t.kept.day.lots, flags := t.kept.day.flags } :=
  congrArg (fun x : State =>
    { x.kept.day with dayStart := t.kept.day.dayStart, lots := t.kept.day.lots, flags := t.kept.day.flags }) h.beyond

end

end

section
variable (s : State)

theorem orderWrite_undisturbed (kind : WriteKind) : Undisturbed s (orderWrite kind s) :=
  ⟨congrArg State.sansPermit (beyondPath_of_beyondLots (orderWrite_beyondLots s kind)),
    fun _ => orderWrite_inFlight kind s⟩

/-- Stops, whatever of the lots their handing back changes. -/
theorem stopDrain_undisturbed (cause : StopCause) (how : Fin 3 → State → State)
    (hlots : ∀ t s, (how t s).beyondLots = s.beyondLots) (hledger : ∀ t s, (how t s).ledger = s.ledger) :
    Undisturbed s (stopDrain cause how s) := by
  refine ⟨congrArg State.sansPermit (beyondPath_of_atPath (stopDrain_beyondLots s cause how hlots)), fun hw => ?_⟩
  by_cases hd : s.path.state = .discharge
  · exact stopDrain_orders hd cause how
  · have hstore : (stopDrain cause how s).store = (handBack how (s.modPath (·.stopped cause))).store := by
      unfold stopDrain
      dsimp only
      rw [if_neg hd]
      rfl
    rw [hstore, store_of_ledger (handBack_ledger _ how hledger)]
    exact hw

theorem interruptDischarge_undisturbed (cause : StopCause) : Undisturbed s (interruptDischarge cause s) := by
  unfold interruptDischarge
  split
  · exact stopDrain_undisturbed s _ _ (fun t s => handBackReturned_beyondLots s t) fun t s => handBackReturned_ledger s t
  · exact .refl s

theorem runDry_undisturbed : Undisturbed s (runDry s) := by
  cases ht : s.path.tank with
  | none => simp only [runDry, ht]; exact .refl s
  | some t =>
    rw [runDry_stops ht]
    exact (Undisturbed.of_beyondLots (modLot_beyondLots s t _) (modLot_ledger s t _)).trans
      (stopDrain_undisturbed _ _ _ (fun t s => handBackDrained_beyondLots s t) fun t s => handBackDrained_ledger s t)

theorem drainLowLost_undisturbed : Undisturbed s (drainLowLost s) := by
  unfold drainLowLost
  split
  · exact runDry_undisturbed s
  · exact stopDrain_undisturbed s _ _ (fun t s => handBackHeld_beyondLots s _ t) fun t s => handBackHeld_ledger s _ t
  · exact .refl s
  · exact .refl s

/-! ### The permit -/

theorem latch_undisturbed (f : Flag) : Undisturbed s (latch f s) :=
  .of_store (by rw [latch_eq]; rfl) (latch_store s f)

theorem clearByPart_undisturbed (f : Flag) : Undisturbed s (clearByPart f s) :=
  .of_store (by rw [clearByPart_eq]; rfl) (clearByPart_store s f)

theorem setDayFlags_undisturbed (f : DayFlags → DayFlags) : Undisturbed s (setDayFlags f s) := .of_store rfl rfl

theorem putInForce_undisturbed (p : Permit) : Undisturbed s (putInForce p s) := by
  let active := s.modKept fun k =>
    { k with permit := { active := some p, digest := some (digestOf p), corrupt := false, next := none } }
  have hactive : Undisturbed s active := .of_store rfl rfl
  have hforce : Undisturbed (clearByPart .permitCorrupt active) (putInForce p s) := .of_store rfl rfl
  exact (hactive.trans (clearByPart_undisturbed active _)).trans hforce

theorem foundCorrupt_undisturbed : Undisturbed s (foundCorrupt s) := by
  let marked : State := { s with
    kept := { s.kept with permit := { s.kept.permit with corrupt := true } }
    permit := { s.permit with check := none } }
  have hmarked : Undisturbed s marked := .of_store rfl rfl
  have hflagged (x : State) : Undisturbed x
      { setDayFlags (fun f => { f with permitCorrupt := true }) x with permit := { x.permit with windowOpen := false } } :=
    .of_store rfl rfl
  exact (hmarked.trans (interruptDischarge_undisturbed marked .permitCorrupt)).trans
    ((latch_undisturbed _ _).trans (hflagged _))

section
variable (tell : State → State) (htell : ∀ x, Undisturbed x (tell x))
include htell

theorem judgeWindow_undisturbed : Undisturbed s (judgeWindow tell s) := by
  have hjudged : Undisturbed s { s with permit := { s.permit with windowOpen := s.windowNow } } := .of_store rfl rfl
  unfold judgeWindow
  dsimp only
  split
  · exact hjudged.trans (htell _)
  · exact hjudged.trans (interruptDischarge_undisturbed _ _)
  · exact hjudged
  · exact hjudged

theorem activate_undisturbed : Undisturbed s (activate tell s) := by
  unfold activate
  split
  · exact .refl s
  · exact ((putInForce_undisturbed s _).trans (judgeWindow_undisturbed _ tell htell)).trans (htell _)

theorem digestCheck_undisturbed : Undisturbed s (digestCheck tell s) := by
  unfold digestCheck
  split
  · exact .refl s
  · split
    · exact .refl s
    · exact (foundCorrupt_undisturbed s).trans (activate_undisturbed _ tell htell)

end

/-! ### The arbiter -/

theorem takeDischarge_undisturbed (t : Fin 3) (grant : Grant) (remaining : Int) :
    Undisturbed s (takeDischarge t grant remaining s) := by
  unfold takeDischarge
  split
  · exact .refl s
  · dsimp only
    split
    · exact .of_beyondPath (by simp) (store_of_ledger (by simp))
    · exact (Undisturbed.of_beyondPath (by simp) (store_of_ledger (by simp))).trans (runDry_undisturbed _)

theorem takePolish_undisturbed (t : Fin 3) : Undisturbed s (takePolish t s) := by
  unfold takePolish
  split
  · exact .refl s
  · dsimp only
    split
    · exact .of_beyondPath (by simp) (store_of_ledger (by simp))
    · exact (Undisturbed.of_beyondPath (by simp) (store_of_ledger (by simp))).trans (drainLowLost_undisturbed _)

theorem polishStep_undisturbed : Undisturbed s (polishStep s) := by
  unfold polishStep
  split
  · exact .refl s
  · split
    · split
      · exact .refl s
      · exact takePolish_undisturbed s _
    · exact .refl s

theorem judgeRelease_undisturbed (t : Fin 3) (l : Lot) (p : Permit) : Undisturbed s (judgeRelease t l p s) := by
  unfold judgeRelease
  dsimp only
  split
  · exact takeDischarge_undisturbed s _ _ _
  · exact (Undisturbed.of_beyondLots (refuseRelease_beyondLots s p) (refuseRelease_ledger s p)).trans
      (polishStep_undisturbed _)

theorem decide_undisturbed : Undisturbed s (decide s) := by
  have hchecked : Undisturbed s (digestCheck id s) := digestCheck_undisturbed s id Undisturbed.refl
  have hjudged (k : Nat) : Undisturbed s (judgeHeads k (digestCheck id s)) :=
    hchecked.trans (.of_beyondLots (judgeHeads_beyondLots _ k) (judgeHeads_ledger _ k))
  unfold decide
  split
  · exact polishStep_undisturbed s
  · dsimp only
    split
    · split
      · exact (hjudged _).trans (polishStep_undisturbed _)
      · split
        · exact (hjudged _).trans (polishStep_undisturbed _)
        · exact (hjudged _).trans (judgeRelease_undisturbed _ _ _ _)
    · exact (hjudged _).trans (polishStep_undisturbed _)

theorem occasion_undisturbed : Undisturbed s (occasion s) := by
  unfold occasion
  split
  · exact decide_undisturbed s
  · exact .refl s

theorem clockWasSet_undisturbed : Undisturbed s (clockWasSet s) :=
  (judgeWindow_undisturbed s occasion occasion_undisturbed).trans (occasion_undisturbed _)

theorem clockWasSet_carries : Carries s (clockWasSet s) :=
  (judgeWindow_carries s occasion occasion_carries).trans (occasion_carries _)

end

end Sys2Proof.Machine
end

section
/-! PROOF of O28. SET PERMIT: what putting a permit in force leaves, the judgement of the window, and an activation as a
whole (R107, R108, R111). -/

namespace Sys2Proof.Machine

open Sys2Proof

section
variable {s t : State}

theorem AlikeButFrames.permit (h : AlikeButFrames s t) : t.permit = s.permit := (congrArg State.permit h).symm
theorem AlikeButFrames.clock (h : AlikeButFrames s t) : t.clock = s.clock := (congrArg State.clock h).symm
theorem AlikeButFrames.store (h : AlikeButFrames s t) : t.store = s.store := (congrArg State.store h).symm

theorem digestSound_of_beyondPath (h : t.beyondPath = s.beyondPath) (hs : s.digestSound) : t.digestSound := by
  unfold State.digestSound
  rw [usablePermit_of_beyondPath h, keptPermit_of_beyondPath h]
  exact hs

theorem usablePermit_active (h : s.kept.permit.corrupt = false) : s.usablePermit = s.kept.permit.active := by
  simp [State.usablePermit, h]

theorem usablePermit_eq_none (h : s.kept.permit.corrupt = true ∨ s.kept.permit.active = none) :
    s.usablePermit = none := by
  unfold State.usablePermit
  split
  · rfl
  · next hc => exact h.resolve_left hc

end

/-- A flag that the part clears is clear. -/
theorem clearByPart_clears (f : Flag) (s : State) : (clearByPart f s).latched f = false := by
  unfold State.latched
  rw [clearByPart_flags]
  split
  · exact congrArg FlagRecord.latched (modAt_same s.flags f.index _)
  · next h => exact Bool.eq_false_iff.mpr h

/-! ### The window -/

/-- The window state as it is judged now (R111). -/
def State.judged (s : State) : State :=
  { s with permit := { s.permit with windowOpen := s.windowNow } }

section
variable {tell : State → State} {s : State}

/-- A judgement that changes nothing. -/
theorem judgeWindow_stands (h : s.windowNow = s.permit.windowOpen) : judgeWindow tell s = s := by
  have hjudged : { s with permit := { s.permit with windowOpen := s.windowNow } } = s := by rw [h]
  unfold judgeWindow
  dsimp only
  split
  next hopen hnow => rw [hopen, hnow] at h; cases h
  next hopen hnow => rw [hopen, hnow] at h; cases h
  · exact hjudged
  · exact hjudged

theorem judgeWindow_opens (h : s.permit.windowOpen = false) (hnow : s.windowNow = true) :
    judgeWindow tell s = tell s.judged := by
  simp only [judgeWindow, h, hnow]
  rw [State.judged, hnow]

theorem judgeWindow_closes (h : s.permit.windowOpen = true) (hnow : s.windowNow = false) :
    judgeWindow tell s = interruptDischarge .windowClosed s.judged := by
  simp only [judgeWindow, h, hnow]
  rw [State.judged, hnow]

/-- Beyond the path, a judgement leaves the window state as judged. -/
theorem judgeWindow_beyondPath (htell : (tell s.judged).beyondPath = s.judged.beyondPath) :
    (judgeWindow tell s).beyondPath = s.judged.beyondPath := by
  unfold judgeWindow
  dsimp only
  split
  · exact htell
  · exact interruptDischarge_beyondPath s.judged _
  · rfl
  · rfl

end

/-! ### Activation -/

/-- Permit `p` is in force in `t`, which has the clock, the permit day and the accounts of `s` (R108). -/
structure InForce (p : Permit) (s t : State) : Prop where
  permit : t.kept.permit = { active := some p, digest := some (digestOf p), corrupt := false, next := none }
  dayStart : t.kept.day.dayStart = p.dayStart
  number : t.kept.day.number = s.kept.day.number
  dayFlag : t.kept.day.flags.permitCorrupt = s.kept.day.flags.permitCorrupt
  check : t.permit.check = some (s.timer checkSpan)
  cleared : t.latched .permitCorrupt = false
  clock : t.clock = s.clock
  accounts : t.kept.accounts = s.kept.accounts

theorem InForce.digestSound {p : Permit} {s t : State} (h : InForce p s t) : t.digestSound := by
  intro q hq
  rw [usablePermit_active (by rw [h.permit]), h.permit] at hq
  cases hq
  rw [h.permit]

theorem InForce.of_beyondPath {p : Permit} {s t u : State} (h : InForce p s t) (hu : u.beyondPath = t.beyondPath) :
    InForce p s u where
  permit := (keptPermit_of_beyondPath hu).trans h.permit
  dayStart := (dayStart_of_beyondPath hu).trans h.dayStart
  number := (dayNumber_of_beyondPath hu).trans h.number
  dayFlag := (corruptFlag_of_beyondPath hu).trans h.dayFlag
  check := (congrArg PermitRun.check (permit_of_beyondPath hu)).trans h.check
  cleared := (permitLatched_of_beyondPath hu).trans h.cleared
  clock := (clock_of_beyondPath hu).trans h.clock
  accounts := (accounts_of_beyondPath hu).trans h.accounts

section
variable (p : Permit) (s : State)

/-- The permit of the image as an activation writes it. -/
def State.withActive : State :=
  s.modKept fun k =>
    { k with permit := { active := some p, digest := some (digestOf p), corrupt := false, next := none } }

theorem putInForce_eq : putInForce p s =
    ({ clearByPart .permitCorrupt (s.withActive p) with
      permit := { s.permit with check := some (s.timer checkSpan) } }).modDay fun d =>
        { d with dayStart := p.dayStart } := by
  have hpermit : (clearByPart .permitCorrupt (s.withActive p)).permit = s.permit := clearByPart_permit _ _
  rw [← hpermit]
  rfl

theorem putInForce_kept : (putInForce p s).kept =
    { s.kept with
      permit := { active := some p, digest := some (digestOf p), corrupt := false, next := none }
      day := { s.kept.day with dayStart := p.dayStart } } := by
  rw [putInForce_eq, State.modDay, State.modKept, clearByPart_kept]
  rfl

theorem putInForce_inForce : InForce p s (putInForce p s) where
  permit := by rw [putInForce_kept]
  dayStart := by rw [putInForce_kept]
  number := by rw [putInForce_kept]
  dayFlag := by rw [putInForce_kept]
  check := by rw [putInForce_eq]; rfl
  cleared := by rw [putInForce_eq]; exact clearByPart_clears .permitCorrupt (s.withActive p)
  clock := by rw [putInForce_eq]; exact clearByPart_clock (s.withActive p) _
  accounts := by rw [putInForce_kept]

/-- The window that is judged under the new permit. -/
theorem putInForce_windowNow : (putInForce p s).windowNow =
    (s.clock.running && (permitWindows p).any (windowOpenAt · (s.clock.second / 60))) := by
  obtain ⟨hpermit, -, -, -, -, -, hclock, -⟩ := putInForce_inForce p s
  rw [State.windowNow, usablePermit_active (by rw [hpermit]), hpermit, hclock]
  rfl

end

section
variable {p : Permit} {s : State} {tell : State → State} (hnext : s.kept.permit.next = some p)
include hnext

theorem activate_next : activate tell s = tell (judgeWindow tell (putInForce p s)) := by
  simp only [activate, hnext]

variable (htell : ∀ x, x.digestSound → (tell x).beyondPath = x.beyondPath)
include htell

/-- Beyond the path, an activation puts the pending permit in force and judges the window. -/
theorem activate_beyondPath : (activate tell s).beyondPath = (putInForce p s).judged.beyondPath := by
  have hsound : (putInForce p s).judged.digestSound := (putInForce_inForce p s).digestSound
  have hwindow := judgeWindow_beyondPath (htell _ hsound)
  rw [activate_next hnext, htell _ (digestSound_of_beyondPath hwindow hsound), hwindow]

theorem activate_inForce : InForce p s (activate tell s) := by
  have hforce := putInForce_inForce p s
  have hjudged : InForce p s (putInForce p s).judged := { hforce with }
  exact hjudged.of_beyondPath (activate_beyondPath hnext htell)

theorem activate_window : (activate tell s).permit.windowOpen =
    (s.clock.running && (permitWindows p).any (windowOpenAt · (s.clock.second / 60))) := by
  rw [permit_of_beyondPath (activate_beyondPath hnext htell), State.judged, putInForce_windowNow]

end

end Sys2Proof.Machine

namespace Sys2Proof.Settled

open Sys2Proof Sys2Proof.Machine

/-- Settles O28: a usable permit stands or not. -/
theorem permitSet : Obligations.PermitSet := by
  intro dt tag s f ready hrange
  let y := serving dt (Request.kind (.setPermit f)) s
  let pend (x : State) : State := x.modKept fun k => { k with permit := { k.permit with next := some f.permit } }
  refine ⟨fun ⟨hcorrupt, hactive⟩ => ?_, fun hbad => ?_⟩
  · obtain ⟨p, hp⟩ := Option.isSome_iff_exists.mp hactive
    have husable : y.usablePermit = some p := (usablePermit_active (s := y) hcorrupt).trans hp
    have hs : serveEntry (.setPermit f) y = okWith .staged (pend y) := by
      simp only [serveEntry, serveSetPermit, hrange, if_true, husable]
      rfl
    exact congrArg _ (hostRequest_acts dt tag (.setPermit f) s .staged pend ready rfl (passesHold s rfl) hs fun _ => rfl)
  · have husable : y.usablePermit = none := usablePermit_eq_none (s := y) hbad
    have hs : serveEntry (.setPermit f) y = okWith (.activated (digestOf f.permit)) (activate occasion (pend y)) := by
      simp only [serveEntry, serveSetPermit, hrange, if_true, husable]
      rfl
    have hnext : (pend y).kept.permit.next = some f.permit := rfl
    have htell (x : State) (hx : x.digestSound) : (occasion x).beyondPath = x.beyondPath := occasion_beyondPath hx
    have hcarries : Carries y (activate occasion (pend y)) :=
      (Carries.of_ledger (s := y) (t := pend y) rfl).trans (activate_carries (pend y) occasion occasion_carries)
    obtain ⟨halike, hreply⟩ :=
      hostRequest_replied (r := .setPermit f) (tag := tag) ready rfl (passesHold s rfl) hs hcarries.link
    have hforce := activate_inForce hnext htell
    have hkept := halike.kept
    have hrun := halike.permit
    refine ⟨_, rfl, hreply, ?_, ?_, ?_, ?_, ?_, ?_, ?_, ?_⟩
    · exact (congrArg Kept.permit hkept).trans hforce.permit
    · exact (congrArg (·.day.dayStart) hkept).trans hforce.dayStart
    · exact (congrArg (·.day.number) hkept).trans hforce.number
    · exact (congrArg PermitRun.check hrun).trans hforce.check
    · exact (halike.latched _).trans hforce.cleared
    · exact (congrArg PermitRun.windowOpen hrun).trans (activate_window hnext htell)
    · exact halike.clock.trans hforce.clock
    · exact (congrArg Kept.accounts hkept).trans hforce.accounts

end Sys2Proof.Settled
end

section
/-! PROOF of O54. The digest check: what the end of a discharge leaves, and what a permit found corrupt leaves (R108, R110,
R137). -/

namespace Sys2Proof.Machine

open Sys2Proof

/-! ### The end of a discharge whose lot is returned (R137) -/

theorem interruptDischarge_other (cause : StopCause) {s : State} (h : s.path.state ≠ .discharge) :
    interruptDischarge cause s = s :=
  if_neg h

section
variable (s : State)

theorem handBackReturned_path (t : Fin 3) : (handBackReturned t s).path = s.path := by
  unfold handBackReturned enterQueueHead
  rw [lotEvent_link]
  split <;> rfl

theorem handBackReturned_day (t : Fin 3) : (handBackReturned t s).kept.day = s.kept.day := by
  unfold handBackReturned enterQueueHead
  rw [lotEvent_kept]
  split <;> rfl

theorem handBack_returned_path : (handBack handBackReturned s).path = s.path := by
  unfold handBack
  split
  · rfl
  · exact handBackReturned_path s _

theorem handBack_returned_day : (handBack handBackReturned s).kept.day = s.kept.day := by
  unfold handBack
  split
  · rfl
  · exact handBackReturned_day s _

theorem interruptDischarge_day (cause : StopCause) : (interruptDischarge cause s).kept.day = s.kept.day := by
  unfold interruptDischarge
  split
  · rw [stopDrain_kept, handBack_returned_day]
    rfl
  · rfl

end

theorem interruptDischarge_path (cause : StopCause) {s : State} (h : s.path.state = .discharge) :
    (interruptDischarge cause s).path =
      { s.path.stopped cause with closing := some (s.timer (s.kept.plant.closing * sec)) } := by
  rw [interruptDischarge, if_pos h, stopDrain_path, handBack_returned_path]
  rfl

/-! ### A permit found corrupt (R110) -/

section
variable (s : State)

/-- The state with the corrupt mark set and the check timer stopped. -/
def State.marked : State :=
  { s with
    kept := { s.kept with permit := { s.kept.permit with corrupt := true } }
    permit := { s.permit with check := none } }

theorem foundCorrupt_kept : (foundCorrupt s).kept =
    { (interruptDischarge .permitCorrupt s.marked).kept with
      day := { s.kept.day with flags := { s.kept.day.flags with permitCorrupt := true } } } := by
  have hday : (interruptDischarge .permitCorrupt s.marked).kept.day = s.kept.day :=
    interruptDischarge_day s.marked .permitCorrupt
  have hflagged : (foundCorrupt s).kept =
      (setDayFlags (fun f => { f with permitCorrupt := true })
        (latch .permitCorrupt (interruptDischarge .permitCorrupt s.marked))).kept := rfl
  rw [hflagged, setDayFlags, State.modDay, State.modKept, latch_kept, hday]

theorem foundCorrupt_path : (foundCorrupt s).path = (interruptDischarge .permitCorrupt s.marked).path :=
  latch_path (interruptDischarge .permitCorrupt s.marked) _

theorem foundCorrupt_keptPermit : (foundCorrupt s).kept.permit = { s.kept.permit with corrupt := true } := by
  rw [foundCorrupt_kept]
  exact keptPermit_of_beyondPath (interruptDischarge_beyondPath s.marked _)

theorem foundCorrupt_dayFlags :
    (foundCorrupt s).kept.day.flags = { s.kept.day.flags with permitCorrupt := true } := by
  rw [foundCorrupt_kept]

theorem foundCorrupt_permit :
    (foundCorrupt s).permit = { check := none, enable := s.permit.enable, windowOpen := false } := by
  have hstopped : (latch .permitCorrupt (interruptDischarge .permitCorrupt s.marked)).permit = s.marked.permit :=
    (latch_permit _ _).trans (permit_of_beyondPath (interruptDischarge_beyondPath s.marked _))
  exact congrArg (fun p : PermitRun => { p with windowOpen := false }) hstopped

theorem foundCorrupt_latched : (foundCorrupt s).latched .permitCorrupt = true :=
  latch_latched .permitCorrupt (interruptDischarge .permitCorrupt s.marked)

end

section
variable {s : State} {p : Permit} (hp : s.usablePermit = some p) (tell : State → State)
include hp

theorem digestCheck_match (h : s.kept.permit.digest = some (digestOf p)) : digestCheck tell s = s := by
  simp only [digestCheck, hp, h, if_true]

theorem digestCheck_mismatch (h : s.kept.permit.digest ≠ some (digestOf p)) :
    digestCheck tell s = activate tell (foundCorrupt s) := by
  simp only [digestCheck, hp, if_neg h]

theorem digestCheck_corrupt (h : s.kept.permit.digest ≠ some (digestOf p)) (hnext : s.kept.permit.next = none) :
    digestCheck tell s = foundCorrupt s := by
  have hnone : (foundCorrupt s).kept.permit.next = none := by rw [foundCorrupt_keptPermit]; exact hnext
  simp only [digestCheck_mismatch hp tell h, activate, hnone]

end

end Sys2Proof.Machine

namespace Sys2Proof.Settled

open Sys2Proof Sys2Proof.Machine

/-- Settles O54: the memory fault, the timer without a usable permit, and the check by what it finds. -/
theorem permitChecked : Obligations.PermitChecked := by
  intro dt s awake x restarted due
  refine ⟨fun p digest hactive => ?_, fun hdue hnone => ?_, fun p hdue hp => ?_⟩
  · have haltered : permitAltered p digest x = _ := if_pos hactive
    exact congrArg Host.Outcome.next ((whenAwake_of (s := x) awake _).trans haltered)
  · let stopped : State := { x with permit := { s.permit with check := none } }
    have hexpired : checkExpired x = digestCheck occasion stopped := by
      simp only [checkExpired, show x.usablePermit = none from hnone]
      rfl
    have hchecked : digestCheck occasion stopped = stopped := by
      simp only [digestCheck, show stopped.usablePermit = none from hnone]
    exact congrArg Host.Outcome.next ((whenDue_of (s := x) awake hdue _).trans (hexpired.trans hchecked))
  · have husable : restarted.usablePermit = some p := hp
    have hexec : exec (.permitCheckTimer dt) s = .next (digestCheck occasion restarted) := by
      have hexpired : checkExpired x = digestCheck occasion restarted := by
        simp only [checkExpired, show x.usablePermit = some p from hp]
        rfl
      exact congrArg Host.Outcome.next ((whenDue_of (s := x) awake hdue _).trans hexpired)
    rw [hexec]
    refine ⟨fun hmatch => ?_, fun hbad hnext => ?_, fun q hbad hnext => ?_⟩
    · rw [digestCheck_match husable occasion hmatch]
    · refine ⟨_, congrArg _ (digestCheck_corrupt husable occasion hbad hnext), foundCorrupt_keptPermit _,
        foundCorrupt_permit _, foundCorrupt_latched _, foundCorrupt_dayFlags _, fun hd => ?_, fun hd => ?_⟩
      · rw [foundCorrupt_path, interruptDischarge_path (s := restarted.marked) _ hd]
        exact ⟨rfl, rfl⟩
      · rw [foundCorrupt_path, interruptDischarge_other (s := restarted.marked) _ hd]
        rfl
    · have hpending : (foundCorrupt restarted).kept.permit.next = some q := by
        rw [foundCorrupt_keptPermit]; exact hnext
      have hforce := activate_inForce (tell := occasion) hpending fun _ => occasion_beyondPath
      refine ⟨_, congrArg _ (digestCheck_mismatch husable occasion hbad), hforce.permit, hforce.dayStart, ?_,
        hforce.cleared⟩
      rw [hforce.dayFlag, foundCorrupt_dayFlags]

end Sys2Proof.Settled
end

section
/-! PROOFS of O29 and O55. The rollover of the permit day, SET CLOCK by the table of R115, and a second of the clock
(R111, R113 to R117). -/

namespace Sys2Proof.Machine

open Sys2Proof

/-! ### The rollover (R117) -/

section
variable (s : State)

theorem clearCapReached_undisturbed : Undisturbed s (clearCapReached s) := by
  unfold clearCapReached
  split
  · exact clearByPart_undisturbed s _
  · exact .refl s

theorem handNotice_undisturbed (key : Fin 33) (content : NoticeContent) : Undisturbed s (handNotice key content s) :=
  .of_beyondLots (handNotice_beyondLots s key content) (handNotice_ledger s key content)

/-- Steps 6 to 10 of a rollover: the write, the flags, the notice and the arbiter. -/
def rolloverEnds (record : DayRecord) : State :=
  occasion (handNotice rolloverKey (.rollover record)
    (setStandingFlags (clearCapReached (orderWrite .checkpoint s))))

theorem rolloverEnds_undisturbed (record : DayRecord) : Undisturbed (orderWrite .checkpoint s) (rolloverEnds s record) :=
  ((clearCapReached_undisturbed _).trans (setDayFlags_undisturbed _ _)).trans
    ((handNotice_undisturbed _ _ _).trans (occasion_undisturbed _))

theorem rolloverEnds_carries (record : DayRecord) : Carries s (rolloverEnds s record) :=
  (((orderWrite_carries s .checkpoint).then (clearCapReached_ledger _)).then (setStandingFlags_ledger _)).trans
    ((Carries.of_ledger (handNotice_ledger _ _ _)).trans (occasion_carries _))

/-- The end of a discharge does not change the record of the day. -/
theorem interruptDischarge_dayRecord (cause : StopCause) : (interruptDischarge cause s).dayRecord = s.dayRecord := by
  simp only [State.dayRecord, interruptDischarge_day, keptPermit_of_beyondPath (interruptDischarge_beyondPath s cause)]

/-- The state with its day closed, a discharge ended and a pending permit activated: steps 1 to 5 of a rollover. -/
def State.dayClosed : State :=
  activate occasion (closeDay s.dayRecord (interruptDischarge .rollover s))

theorem dayClosed_link : s.dayClosed.link.rest = s.link.rest :=
  (activate_carries _ occasion occasion_carries).link.trans (interruptDischarge_carries s .rollover).link

theorem dayClosed_beyondPermit : s.dayClosed.beyondPermit = closeDay s.dayRecord s.beyondPermit :=
  calc s.dayClosed.beyondPermit
    _ = (closeDay s.dayRecord (interruptDischarge .rollover s)).beyondPermit :=
      (activate_undisturbed _ occasion occasion_undisturbed).beyond
    _ = closeDay s.dayRecord (interruptDischarge .rollover s).beyondPermit := rfl
    _ = closeDay s.dayRecord s.beyondPermit :=
      congrArg (closeDay s.dayRecord) (interruptDischarge_undisturbed s .rollover).beyond

theorem rollover_eq (number : Nat) :
    rollover number s = rolloverEnds (s.dayClosed.modDay fun d => { d with number := number }) s.dayRecord := by
  rw [State.dayClosed, ← interruptDischarge_dayRecord s .rollover]
  rfl

theorem rollover_link (number : Nat) : (rollover number s).link.rest = s.link.rest := by
  rw [rollover_eq]
  exact (rolloverEnds_carries _ _).link.trans (dayClosed_link s)

end

/-- `t` stands in permit day `number`, its totals clear, the day of `s` recorded and a write in flight; its clock and
accounts are those of `s` (R117). -/
structure NewDay (number : Nat) (s t : State) : Prop where
  clock : t.clock = s.clock
  number : t.kept.day.number = number
  total : t.kept.day.total = { mg := 0, residue := 0 }
  volume : t.kept.day.volume = 0
  wash : t.kept.day.wash = 0
  plated : t.kept.day.plated = 0
  known : t.kept.day.unknown = false
  recorded : t.kept.dayHistory = (s.kept.dayHistory ++ [s.dayRecord]).drop (s.kept.dayHistory.length + 1 - 8)
  writing : t.store.inFlight.isSome = true
  accounts : t.kept.accounts = s.kept.accounts

/-- What comes after a rollover and leaves what lies beyond the permit. -/
theorem NewDay.of_undisturbed {number : Nat} {s t u : State} (h : NewDay number s t) (hu : Undisturbed t u) :
    NewDay number s u := by
  have hday := hu.day
  exact {
    clock := hu.clock.trans h.clock
    number := (congrArg Day.number hday).trans h.number
    total := (congrArg Day.total hday).trans h.total
    volume := (congrArg Day.volume hday).trans h.volume
    wash := (congrArg Day.wash hday).trans h.wash
    plated := (congrArg Day.plated hday).trans h.plated
    known := (congrArg Day.unknown hday).trans h.known
    recorded := hu.dayHistory.trans h.recorded
    writing := hu.writing h.writing
    accounts := hu.accounts.trans h.accounts }

theorem rollover_newDay (number : Nat) (s : State) : NewDay number s (rollover number s) := by
  let numbered := s.dayClosed.modDay fun d => { d with number := number }
  have hclosed := dayClosed_beyondPermit s
  have hnumbered : (orderWrite .checkpoint numbered).beyondPermit =
      (closeDay s.dayRecord s.beyondPermit).modDay fun d => { d with number := number } :=
    (orderWrite_undisturbed numbered .checkpoint).beyond.trans
      (congrArg (fun x : State => x.modDay fun d => { d with number := number }) hclosed)
  have hwritten : NewDay number s (orderWrite .checkpoint numbered) := {
    clock := (congrArg State.clock hnumbered :)
    number := (congrArg (fun x : State => x.kept.day.number) hnumbered :)
    total := (congrArg (fun x : State => x.kept.day.total) hnumbered :)
    volume := (congrArg (fun x : State => x.kept.day.volume) hnumbered :)
    wash := (congrArg (fun x : State => x.kept.day.wash) hnumbered :)
    plated := (congrArg (fun x : State => x.kept.day.plated) hnumbered :)
    known := (congrArg (fun x : State => x.kept.day.unknown) hnumbered :)
    recorded := (congrArg (fun x : State => x.kept.dayHistory) hnumbered :)
    writing := orderWrite_inFlight _ _
    accounts := (congrArg (fun x : State => x.kept.accounts) hnumbered :) }
  rw [rollover_eq]
  exact hwritten.of_undisturbed (rolloverEnds_undisturbed _ _)

/-! ### SET CLOCK (R115) -/

theorem withinClock {dayCount second : Nat} (hlow : 1 ≤ dayCount) (hhigh : dayCount ≤ 65535) (hsecond : second ≤ 86399) :
    (within 1 65535 dayCount && within 0 86399 second) = true := by
  simp [within, hlow, hhigh, hsecond]

section
variable {dayCount second : Nat} {s : State}
  (h : (within 1 65535 dayCount && within 0 86399 second) = true)
include h

theorem serveSetClock_establishes (he : s.kept.day.established = false) : serveSetClock dayCount second s =
    okWith (.clockSet (givenDay dayCount second s.kept.day.dayStart) false)
      (clockWasSet ((startClock dayCount second s).modDay fun d =>
        { d with number := givenDay dayCount second s.kept.day.dayStart, established := true })) := by
  simp only [serveSetClock, h, he]
  rfl

variable (he : s.kept.day.established = true)
include he

theorem serveSetClock_refuses (hday : givenDay dayCount second s.kept.day.dayStart < s.kept.day.number) :
    serveSetClock dayCount second s = wrongState s := by
  simp only [serveSetClock, h, he, if_pos hday]
  rfl

theorem serveSetClock_keeps (hday : givenDay dayCount second s.kept.day.dayStart = s.kept.day.number) :
    serveSetClock dayCount second s =
      okWith (.clockSet (givenDay dayCount second s.kept.day.dayStart) false)
        (clockWasSet (startClock dayCount second s)) := by
  simp only [serveSetClock, h, he, hday, Nat.lt_irrefl]
  rfl

theorem serveSetClock_rollsOver (hday : s.kept.day.number < givenDay dayCount second s.kept.day.dayStart) :
    serveSetClock dayCount second s =
      okWith (.clockSet (givenDay dayCount second s.kept.day.dayStart) true)
        (clockWasSet (rollover (givenDay dayCount second s.kept.day.dayStart) (startClock dayCount second s))) := by
  simp only [serveSetClock, h, he, if_neg (Nat.not_lt.mpr hday.le), if_neg hday.ne']
  rfl

end

/-! ### A second of the clock (R113) -/

theorem Clock.advance_eq (c : Clock) : c.advance =
    { c with
      second := if c.second = 86399 then 0 else c.second + 1
      dayCount := if c.second = 86399 then min (c.dayCount + 1) 65535 else c.dayCount } := by
  unfold Clock.advance
  split <;> rfl

theorem rolloverDue_iff (s : State) :
    s.rolloverDue = true ↔ s.kept.day.established = true ∧ s.kept.day.number < s.clockGives := by
  simp [State.rolloverDue]

/-- The state with its clock one second on. -/
def State.advanced (s : State) : State :=
  { s with clock := s.clock.advance }

section
variable {s : State}

theorem rolloverTest_stands (h : s.rolloverDue = false) : rolloverTest s = s := by
  simp [rolloverTest, h]

theorem rolloverTest_due (h : s.rolloverDue = true) : rolloverTest s = rollover s.clockGives s := if_pos h

theorem clockAdvance_within (h : s.clock.minute = s.advanced.clock.minute) :
    clockAdvance s = rolloverTest s.advanced := if_pos h

/-- With one of rollover and window change alone, the rollover test goes first. -/
theorem clockAdvance_minute (h : s.clock.minute ≠ s.advanced.clock.minute)
    (hone : s.advanced.rolloverDue = false ∨ s.advanced.windowNow = s.advanced.permit.windowOpen) :
    clockAdvance s = judgeWindow occasion (rolloverTest s.advanced.choose.2) := by
  have hlast : s.advanced.windowFirst = false := by
    rcases hone with hone | hone <;> simp [State.windowFirst, State.windowChanges, hone]
  have hfirst : clockAdvance s =
      if s.advanced.windowFirst then rolloverTest (judgeWindow occasion s.advanced.choose.2)
      else judgeWindow occasion (rolloverTest s.advanced.choose.2) := if_neg h
  rw [hfirst, hlast]
  rfl

theorem clockAdvance_judges (h : s.clock.minute ≠ s.advanced.clock.minute) (hdue : s.advanced.rolloverDue = false) :
    clockAdvance s = judgeWindow occasion s.advanced.choose.2 := by
  have hstands : rolloverTest s.advanced.choose.2 = s.advanced.choose.2 :=
    rolloverTest_stands (s := s.advanced.choose.2) hdue
  rw [clockAdvance_minute h (.inl hdue), hstands]

end

/-- An occasion on a path that is not IDLE, in its hold, or before its first decision leaves no trace (R128). -/
theorem occasion_waits {s : State} (h : s.path.state ≠ .idle ∨ s.path.hold = true ∨ s.path.started = false) :
    occasion s = s := by
  refine if_neg ?_
  rcases h with h | h | h <;> simp [h]

end Sys2Proof.Machine

namespace Sys2Proof.Settled

open Sys2Proof Sys2Proof.Machine

/-- Settles O29: the rows of the table of R115. -/
theorem clockSet : Obligations.ClockSet := by
  intro dt tag s dayCount second ready hlow hhigh hsecond given r set
  let y := serving dt r.kind s
  have hrange := withinClock hlow hhigh hsecond
  refine ⟨fun hestablished => ?_, fun hestablished => ⟨fun hday => ?_, fun hday => ?_, fun hday => ?_⟩⟩
  · let begun := (startClock dayCount second y).modDay fun d => { d with number := given, established := true }
    have hbegun : begun.link.rest = y.link.rest := rfl
    have hset := clockWasSet_undisturbed begun
    obtain ⟨halike, hreply⟩ := hostRequest_replied (r := r) (tag := tag) ready rfl (passesHold s rfl)
      (serveSetClock_establishes (s := y) hrange hestablished) ((clockWasSet_carries begun).link.trans hbegun)
    have hday := (congrArg Kept.day halike.kept).trans hset.day
    exact ⟨_, rfl, halike.clock.trans hset.clock, hreply, congrArg Day.number hday, congrArg Day.established hday,
      (congrArg Day.total hday :), (congrArg Kept.dayHistory halike.kept).trans hset.dayHistory⟩
  · exact congrArg _ (hostRequest_refused dt tag r s _ ready rfl (passesHold s rfl)
      (serveSetClock_refuses (s := y) hrange hestablished hday))
  · let begun := startClock dayCount second y
    have hbegun : begun.link.rest = y.link.rest := rfl
    have hset := clockWasSet_undisturbed begun
    obtain ⟨halike, hreply⟩ := hostRequest_replied (r := r) (tag := tag) ready rfl (passesHold s rfl)
      (serveSetClock_keeps (s := y) hrange hestablished hday) ((clockWasSet_carries begun).link.trans hbegun)
    have hsame := (congrArg Kept.day halike.kept).trans hset.day
    exact ⟨_, rfl, halike.clock.trans hset.clock, hreply, (congrArg Day.number hsame).trans hday.symm,
      (congrArg Day.total hsame :), (congrArg Kept.dayHistory halike.kept).trans hset.dayHistory⟩
  · let begun := startClock dayCount second y
    have hbegun : begun.link.rest = y.link.rest := rfl
    let rolled := rollover given begun
    have hrolled : NewDay given begun (clockWasSet rolled) :=
      (rollover_newDay given begun).of_undisturbed (clockWasSet_undisturbed rolled)
    have hlink : (clockWasSet rolled).link.rest = y.link.rest :=
      (clockWasSet_carries rolled).link.trans ((rollover_link begun given).trans hbegun)
    have hserve : serveEntry r y = okWith (.clockSet given true) (clockWasSet rolled) :=
      serveSetClock_rollsOver (s := y) hrange hestablished hday
    obtain ⟨halike, hreply⟩ := hostRequest_replied (r := r) (tag := tag) ready rfl (passesHold s rfl)
      hserve hlink
    generalize clockWasSet rolled = u at hrolled halike
    have hkept := halike.kept
    refine ⟨_, rfl, halike.clock.trans hrolled.clock, hreply, ?_, ?_, ?_, ?_, ?_, ?_, ?_, ?_⟩
    · exact (congrArg (·.day.number) hkept).trans hrolled.number
    · exact (congrArg (·.day.total) hkept).trans hrolled.total
    · exact (congrArg (·.day.volume) hkept).trans hrolled.volume
    · exact (congrArg (·.day.wash) hkept).trans hrolled.wash
    · exact (congrArg (·.day.plated) hkept).trans hrolled.plated
    · exact (congrArg (·.day.unknown) hkept).trans hrolled.known
    · exact (congrArg Kept.dayHistory hkept).trans hrolled.recorded
    · rw [halike.store]
      exact hrolled.writing

/-- Settles O55: the clock that stands, the second within a minute, and the window and the rollover at a new minute. -/
theorem clockAdvances : Obligations.ClockAdvances := by
  intro dt s awake x clock given advanced due
  have hadvanced : x.advanced = advanced := congrArg (fun c => { x with clock := c }) (Clock.advance_eq s.clock)
  have hexec (hrun : s.clock.running = true) : exec (.clockSecond dt) s = .next (clockAdvance x) := by
    have hboth : (x.awake && x.clock.running) = true := by rw [show x.awake = true from awake]; exact hrun
    exact congrArg Host.Outcome.next (if_pos hboth)
  have hrolls : advanced.rolloverDue = true ↔ due := rolloverDue_iff advanced
  have hstays (h : ¬due) : x.advanced.rolloverDue = false := by
    rw [hadvanced]; exact Bool.eq_false_iff.mpr (mt hrolls.mp h)
  have hminute : x.advanced.clock.minute = clock.second / 60 := by rw [hadvanced]; rfl
  have hwithin (h : s.clock.second / 60 = clock.second / 60) : clockAdvance x = rolloverTest advanced := by
    rw [← hadvanced]; exact clockAdvance_within (h.trans hminute.symm)
  have hjudges (h : s.clock.second / 60 ≠ clock.second / 60) (hd : ¬due) :
      clockAdvance x = judgeWindow occasion advanced.choose.2 := by
    rw [clockAdvance_judges (by rw [hminute]; exact h) (hstays hd), hadvanced]
  refine ⟨fun hstill => ?_, fun hrun hsame hd => ?_, fun hrun hd hwindow => ?_, fun hrun hnew hd hopen hnow => ?_,
    fun hrun hnew hd hshut hnow => ⟨fun hbusy => ?_, fun p hp hsound => ?_⟩, fun hrun hd hwindow => ?_⟩
  · have hnot : ¬(x.awake && x.clock.running) = true := by rw [show x.clock.running = false from hstill]; simp
    exact congrArg Host.Outcome.next (if_neg hnot)
  · rw [hexec hrun, hwithin hsame, rolloverTest_stands (hadvanced ▸ hstays hd)]
  · by_cases hsame : s.clock.second / 60 = clock.second / 60
    · refine ⟨advanced, ?_, rfl⟩
      rw [hexec hrun, hwithin hsame, rolloverTest_stands (hadvanced ▸ hstays hd)]
    · refine ⟨advanced.choose.2, ?_, rfl⟩
      rw [hexec hrun, hjudges hsame hd, judgeWindow_stands (s := advanced.choose.2) hwindow]
  · let y := advanced.choose.2.judged
    have hbeyond := interruptDischarge_beyondPath y .windowClosed
    refine ⟨interruptDischarge .windowClosed y, ?_, clock_of_beyondPath hbeyond, ?_, fun hpath => ?_, fun hpath => ?_⟩
    · rw [hexec hrun, hjudges hnew hd, judgeWindow_closes (s := advanced.choose.2) hopen hnow]
    · exact (congrArg PermitRun.windowOpen (permit_of_beyondPath hbeyond)).trans hnow
    · rw [interruptDischarge_other (s := y) _ hpath]
      exact ⟨rfl, rfl⟩
    · rw [interruptDischarge_path (s := y) _ hpath]
      exact ⟨rfl, rfl⟩
  · let y := advanced.choose.2.judged
    have hjudged : y = { advanced.choose.2 with permit := { s.permit with windowOpen := true } } :=
      congrArg (fun b => { advanced.choose.2 with permit := { s.permit with windowOpen := b } }) hnow
    refine ⟨y, ?_, ?_⟩
    · rw [hexec hrun, hjudges hnew hd, judgeWindow_opens (s := advanced.choose.2) hshut hnow, occasion_waits (s := y) hbusy]
    · rw [hjudged]
      rfl
  · let y := advanced.choose.2.judged
    have hbeyond : (occasion y).beyondPath = y.beyondPath := occasion_beyondPath fun q hq => by
      cases hp.symm.trans hq
      exact hsound
    refine ⟨occasion y, ?_, clock_of_beyondPath hbeyond, ?_⟩
    · rw [hexec hrun, hjudges hnew hd, judgeWindow_opens (s := advanced.choose.2) hshut hnow]
    · exact (permit_of_beyondPath hbeyond).trans
        (congrArg (fun b => { s.permit with windowOpen := b }) hnow)
  · have hrolled : ∃ t, exec (.clockSecond dt) s = .next t ∧ NewDay given advanced t := by
      by_cases hsame : s.clock.second / 60 = clock.second / 60
      · refine ⟨rollover given advanced, ?_, rollover_newDay given advanced⟩
        rw [hexec hrun, hwithin hsame, rolloverTest_due (hrolls.mpr hd)]
        rfl
      · let y := advanced.choose.2
        have hclock : clockAdvance x = judgeWindow occasion (rolloverTest y) := by
          rw [clockAdvance_minute (by rw [hminute]; exact hsame) (.inr (by rw [hadvanced]; exact hwindow)), hadvanced]
        have hday : NewDay given advanced (rollover given y) := { rollover_newDay given y with }
        refine ⟨judgeWindow occasion (rollover given y), ?_,
          hday.of_undisturbed (judgeWindow_undisturbed _ occasion occasion_undisturbed)⟩
        rw [hexec hrun, hclock, rolloverTest_due (s := y) (hrolls.mpr hd)]
        rfl
    obtain ⟨t, ht, hnew⟩ := hrolled
    exact ⟨t, ht, hnew.clock, hnew.number, hnew.total, hnew.volume, hnew.wash, hnew.plated, hnew.known, hnew.recorded,
      hnew.writing, hnew.accounts⟩

end Sys2Proof.Settled
end

section
/-! PROOF of O53. Discharge enable, the drain timer, and the closing timer with no lot waiting (R123, R137, R139, R142). -/

namespace Sys2Proof.Machine

open Sys2Proof

/-! ### SET DISCHARGE ENABLE (R123) -/

/-- The state with discharge enable as given. -/
def State.withEnable (b : Bool) (s : State) : State :=
  { s with permit := { s.permit with enable := b } }

section
variable {s : State}

theorem serveSetDischargeEnable_cleared (h : s.permit.enable = false) : serveSetDischargeEnable 0 s = ok s := by
  simp [serveSetDischargeEnable, h]

theorem serveSetDischargeEnable_clears (h : s.permit.enable = true) :
    serveSetDischargeEnable 0 s = ok (interruptDischarge .disabled (s.withEnable false)) := by
  simp [serveSetDischargeEnable, h, State.withEnable]

theorem serveSetDischargeEnable_stands (h : s.permit.enable = true) : serveSetDischargeEnable 1 s = ok s := by
  simp [serveSetDischargeEnable, h]

theorem serveSetDischargeEnable_sets (h : s.permit.enable = false) :
    serveSetDischargeEnable 1 s = ok (occasion (s.withEnable true)) := by
  simp [serveSetDischargeEnable, h, State.withEnable]

end

/-! ### The drain timer (R139) -/

theorem stopHeld_draining {s : State} (h : s.path.state = .discharge ∨ s.path.state = .polish) (cause : StopCause)
    (reason : HoldReason) : stopHeld cause reason s = stopDrain cause (handBackHeld reason) s := by
  refine if_pos ?_
  rcases h with h | h <;> simp [Path.draining, h]

/-! ### No lot waits (R129) -/

/-- A decision with no lot queued and none in Polish Wait takes none. -/
theorem occasion_noLots {s : State} (hqueue : s.kept.dischargeQueue = []) (hpolish : s.kept.polishWait = []) :
    occasion s = s := by
  have hdecide : decide s = s := by
    simp only [decide, hqueue, List.isEmpty_nil, if_true, polishStep, hpolish]
  unfold occasion
  rw [hdecide, ite_self]

end Sys2Proof.Machine

namespace Sys2Proof.Settled

open Sys2Proof Sys2Proof.Machine

/-- Settles O53: the requests by the enable and the path, and the two timers. -/
theorem drainEnds : Obligations.DrainEnds := by
  intro dt tag s x closing answer
  let clear : Request := .setDischargeEnable 0
  let set : Request := .setDischargeEnable 1
  let y (r : Request) : State := serving dt r.kind s
  refine ⟨fun ready => ⟨fun hoff => ?_, fun hon hpath => ?_, fun t l hon hpath htank hlot => ?_, fun hhold hon => ?_,
    fun hhold hoff hpath => ?_, fun hhold => ?_⟩, fun t l awake due hdrain htank hlot => ?_,
    fun awake due hqueue hpolish => ?_⟩
  · exact congrArg _ (hostRequest_acts dt tag clear s .empty id ready rfl (passesHold s rfl)
      (serveSetDischargeEnable_cleared (s := y clear) hoff) fun _ => rfl)
  · have hs := serveSetDischargeEnable_clears (s := y clear) hon
    rw [interruptDischarge_other (s := (y clear).withEnable false) _ hpath] at hs
    exact congrArg _ (hostRequest_acts dt tag clear s .empty (State.withEnable false) ready rfl (passesHold s rfl) hs
      fun _ => rfl)
  · let z := (y clear).withEnable false
    have hstop : interruptDischarge .disabled z = stopDrain .disabled handBackReturned z := if_pos hpath
    have hcarries : Carries z (interruptDischarge .disabled z) := interruptDischarge_carries z .disabled
    have hz : z.link.rest = (y clear).link.rest := rfl
    have henable : (interruptDischarge .disabled z).permit = z.permit :=
      permit_of_beyondPath (interruptDischarge_beyondPath z _)
    obtain ⟨halike, hreply⟩ := hostRequest_replied (r := clear) (tag := tag) ready rfl (passesHold s rfl)
      (serveSetDischargeEnable_clears (s := y clear) hon) (hcarries.link.trans hz)
    obtain ⟨hstopped, hclosed, hreturned, -⟩ := stopDrain_returned (s := z) htank hlot .disabled
    have hwrites := stopDrain_orders (s := z) hpath .disabled handBackReturned
    rw [← hstop] at hstopped hclosed hreturned hwrites
    generalize interruptDischarge .disabled z = u at halike henable hstopped hclosed hreturned hwrites
    have hpath' := halike.path.trans hstopped
    refine ⟨_, rfl, hreply, ?_, ?_, ?_, ?_, ?_, ?_, ?_⟩
    · exact congrArg PermitRun.enable (halike.permit.trans henable)
    · exact congrArg Path.state hpath'
    · exact congrArg Path.stopCause hpath'
    · exact congrArg Path.closing hpath'
    · exact (congrArg Kept.dischargeQueue halike.kept).trans hreturned
    · exact (congrArg (·.tanks[t].state) halike.kept).trans hclosed
    · rw [halike.store]
      exact hwrites
  · exact congrArg _ (hostRequest_acts dt tag set s .empty id ready rfl (passesNormal _ hhold)
      (serveSetDischargeEnable_stands (s := y set) hon) fun _ => rfl)
  · have hs := serveSetDischargeEnable_sets (s := y set) hoff
    rw [occasion_busy (s := (y set).withEnable true) hpath] at hs
    exact congrArg _ (hostRequest_acts dt tag set s .empty (State.withEnable true) ready rfl (passesNormal _ hhold) hs
      fun _ => rfl)
  · cases hon : s.permit.enable with
    | true =>
      have hs := serveSetDischargeEnable_stands (s := y set) hon
      obtain ⟨halike, hreply⟩ := hostRequest_replied (r := set) (tag := tag) ready rfl (passesNormal _ hhold) hs rfl
      exact ⟨_, rfl, hreply, (congrArg PermitRun.enable halike.permit).trans hon⟩
    | false =>
      let z := (y set).withEnable true
      have hz : z.link.rest = (y set).link.rest := rfl
      obtain ⟨halike, hreply⟩ := hostRequest_replied (r := set) (tag := tag) ready rfl (passesNormal _ hhold)
        (serveSetDischargeEnable_sets (s := y set) hon) ((occasion_carries z).link.trans hz)
      exact ⟨_, rfl, hreply, (congrArg PermitRun.enable halike.permit).trans (occasion_undisturbed z).enable⟩
  · let stopped := stopDrain .drainTimeout (handBackHeld .drainTimeout) x
    have htimed : drainTimedOut x = latch .drainTimeout stopped :=
      congrArg (latch .drainTimeout) (stopHeld_draining (s := x) hdrain _ _)
    have hpath : (latch .drainTimeout stopped).path = _ :=
      (latch_path _ _).trans (stopDrain_held_path (s := x) htank .drainTimeout .drainTimeout)
    have hheld : stopped.lotIn t = some (l.heldFor .drainTimeout) :=
      (stopDrain_held_lotIn (s := x) htank .drainTimeout .drainTimeout).trans (congrArg (Option.map _) hlot)
    refine ⟨latch .drainTimeout stopped, l.heldFor .drainTimeout,
      congrArg Host.Outcome.next ((whenDue_of (s := x) awake due _).trans htimed), ?_, ?_, ?_, ?_, ?_, rfl, rfl, rfl,
      latch_latched _ _, ?_⟩
    · rw [hpath]; rfl
    · rw [hpath]; rfl
    · rw [hpath]; rfl
    · rw [hpath]; rfl
    · rw [State.lotIn, latch_kept]
      exact hheld
    · exact latch_keeps_latched _ (stopDrain_held_latched (s := x) htank _ _ (.inl rfl))
  · obtain ⟨link, hends⟩ := pathEnds_eq x
    have hledger : (pathEnds x).link.rest = x.link.rest := rest_of_ledger (pathEnds_ledger x)
    have hnone : closingExpired x = pathEnds x := by
      refine occasion_noLots ?_ ?_
      · rw [hends]; exact hqueue
      · rw [hends]; exact hpolish
    refine ⟨pathEnds x, congrArg Host.Outcome.next ((whenDue_of (s := x) awake due _).trans hnone), ?_⟩
    refine AlikeButFrames.of_rest (s := pathEnds x) rfl ?_ hledger
    rw [hends]
    rfl

end Sys2Proof.Settled
end

section
/-! PROOF of O2. The part right after reset: no flag, no line, cell or channel is other than at its start, and the store
holds no image (R113, R149, R166, R186). -/

namespace Sys2Proof.Machine

open Sys2Proof

theorem reset_flag (f : Flag) : State.reset.flags[f.index] = FlagRecord.clear :=
  Vector.getElem_replicate f.index.isLt

theorem reset_cell (c : Fin 4) : State.reset.cells[c] = Cell.atStart (CellSettings.default 0) 0 :=
  Vector.getElem_replicate c.isLt

theorem reset_channel (c : Fin 16) : State.reset.channels[c] = Channel.atStart :=
  Vector.getElem_replicate c.isLt

/-- With an empty store, what holds of the fresh content holds throughout. -/
theorem reset_throughout {P : Kept → Prop} (h : P Kept.fresh) : Throughout P State.reset :=
  ⟨h, fun _ hi => (Option.some_ne_none _ hi.symm).elim, fun _ hw => (Option.some_ne_none _ hw.symm).elim⟩

/-- With no flag latched the ALERT output is inactive. -/
theorem reset_alertAgrees : AlertAgrees State.reset := by
  refine Eq.symm (List.any_eq_false.mpr fun f _ => ?_)
  rw [State.latched, reset_flag]
  exact Bool.false_ne_true

theorem reset_cellsAtRest : CellsAtRest State.reset := by
  intro c _
  rw [reset_cell]
  exact ⟨rfl, rfl, rfl⟩

theorem Kept.fresh_residuesInRange : Kept.fresh.residuesInRange := by
  refine ⟨?_, ?_, ?_, ?_, ?_⟩ <;> decide

theorem Kept.fresh_trainBounded : Kept.fresh.trainBounded :=
  ⟨Nat.zero_le 3, List.nodup_nil⟩

end Sys2Proof.Machine

namespace Sys2Proof.Settled

open Sys2Proof Sys2Proof.Machine

/-- Settles O2: the start-up columns, and the invariants at reset. -/
theorem resetState : Obligations.ResetState := by
  refine ⟨⟨rfl, rfl, rfl, fun f => ?_, rfl, rfl, rfl, rfl, rfl, rfl, fun c => ?_, fun c => ?_, rfl, rfl⟩,
    reset_alertAgrees, ⟨Nat.zero_le 8, Nat.zero_le 4⟩, reset_cellsAtRest,
    reset_throughout Kept.fresh_residuesInRange, reset_throughout Kept.fresh_trainBounded,
    reset_throughout Kept.fresh_oneFilling⟩
  · rw [State.latched, reset_flag]
    exact ⟨rfl, rfl⟩
  · rw [reset_channel]
    exact ⟨rfl, rfl⟩
  · rw [reset_cell]
    exact ⟨rfl, rfl⟩

end Sys2Proof.Settled
end

section
/-! PROOF of O52, first part. The decision at the end of a drain: which lot it comes to, the release conditions and the
grant, and the states that its takes leave (R129 to R133, R142, R144). -/

namespace Sys2Proof.Machine

open Sys2Proof

/-! ### The end of a drain (R142) -/

/-- The path once its drain is over. -/
def Path.ended (p : Path) : Path :=
  { p with state := .idle, lot := none, tank := none, use := none, drain := none, closing := none, dropped := none }

/-- The state in which the decision at the end of a drain is made. -/
def State.idled (dt : Micros) (link : Link) (s : State) : State :=
  { s.after dt with path := s.path.ended, link := link }

theorem exec_closingTimer {dt : Micros} {s : State} (awake : s.awake = true)
    (due : timerDue s.path.closing (s.now + dt) = true) (hhold : s.path.hold = false)
    (hstarted : s.path.started = true) :
    ∃ link, exec (.closingTimerExpired dt) s = .next (decide (s.idled dt link)) := by
  obtain ⟨link, hends⟩ := pathEnds_eq (s.after dt)
  have hidled : pathEnds (s.after dt) = s.idled dt link := hends
  have hdecides : occasion (s.idled dt link) = decide (s.idled dt link) := by
    refine if_pos ?_
    simp only [State.idled, Path.ended, hhold, hstarted]
    rfl
  have hexpired : closingExpired (s.after dt) = decide (s.idled dt link) :=
    (congrArg occasion hidled).trans hdecides
  exact ⟨link, congrArg Host.Outcome.next ((whenDue_of (s := s.after dt) awake due _).trans hexpired)⟩

/-! ### The course of a decision (R129) -/

/-- A decision from the queue head on that no head above the limit goes before. -/
def releaseStep (s : State) : State :=
  match s.kept.dischargeQueue, s.usablePermit with
  | n :: _, some p =>
    match s.tankOfLot n with
    | none => polishStep s
    | some t =>
      match s.lotIn t with
      | none => polishStep s
      | some l => judgeRelease t l p s
  | _, _ => polishStep s

theorem decide_eq (s : State) : decide s =
    if s.kept.dischargeQueue.isEmpty then polishStep s
    else releaseStep (judgeHeads (digestCheck id s).kept.dischargeQueue.length (digestCheck id s)) := rfl

section
variable {s : State}

theorem decide_empty (h : s.kept.dischargeQueue = []) : decide s = polishStep s := by
  rw [decide_eq, h]; rfl

theorem decide_queued {n : Nat} {rest : List Nat} (h : s.kept.dischargeQueue = n :: rest) : decide s =
    releaseStep (judgeHeads (digestCheck id s).kept.dischargeQueue.length (digestCheck id s)) := by
  rw [decide_eq, h]; rfl

/-- Without a usable permit no head is judged. -/
theorem judgeHeads_unusable (h : s.usablePermit = none) (k : Nat) : judgeHeads k s = s := by
  cases k with
  | zero => rfl
  | succ k =>
    unfold judgeHeads
    split
    · next hp => rw [h] at hp; cases hp
    · rfl

theorem releaseStep_unusable (h : s.usablePermit = none) : releaseStep s = polishStep s := by
  unfold releaseStep
  split
  · next hp => rw [h] at hp; cases hp
  · rfl

theorem digestCheck_unusable (h : s.usablePermit = none) (tell : State → State) : digestCheck tell s = s := by
  simp only [digestCheck, h]

theorem decide_unusable (h : s.usablePermit = none) : decide s = polishStep s := by
  rw [decide_eq, digestCheck_unusable h, judgeHeads_unusable h, releaseStep_unusable h, ite_self]

section
variable {n : Nat} {rest : List Nat} {p : Permit} {t : Fin 3} {l : Lot}
  (hqueue : s.kept.dischargeQueue = n :: rest) (husable : s.usablePermit = some p)
  (hsound : s.kept.permit.digest = some (digestOf p)) (htank : s.tankOfLot n = some t) (hlot : s.lotIn t = some l)
include hqueue husable hsound htank hlot

/-- A head within the limit is judged for release. -/
theorem decide_within (h : l.concentration.getD 0 ≤ p.limit) : decide s = judgeRelease t l p s := by
  have hheads : judgeHeads (rest.length + 1) s = s := by
    have habove : (s.lotIn t).any (p.limit < ·.concentration.getD 0) = false := by simpa [hlot] using h
    simp only [judgeHeads, hqueue, husable, htank, habove]
    rfl
  rw [decide_queued hqueue, digestCheck_match husable id hsound, hqueue, List.length_cons, hheads]
  simp only [releaseStep, hqueue, husable, htank, hlot]

/-- A head above the limit is moved aside before the next is looked at. -/
theorem decide_above (h : p.limit < l.concentration.getD 0) :
    decide s = releaseStep (judgeHeads rest.length (routeAbove t (dropFromLists n s))) := by
  have hheads : judgeHeads (rest.length + 1) s = judgeHeads rest.length (routeAbove t (dropFromLists n s)) := by
    have habove : (s.lotIn t).any (p.limit < ·.concentration.getD 0) = true := by simpa [hlot] using h
    simp only [judgeHeads, hqueue, husable, htank, habove]
    rfl
  rw [decide_queued hqueue, digestCheck_match husable id hsound, hqueue, List.length_cons, hheads]

end

/-! ### The release conditions and the grant (R130 to R132) -/

theorem releaseOpen_iff {p : Permit} (h : s.usablePermit = some p) : s.releaseOpen = true ↔
    s.clock.running = true ∧ s.permit.windowOpen = true ∧ s.permit.enable = true ∧
      s.startUp.selfTestPassed = true ∧ s.kept.day.unknown = false := by
  simp [State.releaseOpen, h, and_assoc]

theorem allowanceLeft_iff (p : Permit) : s.allowanceLeft p = true ↔ p.reserve + s.kept.day.total.mg < p.cap := by
  refine decide_eq_true_iff.trans ?_
  rw [State.remaining]
  omega

theorem usableAllowance_eq (p : Permit) : s.usableAllowance p = p.cap - s.kept.day.total.mg - p.reserve := by
  simp only [State.usableAllowance, State.remaining]
  omega

theorem grantFor_eq (usable v c : Nat) : grantFor usable v c =
    if v = 0 then if c = 0 then .unbounded else .volume (usable * 1000000 / c)
    else .volume (if c = 0 then v else min v (usable * 1000000 / c)) := by
  unfold grantFor allowanceVolume
  split
  · rfl
  · split <;> rfl

theorem Grant.meets_iff (g : Grant) (minimum v : Nat) : g.meets minimum v = true ↔
    ∀ q, g = .volume q → minimum ≤ q ∨ (0 < v ∧ q = v) := by
  cases g with
  | unbounded => simp [Grant.meets]
  | volume n => simp [Grant.meets]

section
variable {t : Fin 3} {l : Lot} {p : Permit}

theorem judgeRelease_takes (hopen : s.releaseOpen = true) (hleft : s.allowanceLeft p = true)
    (hlimit : l.concentration.getD 0 ≤ p.limit)
    (hmeets : (grantFor (s.usableAllowance p) l.current (l.concentration.getD 0)).meets p.minDischarge l.current = true) :
    judgeRelease t l p s =
      takeDischarge t (grantFor (s.usableAllowance p) l.current (l.concentration.getD 0)) (s.remaining p) s := by
  refine if_pos ?_
  simp [hopen, hleft, hlimit, hmeets]

/-- A release that any of its conditions refuses. -/
theorem judgeRelease_refuses (h : s.releaseOpen = false ∨ s.allowanceLeft p = false ∨
      (grantFor (s.usableAllowance p) l.current (l.concentration.getD 0)).meets p.minDischarge l.current = false) :
    judgeRelease t l p s = polishStep (refuseRelease s p) := by
  refine if_neg ?_
  rcases h with h | h | h <;> simp [h]

theorem refuseRelease_stands (h : s.releaseOpen = false ∨ s.allowanceLeft p = true) : refuseRelease s p = s := by
  refine if_neg ?_
  rcases h with h | h <;> simp [h]

/-- A release for which the allowance alone is wanting (R131). -/
theorem refuseRelease_short (hopen : s.releaseOpen = true) (hleft : s.allowanceLeft p = false) :
    refuseRelease s p = setDayFlags (fun f => { f with capReached := true }) (latch .capReached s) := by
  refine if_pos ?_
  simp [hopen, hleft]

end

/-! ### The polish step (R129) -/

theorem polishStep_none (h : s.kept.polishWait = []) : polishStep s = s := by
  simp only [polishStep, h]

theorem polishStep_inactive (h : ∀ k ∈ s.kept.train, k.exhausted = true) : polishStep s = s := by
  have hnone : hasActive s.kept.train = false := by
    simpa [hasActive] using h
  unfold polishStep
  rw [hnone]
  split <;> rfl

theorem polishStep_takes {n : Nat} {rest : List Nat} {t : Fin 3} (h : s.kept.polishWait = n :: rest)
    (hactive : ∃ k ∈ s.kept.train, k.exhausted = false) (ht : s.tankOfLot n = some t) :
    polishStep s = takePolish t s := by
  simp only [polishStep, h, hasActive_iff.mpr hactive, if_true, ht]

end

/-! ### The takes (R133, R144) -/

/-- The state in which lot `l` of tank `t` is in discharge under a grant. -/
def State.discharging (t : Fin 3) (l : Lot) (grant : Grant) (s : State) : State :=
  ((dropFromLists l.number s).modTank t fun k =>
    { state := .draining, lot := k.lot.map fun l => { l with state := .discharging } }).modPath fun p =>
    { p with
      state := .discharge, lot := some l.number, use := some .discharge, tank := some t, grant := some grant
      passTarget := none, metered := 0, overrun := 0, stopCause := none
      drain := some (s.timer (s.kept.tankSettings[t].drainLimit * sec)) }

/-- The state in which lot `l` of tank `t` is in polish. -/
def State.polishing (t : Fin 3) (l : Lot) (s : State) : State :=
  ((dropFromLists l.number s).modTank t fun k =>
    { state := .draining, lot := k.lot.map fun l => { l with state := .polishing, removalPending := true } }).modPath
    fun p => { p with
      state := .polish, lot := some l.number, use := some .polish, tank := some t, grant := none
      passTarget := some (s.passTarget t l), polishVolume := 0, overrun := 0, stopCause := none
      drain := some (s.timer (s.kept.tankSettings[t].drainLimit * sec)) }

section
variable {s : State} {t : Fin 3} {l : Lot} (hl : s.lotIn t = some l)
include hl

theorem takeDischarge_eq (grant : Grant) (remaining : Int) : ∃ link : Link, takeDischarge t grant remaining s =
    if s.covered (.tankLow t) then { s.discharging t l grant with link := link }
    else runDry { s.discharging t l grant with link := link } := by
  let content : NoticeContent :=
    .startedDischarge l.number t grant remaining (s.discharging t l grant).stamp.day
  have htold : takeDischarge t grant remaining s =
      if s.covered (.tankLow t) then handNotice outletKey content (s.discharging t l grant)
      else runDry (handNotice outletKey content (s.discharging t l grant)) := by
    simp only [takeDischarge, hl]
    rfl
  rw [htold, handNotice_eq]
  exact ⟨_, rfl⟩

theorem takePolish_eq : ∃ link : Link, takePolish t s =
    if s.covered (.tankLow t) then { s.polishing t l with link := link }
    else stopDrain .levelLost (handBackHeld .levelLost) { s.polishing t l with link := link } := by
  let content : NoticeContent := .startedPolish l.number t (s.passTarget t l) (s.polishing t l).stamp.day
  have htold : takePolish t s =
      if s.covered (.tankLow t) then handNotice outletKey content (s.polishing t l)
      else drainLowLost (handNotice outletKey content (s.polishing t l)) := by
    simp only [takePolish, hl]
    rfl
  rw [htold, handNotice_eq]
  exact ⟨_, rfl⟩

theorem discharging_lotIn (grant : Grant) :
    (s.discharging t l grant).lotIn t = some { l with state := .discharging } := by
  have htank : (s.discharging t l grant).kept.tanks[t] = _ := modTank_same (dropFromLists l.number s) t _
  rw [State.lotIn, htank]
  exact congrArg (Option.map fun l : Lot => { l with state := .discharging }) hl

theorem polishing_lotIn :
    (s.polishing t l).lotIn t = some { l with state := .polishing, removalPending := true } := by
  have htank : (s.polishing t l).kept.tanks[t] = _ := modTank_same (dropFromLists l.number s) t _
  rw [State.lotIn, htank]
  exact congrArg (Option.map fun l : Lot => { l with state := .polishing, removalPending := true }) hl

end

theorem discharging_state (t : Fin 3) (l : Lot) (grant : Grant) (s : State) :
    (s.discharging t l grant).kept.tanks[t].state = .draining :=
  congrArg Tank.state (modTank_same (dropFromLists l.number s) t _)

theorem polishing_state (t : Fin 3) (l : Lot) (s : State) : (s.polishing t l).kept.tanks[t].state = .draining :=
  congrArg Tank.state (modTank_same (dropFromLists l.number s) t _)

/-- The head of a list leaves it with every other entry of its number. -/
theorem filter_head (n : Nat) (rest : List Nat) : (n :: rest).filter (· ≠ n) = rest.filter (· ≠ n) := by
  simp

/-! ### The fill selection leaves the queues (R80) -/

/-- The Discharge Queue and Polish Wait. -/
def State.queues (s : State) : List Nat × List Nat :=
  (s.kept.dischargeQueue, s.kept.polishWait)

section
variable (s : State)

theorem enterSettling_queues (t : Fin 3) : (enterSettling t s).queues = s.queues := by
  have hwait (u : State) : (enterSampleWait t u).queues = u.queues := by
    unfold enterSampleWait; split <;> rfl
  have htest (u : State) : (samplerTest u).queues = u.queues := by
    rcases samplerTest_cases u with h | ⟨_, _, _, _, _, h⟩ <;> rw [h]
    rfl
  unfold enterSettling
  split
  · rfl
  · dsimp only
    split
    · exact (htest _).trans (hwait _)
    · rfl

theorem pumpJudge_queues : (pumpJudge s).queues = s.queues := by
  simp only [State.queues, pumpJudge_kept]

theorem closeSteps_queues (t : Fin 3) (byHigh : Bool) : (closeSteps t byHigh s).queues = s.queues := by
  have hevent (u : State) : (lotEvent .closed t u).queues = u.queues := by rw [lotEvent_link]; rfl
  exact ((pumpJudge_queues _).trans (hevent _)).trans (enterSettling_queues (closed t byHigh s) t)

theorem fillSelection_queues : (fillSelection s).queues = s.queues := by
  have hturns (k : Nat) (u : State) : (fillTurns k u).queues = u.queues := by
    induction k generalizing u with
    | zero => rfl
    | succ k ih =>
      have hopen (v : Fin 3) : (openLot v u).queues = u.queues := pumpJudge_queues _
      unfold fillTurns
      split
      · rfl
      · split
        · rfl
        · dsimp only
          split
          · rw [pumpJudge_queues, ih, closeSteps_queues, hopen]
          · exact hopen _
  exact hturns 3 s

end

end Sys2Proof.Machine
end

section
/-! PROOF of O52, second part. A discharge that is taken, that drains at once, or that is refused, and a polish that loses
its level at once (R130 to R133, R136, R144, R146). -/

namespace Sys2Proof.Machine

open Sys2Proof

/-! ### The head of the queue (R130 to R132) -/

section
variable {s : State} {n : Nat} {rest : List Nat} {p : Permit} {t : Fin 3} {l : Lot}
  (hqueue : s.kept.dischargeQueue = n :: rest) (husable : s.usablePermit = some p)
  (hsound : s.kept.permit.digest = some (digestOf p)) (htank : s.tankOfLot n = some t) (hlot : s.lotIn t = some l)
  (hlimit : l.concentration.getD 0 ≤ p.limit)
include hqueue husable hsound htank hlot hlimit

/-- A head for which every release condition holds is taken for discharge. -/
theorem decide_discharges (hopen : s.releaseOpen = true) (hleft : s.allowanceLeft p = true)
    (hmeets : (grantFor (s.usableAllowance p) l.current (l.concentration.getD 0)).meets p.minDischarge l.current = true) :
    ∃ link : Link, decide s =
      let taken : State :=
        { s.discharging t l (grantFor (s.usableAllowance p) l.current (l.concentration.getD 0)) with link := link }
      if s.covered (.tankLow t) then taken else runDry taken := by
  rw [decide_within hqueue husable hsound htank hlot hlimit, judgeRelease_takes hopen hleft hlimit hmeets]
  exact takeDischarge_eq hlot _ _

/-- A head that a release condition refuses, with no lot in Polish Wait. -/
theorem decide_refuses (hpolish : s.kept.polishWait = [])
    (h : s.releaseOpen = false ∨ s.allowanceLeft p = false ∨
      (grantFor (s.usableAllowance p) l.current (l.concentration.getD 0)).meets p.minDischarge l.current = false) :
    decide s = refuseRelease s p := by
  have hwait : (refuseRelease s p).kept.polishWait = [] := by
    unfold refuseRelease
    split
    · simp only [setDayFlags, State.modDay, State.modKept, latch_kept, hpolish]
    · exact hpolish
  rw [decide_within hqueue husable hsound htank hlot hlimit, judgeRelease_refuses h, polishStep_none hwait]

end

/-! ### A discharge that is dry at its take (R136) -/

section
variable {s : State} {t : Fin 3} {l : Lot} (hl : s.lotIn t = some l) (grant : Grant) (link : Link)
include hl

/-- The discharge has drained: its grant stands unmetered, its lot is recorded with its volume short, and nothing is
booked. -/
theorem discharging_runsDry :
    let taken : State := { s.discharging t l grant with link := link }
    (runDry taken).path.lot = some l.number ∧ (runDry taken).path.grant = some grant ∧
      (runDry taken).path.metered = 0 ∧
      (runDry taken).kept.dischargeQueue = s.kept.dischargeQueue.filter (· ≠ l.number) ∧
      (runDry taken).kept.accounts = s.kept.accounts ∧
      (runDry taken).kept.history =
        appendBounded 16 s.kept.history (l.ranDry.record t .discharged s.stamp 0 false) := by
  intro taken
  have hlot : taken.lotIn t = some { l with state := .discharging } := discharging_lotIn hl grant
  have hpath : taken.path.tank = some t := rfl
  obtain ⟨hhistory, -⟩ := runDry_history hpath hlot
  obtain ⟨_, link', hdry⟩ := runDry_eq hpath hlot
  let left : State :=
    { withDischarged t { l with state := .discharging }.ranDry
        ((taken.modLot t Lot.ranDry).modPath (·.stopped .drained)) with link := link' }
  have hqueue : (runDry taken).kept.dischargeQueue = taken.kept.dischargeQueue := by
    have hkept : (runDry taken).kept = (fillSelection left).kept := by rw [hdry]
    rw [hkept]
    exact congrArg Prod.fst (fillSelection_queues left)
  have hbooks : (runDry taken).kept.books = taken.kept.books := (runDry_carries taken).books
  refine ⟨?_, ?_, ?_, hqueue, accounts_of_books hbooks, hhistory⟩ <;> rw [hdry] <;> rfl

end

/-! ### A polish that loses its level at its take (R146) -/

section
variable {s : State} {t : Fin 3}

/-- A stop with the lot held leaves the lists of the lots. -/
theorem stopDrain_held_polishWait (hat : s.path.tank = some t) (cause : StopCause) (reason : HoldReason) :
    (stopDrain cause (handBackHeld reason) s).kept.polishWait = s.kept.polishWait := by
  have htank : (s.modPath (·.stopped cause)).path.tank = some t := hat
  rw [stopDrain_kept, handBack_of htank, handBackHeld, enterHeld_kept]
  rfl

end

end Sys2Proof.Machine
end

section
/-! PROOF of O52, third part. A lot that a decision has moved aside, beside the lots that the decision comes to after it:
it stays in its tank, out of the Discharge Queue (R129). -/

namespace Sys2Proof.Machine

open Sys2Proof

/-- A tank that a number names holds a lot of that number. -/
theorem numbered_of_tankOfLot {s : State} {n : Nat} {u : Fin 3} (hn : s.tankOfLot n = some u) :
    ∃ m, s.lotIn u = some m ∧ m.number = n := by
  rw [State.tankOfLot] at hn
  have hany := List.find?_some hn
  rw [Option.any_eq_true] at hany
  obtain ⟨m, hm, hnumber⟩ := hany
  exact ⟨m, hm, of_decide_eq_true hnumber⟩

/-- Lot `l`, moved aside in tank `t`, is in no queue; it goes to polish, or its hold is flagged and it waits for none. -/
structure Aside (t : Fin 3) (l : Lot) (s : State) : Prop where
  tank : Unawaited t l s
  unqueued : l.number ∉ s.kept.dischargeQueue
  course : l.state = .polishWait ∨ (l.number ∉ s.kept.polishWait ∧ s.latched .lotHeld = true)

/-- What the decision leaves of a lot that it has moved aside: it is as it was, or its polish has begun. -/
def LeftAside (t : Fin 3) (l : Lot) (s : State) : Prop :=
  ∃ l', s.lotIn t = some l' ∧ l.number ∉ s.kept.dischargeQueue ∧
    (l' = l ∧ (l.state = .polishWait ∨ s.latched .lotHeld = true) ∨
      l.state = .polishWait ∧ l' = { l with state := .polishing, removalPending := true })

section
variable {t u : Fin 3} {l m : Lot} {s x : State} (h : Aside t l s)
include h

theorem Aside.left : LeftAside t l s :=
  ⟨l, h.tank.lot, h.unqueued, .inl ⟨rfl, h.course.imp_right And.right⟩⟩

/-- What leaves the tank, joins the lot to no list and clears no flag. -/
theorem Aside.mono (htank : x.kept.tanks[t] = s.kept.tanks[t])
    (hsample : l.number ∈ x.kept.sampleWait → l.number ∈ s.kept.sampleWait)
    (hqueue : l.number ∈ x.kept.dischargeQueue → l.number ∈ s.kept.dischargeQueue)
    (hpolish : l.number ∈ x.kept.polishWait → l.number ∈ s.kept.polishWait)
    (hflag : s.latched .lotHeld = true → x.latched .lotHeld = true) : Aside t l x where
  tank := {
    state := by rw [htank]; exact h.tank.state
    lot := by rw [State.lotIn, htank]; exact h.tank.lot
    list := mt hsample h.tank.list }
  unqueued := mt hqueue h.unqueued
  course := h.course.imp_right fun ⟨hwait, hheld⟩ => ⟨mt hpolish hwait, hflag hheld⟩

theorem Aside.of_kept (hkept : x.kept = s.kept) (hflag : s.latched .lotHeld = true → x.latched .lotHeld = true) :
    Aside t l x := by
  refine h.mono ?_ ?_ ?_ ?_ hflag
  · rw [hkept]
  all_goals rw [hkept]; exact id

theorem Aside.modTank (hu : u ≠ t) (f : Tank → Tank) : Aside t l (s.modTank u f) :=
  h.mono (modTank_other s f hu) id id id id

theorem Aside.handNotice (key : Fin 33) (content : NoticeContent) : Aside t l (handNotice key content s) :=
  h.of_kept (handNotice_kept s key content) fun hf => by rw [State.latched, handNotice_flags]; exact hf

theorem Aside.latch (f : Flag) : Aside t l (latch f s) :=
  h.of_kept (latch_kept s f) (latch_keeps_latched f)

theorem Aside.lotEvent (kind : LotEventKind) (v : Fin 3) : Aside t l (lotEvent kind v s) :=
  h.of_kept (lotEvent_kept kind v s) fun hf => by rw [lotEvent_link]; exact hf

theorem Aside.dropFromLists (n : Nat) : Aside t l (dropFromLists n s) :=
  h.mono rfl List.mem_of_mem_filter List.mem_of_mem_filter List.mem_of_mem_filter id

theorem Aside.fillSelection : Aside t l (fillSelection s) where
  tank := h.tank.fillSelection
  unqueued := by
    rw [show (Machine.fillSelection s).kept.dischargeQueue = _ from congrArg Prod.fst (fillSelection_queues s)]
    exact h.unqueued
  course := h.course.imp_right fun ⟨hwait, hheld⟩ => by
    rw [show (Machine.fillSelection s).kept.polishWait = _ from congrArg Prod.snd (fillSelection_queues s)]
    exact ⟨hwait, (fillSelection_steps (unopened_any s)).flags hheld⟩

/-- A stop leaves it aside when its handing back does. -/
theorem Aside.stopDrain (cause : StopCause) {how : Fin 3 → State → State}
    (hhow : ∀ x, Aside t l x → Aside t l (how u x)) (hat : s.path.tank = some u) :
    Aside t l (stopDrain cause how s) := by
  have hstopped : Aside t l (s.modPath (·.stopped cause)) := h.of_kept rfl id
  obtain ⟨_, heq⟩ := stopDrain_eq cause how s
  rw [heq, handBack_of (s := s.modPath (·.stopped cause)) hat]
  exact (hhow _ hstopped).of_kept rfl id

section
variable (hu : u ≠ t)
include hu

theorem Aside.enterHeld (reason : HoldReason) : Aside t l (enterHeld u reason s) :=
  (((h.modTank hu _).lotEvent .held u).latch .lotHeld)

theorem Aside.handBackHeld (reason : HoldReason) : Aside t l (handBackHeld reason u s) :=
  (h.modTank hu _).enterHeld hu reason

theorem Aside.handBackDrained : Aside t l (handBackDrained u s) := by
  have hleft : Aside t l (leaveTable u .discharged 0 false s) := by
    unfold leaveTable
    split
    · exact h
    · dsimp only [handLotEvent]
      refine Aside.handNotice ?_ _ _
      exact h.mono (modAt_other s.kept.tanks u t _ hu) id id id id
  exact (hleft.modTank hu _).fillSelection

variable (hm : s.lotIn u = some m) (hnumber : l.number ≠ m.number)
include hm hnumber

/-- Another lot above the limit is moved aside. -/
theorem Aside.routeAbove : Aside t l (routeAbove u s) := by
  let cleared := s.modLot u fun l => { l with hostPass := false }
  have hcleared : Aside t l cleared := h.modTank hu _
  have hlot : cleared.lotIn u = some { m with hostPass := false } := cleared_lotIn hm
  have hwaits : Aside t l (enterPolishWait u cleared) := by
    simp only [enterPolishWait, hlot]
    refine (hcleared.modTank hu _).mono rfl id id (fun hmem => ?_) id
    rcases List.mem_append.mp hmem with hlisted | hlast
    · exact hlisted
    · exact absurd (List.mem_singleton.mp hlast) hnumber
  simp only [Machine.routeAbove, hm]
  split
  · exact hwaits
  · exact hcleared.enterHeld hu _

omit hnumber in
theorem Aside.takeDischarge (grant : Grant) (remaining : Int) : Aside t l (takeDischarge u grant remaining s) := by
  have htaken (link : Link) : Aside t l { s.discharging u m grant with link := link } :=
    ((h.dropFromLists m.number).modTank hu _).of_kept rfl id
  obtain ⟨link, heq⟩ := takeDischarge_eq hm grant remaining
  rw [heq]
  split
  · exact htaken link
  · rw [runDry_stops (s := { s.discharging u m grant with link := link }) rfl]
    exact ((htaken link).modTank hu _).stopDrain .drained (fun _ hx => hx.handBackDrained hu) rfl

omit hnumber in
theorem Aside.takePolish : Aside t l (takePolish u s) := by
  have htaken (link : Link) : Aside t l { s.polishing u m with link := link } :=
    ((h.dropFromLists m.number).modTank hu _).of_kept rfl id
  obtain ⟨link, heq⟩ := takePolish_eq hm
  rw [heq]
  split
  · exact htaken link
  · exact (htaken link).stopDrain .levelLost (fun _ hx => hx.handBackHeld hu _) rfl

end

/-- A lot of another number is in another tank. -/
theorem Aside.other {n : Nat} (hn : s.tankOfLot n = some u) (hne : n ≠ l.number) : u ≠ t := by
  rintro rfl
  exact hne (number_of_tankOfLot hn h.tank.lot).symm

theorem Aside.judgeHeads (k : Nat) : Aside t l (judgeHeads k s) := by
  induction k generalizing s with
  | zero => exact h
  | succ k ih =>
    unfold Machine.judgeHeads
    split
    next n rest p hqueue _ =>
      split
      · exact h
      next u hn =>
        split
        · have hne : n ≠ l.number := fun he => h.unqueued (by rw [hqueue, ← he]; exact List.mem_cons_self)
          obtain ⟨m, hm, hnumber⟩ := numbered_of_tankOfLot hn
          exact ih ((h.dropFromLists n).routeAbove (m := m) (h.other hn hne) hm (by rw [hnumber]; exact hne.symm))
        · exact h
    · exact h

/-- The polish of the lot itself begins. -/
theorem Aside.takePolish_self (hgoes : l.state = .polishWait) (hcovered : s.covered (.tankLow t) = true) :
    LeftAside t l (Machine.takePolish t s) := by
  obtain ⟨link, heq⟩ := takePolish_eq h.tank.lot
  rw [heq, if_pos hcovered]
  exact ⟨_, polishing_lotIn h.tank.lot, mt List.mem_of_mem_filter h.unqueued, .inr ⟨hgoes, rfl⟩⟩

/-- The polish step takes another lot, or begins the polish of this one. -/
theorem Aside.polishStep (hcovered : s.covered (.tankLow t) = true) : LeftAside t l (polishStep s) := by
  unfold Machine.polishStep
  split
  · exact h.left
  next n rest hwait =>
    split
    · split
      · exact h.left
      next u hn =>
        obtain ⟨m, hm, hnumber⟩ := numbered_of_tankOfLot hn
        by_cases hu : u = t
        · subst hu
          have hlisted : l.number ∈ s.kept.polishWait := by
            rw [number_of_tankOfLot hn h.tank.lot, hwait]
            exact List.mem_cons_self
          exact h.takePolish_self (h.course.resolve_right fun ⟨hnot, _⟩ => hnot hlisted) hcovered
        · exact (h.takePolish hu hm).left
    · exact h.left

theorem Aside.refuseRelease (p : Permit) : Aside t l (refuseRelease s p) := by
  unfold Machine.refuseRelease
  split
  · exact (h.latch .capReached).mono rfl id id id id
  · exact h

theorem Aside.judgeRelease (hu : u ≠ t) (hm : s.lotIn u = some m) (p : Permit)
    (hcovered : s.covered (.tankLow t) = true) : LeftAside t l (judgeRelease u m p s) := by
  unfold Machine.judgeRelease
  dsimp only
  split
  · exact (h.takeDischarge hu hm _ _).left
  · refine (h.refuseRelease p).polishStep ?_
    rw [covered_of_fixed (refuseRelease_fixed s p)]
    exact hcovered

/-- The rest of the decision comes to other lots in the queue. -/
theorem Aside.releaseStep (hcovered : s.covered (.tankLow t) = true) : LeftAside t l (releaseStep s) := by
  unfold Machine.releaseStep
  split
  next n rest p hqueue _ =>
    have hne : n ≠ l.number := fun he => h.unqueued (by rw [hqueue, ← he]; exact List.mem_cons_self)
    split
    · exact h.polishStep hcovered
    next u hn =>
      split
      · exact h.polishStep hcovered
      next m hm => exact h.judgeRelease (h.other hn hne) hm p hcovered
  · exact h.polishStep hcovered

end

/-! ### The head that is moved aside (R129, R91) -/

/-- A number that a list has dropped is not in it. -/
theorem not_mem_dropped (n : Nat) (list : List Nat) : n ∉ list.filter (· ≠ n) := by
  simp

/-- A change of the lot leaves its tank CLOSED. -/
theorem routed_closed {s : State} {t : Fin 3} (h : s.kept.tanks[t].state = .closed) (f : Lot → Lot) :
    (s.modLot t f).kept.tanks[t].state = .closed :=
  (congrArg Tank.state (modTank_same s t _)).trans h

section
variable {s : State} {n : Nat} {t : Fin 3} {l : Lot} (htank : s.tankOfLot n = some t) (hlot : s.lotIn t = some l)
  (hclosed : s.kept.tanks[t].state = .closed)
include htank hlot hclosed

/-- With passes left, or a host pass asked for, the lot goes to polish. -/
theorem routeAbove_aside_polish (hpasses : l.passes < s.kept.plant.maxPasses ∨ l.hostPass = true) :
    Aside t (l.routed .polishWait none) (routeAbove t (dropFromLists n s)) := by
  obtain rfl := number_of_tankOfLot htank hlot
  let dropped := dropFromLists l.number s
  rw [routeAbove_polish (s := dropped) hlot hpasses]
  exact {
    tank := {
      state := ne_of_eq_of_ne (routed_closed (s := dropped) hclosed _) nofun
      lot := modLot_routed (s := dropped) hlot _ _
      list := not_mem_dropped _ _ }
    unqueued := not_mem_dropped _ _
    course := .inl rfl }

/-- With no pass left, the lot is held. -/
theorem routeAbove_aside_held (hpasses : s.kept.plant.maxPasses ≤ l.passes) (hhost : l.hostPass = false) :
    Aside t (l.routed .held (some .polishExhausted)) (routeAbove t (dropFromLists n s)) := by
  obtain rfl := number_of_tankOfLot htank hlot
  let dropped := dropFromLists l.number s
  obtain ⟨link, heq⟩ := routeAbove_held (s := dropped) hlot hpasses hhost
  let routed : State := { dropped.modLot t (·.routed .held (some .polishExhausted)) with link := link }
  have hkept : (routeAbove t dropped).kept = routed.kept := by rw [heq]; exact latch_kept routed _
  exact {
    tank := {
      state := by
        rw [hkept]
        exact ne_of_eq_of_ne (routed_closed (s := dropped) hclosed _) nofun
      lot := by
        rw [State.lotIn, hkept]
        exact modLot_routed (s := dropped) hlot _ _
      list := by rw [hkept]; exact not_mem_dropped _ _ }
    unqueued := by rw [hkept]; exact not_mem_dropped _ _
    course := .inr ⟨by rw [hkept]; exact not_mem_dropped _ _, by rw [heq]; exact latch_latched _ routed⟩ }

end

end Sys2Proof.Machine
end

section
/-! PROOF of O52, fourth part. A head above the limit, a permit found corrupt at the decision, and the assembled statement
(R110, R129). -/

namespace Sys2Proof.Machine

open Sys2Proof

section
variable {s : State} {n : Nat} {rest : List Nat} {p : Permit} {t : Fin 3} {l : Lot}
  (hqueue : s.kept.dischargeQueue = n :: rest) (husable : s.usablePermit = some p)
  (hsound : s.kept.permit.digest = some (digestOf p)) (htank : s.tankOfLot n = some t) (hlot : s.lotIn t = some l)
  (habove : p.limit < l.concentration.getD 0) (hcovered : s.covered (.tankLow t) = true)
include hqueue husable hsound htank hlot habove hcovered

/-- What the decision leaves of a head that its route moves aside. -/
theorem decide_leavesAside {l' : Lot} (h : Aside t l' (routeAbove t (dropFromLists n s))) :
    LeftAside t l' (decide s) := by
  rw [decide_above hqueue husable hsound htank hlot habove]
  refine (h.judgeHeads rest.length).releaseStep ?_
  rw [covered_of_fixed ((judgeHeads_fixed _ rest.length).trans (routeAbove_fixed _ t))]
  exact hcovered

variable (hclosed : s.kept.tanks[t].state = .closed)
include hclosed

/-- A head above the limit, moved aside: to Polish Wait, and perhaps to its polish, or to HELD (R91, R129). -/
theorem decide_movesAside : ∃ l', (decide s).lotIn t = some l' ∧ l'.number = n ∧ l'.hostPass = false ∧
    l'.current = l.current ∧ n ∉ (decide s).kept.dischargeQueue ∧
    (l.passes < s.kept.plant.maxPasses ∨ l.hostPass = true → l'.state = .polishWait ∨ l'.state = .polishing) ∧
    (s.kept.plant.maxPasses ≤ l.passes → l.hostPass = false →
      l'.state = .held ∧ l'.holdReason = some .polishExhausted ∧ (decide s).latched .lotHeld = true) := by
  have hnumber := number_of_tankOfLot htank hlot
  have hleaves {l' : Lot} := decide_leavesAside hqueue husable hsound htank hlot habove hcovered (l' := l')
  by_cases hpasses : l.passes < s.kept.plant.maxPasses ∨ l.hostPass = true
  · have hnot (hall : s.kept.plant.maxPasses ≤ l.passes) (hhost : l.hostPass = false) : False := by
      rcases hpasses with h | h
      · exact absurd h (Nat.not_lt.mpr hall)
      · exact Bool.false_ne_true (hhost.symm.trans h)
    obtain ⟨l', hl', hqueued, ⟨rfl, -⟩ | ⟨-, rfl⟩⟩ := hleaves (routeAbove_aside_polish htank hlot hclosed hpasses)
    · exact ⟨_, hl', hnumber, rfl, rfl, hnumber ▸ hqueued, fun _ => .inl rfl, fun h h' => (hnot h h').elim⟩
    · exact ⟨_, hl', hnumber, rfl, rfl, hnumber ▸ hqueued, fun _ => .inr rfl, fun h h' => (hnot h h').elim⟩
  · obtain ⟨hall, hhost⟩ := not_or.mp hpasses
    obtain ⟨l', hl', hqueued, ⟨rfl, hflag⟩ | ⟨hgoes, -⟩⟩ := hleaves (routeAbove_aside_held htank hlot hclosed
      (Nat.not_lt.mp hall) (Bool.not_eq_true _ ▸ hhost))
    · exact ⟨_, hl', hnumber, rfl, rfl, hnumber ▸ hqueued, fun h => absurd h hpasses,
        fun _ _ => ⟨rfl, rfl, hflag.resolve_left nofun⟩⟩
    · cases hgoes

end

/-! ### A permit found corrupt at the decision (R110) -/

section
variable {s : State} {n : Nat} {rest : List Nat} {p : Permit} (hqueue : s.kept.dischargeQueue = n :: rest)
  (husable : s.usablePermit = some p) (hbad : s.kept.permit.digest ≠ some (digestOf p))
include hqueue husable hbad

/-- With no pending permit the decision comes to the polish step. -/
theorem decide_corrupt (hnext : s.kept.permit.next = none) : decide s = polishStep (foundCorrupt s) := by
  have hnone : (foundCorrupt s).usablePermit = none :=
    usablePermit_eq_none (.inl (by rw [foundCorrupt_keptPermit]))
  rw [decide_queued hqueue, digestCheck_corrupt husable id hbad hnext, judgeHeads_unusable hnone,
    releaseStep_unusable hnone]

/-- A pending permit is in force after the decision. -/
theorem decide_activates {q : Permit} (hnext : s.kept.permit.next = some q) :
    InForce q (foundCorrupt s) (decide s) := by
  have hpending : (foundCorrupt s).kept.permit.next = some q := by rw [foundCorrupt_keptPermit]; exact hnext
  refine (activate_inForce (tell := id) hpending fun _ _ => rfl).of_beyondPath ?_
  rw [decide_beyondPath, hqueue, ← digestCheck_mismatch husable id hbad]
  rfl

end

/-- On a path that is not in discharge, a permit found corrupt changes of the kept state its mark and the day flag. -/
theorem foundCorrupt_keptAtRest {s : State} (h : s.path.state ≠ .discharge) : (foundCorrupt s).kept =
    { s.kept with
      permit := { s.kept.permit with corrupt := true }
      day := { s.kept.day with flags := { s.kept.day.flags with permitCorrupt := true } } } := by
  rw [foundCorrupt_kept, interruptDischarge_other (s := s.marked) _ h]
  rfl

end Sys2Proof.Machine

namespace Sys2Proof.Settled

open Sys2Proof Sys2Proof.Machine

/-- Settles O52: the head within the limit, the head above it, the permit at the decision, and the polish step. -/
theorem releaseJudged : Obligations.ReleaseJudged := by
  intro dt s n rest t l awake due hhold hstarted htank hlot c day i drain
  obtain ⟨link, hexec⟩ := exec_closingTimer awake due hhold hstarted
  obtain rfl := number_of_tankOfLot htank hlot
  let y := s.idled dt link
  have hylot : y.lotIn t = some l := hlot
  have hyidle : y.path.state ≠ .discharge := nofun
  refine ⟨fun p hqueue husable hsound hlimit => ?_, fun p hqueue husable hsound habove hclosed hcovered => ?_,
    fun hqueue hpolish => ⟨fun hnone => ?_, fun p husable hbad hnext => ?_, fun p q husable hbad hnext => ?_⟩,
    fun hnone hpolish => ?_⟩
  · intro opened allowance grant
    have hopened : y.releaseOpen = true ↔ opened := releaseOpen_iff (s := y) husable
    have hleft : y.allowanceLeft p = true ↔ p.reserve + day.total.mg < p.cap := allowanceLeft_iff (s := y) p
    have hgrant : grantFor (y.usableAllowance p) l.current c = grant := by
      rw [usableAllowance_eq, grantFor_eq]
      rfl
    have hmeets : (grantFor (y.usableAllowance p) l.current c).meets p.minDischarge l.current = true ↔
        ∀ v, grant = .volume v → p.minDischarge ≤ v ∨ (0 < l.current ∧ v = l.current) := by
      rw [hgrant]
      exact grant.meets_iff _ _
    have htaken (ho : opened) (hl : p.reserve + day.total.mg < p.cap)
        (hm : ∀ v, grant = .volume v → p.minDischarge ≤ v ∨ (0 < l.current ∧ v = l.current)) :
        ∃ link, decide y =
          let taken : State := { y.discharging t l grant with link := link }
          if y.covered (.tankLow t) then taken else runDry taken := by
      have := decide_discharges (s := y) hqueue husable hsound htank hylot hlimit (hopened.mpr ho) (hleft.mpr hl)
        (hmeets.mpr hm)
      rwa [hgrant] at this
    have hrefused (hpolish : s.kept.polishWait = []) (h : y.releaseOpen = false ∨ y.allowanceLeft p = false ∨
        (grantFor (y.usableAllowance p) l.current c).meets p.minDischarge l.current = false) :
        exec i s = .next (refuseRelease y p) :=
      hexec.trans (congrArg _ (decide_refuses (s := y) hqueue husable hsound htank hylot hlimit hpolish h))
    refine ⟨fun ho hl hcovered hm => ?_, fun ho hl hdry hm => ?_, fun hpolish => ⟨fun ho hl hm => ?_, fun ho hl => ?_,
      fun ho => ?_⟩⟩
    · obtain ⟨link', hdecide⟩ := htaken ho hl hm
      have hwet : y.covered (.tankLow t) = true := hcovered
      simp only [hwet, if_true] at hdecide
      refine ⟨_, { l with state := .discharging }, hexec.trans (congrArg _ hdecide), rfl,
        discharging_state t l grant y, discharging_lotIn hylot grant, rfl, rfl, ?_, rfl, rfl⟩
      exact (congrArg (List.filter (· ≠ l.number)) hqueue).trans (filter_head _ rest)
    · obtain ⟨link', hdecide⟩ := htaken ho hl hm
      have hlow : y.covered (.tankLow t) = false := hdry
      simp only [hlow, Bool.false_eq_true, if_false] at hdecide
      let taken : State := { y.discharging t l grant with link := link' }
      obtain ⟨hstate, hcause, hdrain, hclosing⟩ := runDry_path (s := taken) rfl (discharging_lotIn hylot grant)
      obtain ⟨hnumber, hgranted, hmetered, hleaves, haccounts, hhistory⟩ := discharging_runsDry hylot grant link'
      refine ⟨_, hexec.trans (congrArg _ hdecide), hstate, hcause, hdrain, hclosing, hnumber, hgranted, hmetered, ?_,
        haccounts, hhistory⟩
      exact hleaves.trans ((congrArg (List.filter (· ≠ l.number)) hqueue).trans (filter_head _ rest))
    · obtain ⟨v, hv, hlow, hnot⟩ := hm
      have hfails : ¬(grantFor (y.usableAllowance p) l.current c).meets p.minDischarge l.current = true := fun h =>
        (hmeets.mp h v hv).elim (fun hge => absurd hlow (Nat.not_lt.mpr hge)) hnot
      refine ⟨y, ?_, rfl, rfl, rfl⟩
      rw [hrefused hpolish (.inr (.inr (Bool.not_eq_true _ ▸ hfails))), refuseRelease_stands (.inr (hleft.mpr hl))]
    · have hshort : y.allowanceLeft p = false :=
        Bool.eq_false_iff.mpr (mt hleft.mp (Nat.not_lt.mpr hl))
      have hflagged := refuseRelease_short (p := p) (hopened.mpr ho) hshort
      refine ⟨setDayFlags (fun f => { f with capReached := true }) (latch .capReached y), ?_, ?_, ?_, ?_⟩
      · rw [hrefused hpolish (.inr (.inl hshort)), hflagged]
      · exact congrArg Path.state (latch_path y .capReached)
      · exact latch_latched .capReached y
      · exact congrArg (fun k : Kept => { k with day := { k.day with flags := { k.day.flags with capReached := true } } })
          (latch_kept y .capReached)
    · have hshut : y.releaseOpen = false := Bool.eq_false_iff.mpr (mt hopened.mp ho)
      refine ⟨y, ?_, rfl, rfl, rfl⟩
      rw [hrefused hpolish (.inl hshut), refuseRelease_stands (.inl hshut)]
  · obtain ⟨l', haside⟩ := decide_movesAside (s := y) hqueue husable hsound htank hylot habove hcovered hclosed
    exact ⟨_, l', hexec, haside⟩
  · refine ⟨y, ?_, rfl, rfl, rfl⟩
    rw [hexec, decide_unusable (s := y) hnone, polishStep_none (s := y) hpolish]
  · have hkept := foundCorrupt_keptAtRest (s := y) hyidle
    have hdecide : decide y = foundCorrupt y := by
      rw [decide_corrupt (s := y) hqueue husable hbad hnext, polishStep_none (by rw [hkept]; exact hpolish)]
    refine ⟨foundCorrupt y, hexec.trans (congrArg _ hdecide), ?_, foundCorrupt_latched y, foundCorrupt_permit y, hkept⟩
    rw [foundCorrupt_path, interruptDischarge_other (s := y.marked) _ hyidle]
    rfl
  · have hforce := decide_activates (s := y) hqueue husable hbad hnext
    refine ⟨_, hexec, hforce.cleared, ?_, hforce.dayStart, hforce.permit⟩
    rw [hforce.dayFlag, foundCorrupt_dayFlags]
  · have hstep : decide y = polishStep y :=
      hnone.elim (fun h => decide_empty (s := y) h) fun h => decide_unusable (s := y) h
    have htakes (hactive : ∃ k ∈ s.kept.train, k.exhausted = false) : exec i s = .next (takePolish t y) := by
      rw [hexec, hstep, polishStep_takes (s := y) hpolish hactive htank]
    have hlist : (l.number :: rest).filter (· ≠ l.number) = rest.filter (· ≠ l.number) := filter_head _ rest
    obtain ⟨link', htake⟩ := takePolish_eq hylot
    let taken : State := { y.polishing t l with link := link' }
    have hwaits : taken.kept.polishWait = rest.filter (· ≠ l.number) :=
      (congrArg (List.filter (· ≠ l.number)) hpolish).trans hlist
    refine ⟨fun hactive hdry => ?_, fun hactive hcovered => ?_, fun hnone => ?_⟩
    · have hlow : ¬y.covered (.tankLow t) = true := Bool.eq_false_iff.mp hdry
      have hat : taken.path.tank = some t := rfl
      let stopped := stopDrain .levelLost (handBackHeld .levelLost) taken
      have hpath : stopped.path = _ := stopDrain_held_path hat .levelLost .levelLost
      have hheld : stopped.lotIn t = _ := (stopDrain_held_lotIn hat .levelLost .levelLost).trans
        (congrArg (Option.map (·.heldFor .levelLost)) (polishing_lotIn hylot))
      have hbooks : stopped.kept.books = taken.kept.books := (stopDrain_held_carries _ _ taken).books
      refine ⟨stopped, _, ?_, ?_, ?_, ?_, ?_, (stopDrain_held_polishWait hat _ _).trans hwaits,
        accounts_of_books hbooks, hheld, rfl, rfl, rfl, stopDrain_held_latched hat _ _ (.inl rfl)⟩
      · rw [htakes hactive, htake, if_neg hlow]
      all_goals rw [hpath]; rfl
    · have hwet : y.covered (.tankLow t) = true := hcovered
      refine ⟨taken, { l with state := .polishing, removalPending := true }, ?_, rfl, polishing_state t l y,
        polishing_lotIn hylot, rfl, rfl, rfl, rfl, hwaits, rfl, rfl⟩
      rw [htakes hactive, htake, if_pos hwet]
    · refine ⟨y, ?_, rfl, rfl, rfl⟩
      rw [hexec, hstep, polishStep_inactive (s := y) hnone]

end Sys2Proof.Settled
end
